-- ==== Sys2Proof/Word.lean ====
section
/-! DEFINITION. The plain data the DT-8's records are built from: bytes, tables of a fixed number of
entries, and sets of indices. -/

namespace Sys2Proof

/-- One byte as the loop carries it (R147). -/
abbrev Byte := BitVec 8

/-- The largest figure of a gram sum: every such sum saturates here (R20, R44, R133). -/
def maxGrams : Nat := 18446744073709551615

/-- A table of exactly `n` entries, read and written by index. -/
structure Tbl (α : Type) (n : Nat) where
  items : List α
  len : items.length = n
deriving DecidableEq, Repr

/-- The entry at an index. -/
def Tbl.get {α : Type} {n : Nat} (t : Tbl α n) (i : Fin n) : α :=
  t.items[i.val]'(by rw [t.len]; exact i.isLt)

/-- The table with one entry replaced. -/
def Tbl.set {α : Type} {n : Nat} (t : Tbl α n) (i : Fin n) (x : α) : Tbl α n :=
  ⟨t.items.set i.val x, by simp [t.len]⟩

/-- The table with `f` applied to every entry. -/
def Tbl.map {α β : Type} {n : Nat} (t : Tbl α n) (f : α → β) : Tbl β n :=
  ⟨t.items.map f, by simp [t.len]⟩

/-- The table whose every entry is `x`. -/
def Tbl.fill {α : Type} (n : Nat) (x : α) : Tbl α n :=
  ⟨List.replicate n x, by simp⟩

/-- The table whose entry at `i` is `f i`. -/
def Tbl.ofIndex {α : Type} (n : Nat) (f : Fin n → α) : Tbl α n :=
  ⟨(List.finRange n).map f, by simp⟩

/-- The lowest index whose entry meets `p`. -/
def Tbl.findIdx? {α : Type} {n : Nat} (t : Tbl α n) (p : α → Bool) : Option (Fin n) :=
  (List.finRange n).find? fun i => p (t.get i)

/-- A subset of the indices `0 .. n - 1`; equal sets are equal data. -/
structure IdxSet (n : Nat) where
  bits : Tbl Bool n
deriving DecidableEq, Repr

/-- The set without members. -/
def IdxSet.empty (n : Nat) : IdxSet n := ⟨Tbl.fill n false⟩

/-- Membership. -/
def IdxSet.has {n : Nat} (S : IdxSet n) (i : Fin n) : Bool := S.bits.get i

/-- The set with `i` in it. -/
def IdxSet.insert {n : Nat} (S : IdxSet n) (i : Fin n) : IdxSet n := ⟨S.bits.set i true⟩

/-- The set without `i`. -/
def IdxSet.erase {n : Nat} (S : IdxSet n) (i : Fin n) : IdxSet n := ⟨S.bits.set i false⟩

/-- The set whose only member is `i`. -/
def IdxSet.single {n : Nat} (i : Fin n) : IdxSet n := (IdxSet.empty n).insert i

/-- The members, in ascending order. -/
def IdxSet.toList {n : Nat} (S : IdxSet n) : List (Fin n) := (List.finRange n).filter S.has

/-- The number of members. -/
def IdxSet.card {n : Nat} (S : IdxSet n) : Nat := S.bits.items.count true

/-- Whether the set has no member. -/
def IdxSet.isEmpty {n : Nat} (S : IdxSet n) : Bool := S.card == 0

/-- A stream number, 0..7. -/
abbrev StreamIdx := Fin 8
/-- A segment number, 0..63. -/
abbrev SegIdx := Fin 64
/-- A route table index, 0..95. -/
abbrev RouteIdx := Fin 96
/-- A bin number, 0..39. -/
abbrev BinIdx := Fin 40
/-- A lot table index, 0..31. -/
abbrev LotIdx := Fin 32
/-- A hold-map index, 0..47. -/
abbrev HoldIdx := Fin 48
/-- A lamp number, 0..7. -/
abbrev LampIdx := Fin 8

/-- An index read from a request, when it lies in its table. -/
def idx? (n k : Nat) : Option (Fin n) := if h : k < n then some ⟨k, h⟩ else none

end Sys2Proof
end

