-- ==== Sys2Proof/Syntax.lean ====
section
/-! DEFINITION. The commands the DT-8 takes: one constructor of `Instr` for each row of
spec/opcode_table.json, with the operands that row carries. -/

namespace Sys2Proof

/-- Who sent a request and under which tag: its REPLY goes back to them (R162). -/
structure Requester where
  source : Byte
  tag : BitVec 16
deriving DecidableEq, Repr

/-- The payload of a SAMPLE frame (R158): sequence, meter time, cumulative count, hold code, layer, flags. -/
structure SampleFields where
  seq : Byte
  time : BitVec 16
  count : BitVec 24
  hold : Byte
  layer : Byte
  flags : Byte
deriving DecidableEq, Repr

/-- Start index and count of a READ (R164, R165). -/
structure ReadArgs where
  start : Nat
  count : Nat
deriving DecidableEq, Repr

/-- Index and entry of a WRITE (R166): `none` is the absent marker. -/
structure WriteArgs (α : Type) where
  index : Nat
  entry : Option α
deriving DecidableEq, Repr

/-- A code the Management unit does not know (R163, tests 2 and 3). -/
inductive UnknownCode where
  /-- A request code outside 1..18. -/
  | request (code : Byte)
  /-- A READ or WRITE table code outside 0..12. -/
  | table (code : Byte)
deriving DecidableEq, Repr

/-- The tables no WRITE may name (R166). -/
inductive ReadOnlyTable where
  | streamStatus | outturn | segmentStatus | binStatus | events | counters
deriving DecidableEq, Repr

/-- The record of a STREAM-CONFIG write (R26, R27); `none` is a field the write leaves out. -/
structure StreamConfigWrite where
  meter : Option Nat
  unloader : Option Nat
  intake : Option Nat
  gapLimit : Option Nat
  silenceTime : Option Nat
  unrouted : Option Nat
deriving DecidableEq, Repr

/-- The record of a CALIBRATION write (R75). -/
structure CalibrationWrite where
  span : Option Nat
  zero : Option Nat
  trim : Option Int
  ceiling : Option Nat
  jump : Option Nat
deriving DecidableEq, Repr

/-- The record of a HOLD-MAP write (R2). -/
structure HoldWrite where
  hold : Option Nat
  layer : Option Nat
  lot : Option Nat
deriving DecidableEq, Repr

/-- The record of a LOT write (R5). -/
structure LotWrite where
  number : Option Nat
  cls : Option Nat
  declared : Option Nat
  tolerance : Option Nat
  bins : Option (List Nat)
deriving DecidableEq, Repr

/-- One step of a ROUTE write: a segment and an optional position (R106, R107). -/
structure StepWrite where
  segment : Option Nat
  position : Option Nat
deriving DecidableEq, Repr

/-- The record of a ROUTE write (R107). -/
structure RouteWrite where
  stream : Option Nat
  bin : Option Nat
  steps : Option (List StepWrite)
deriving DecidableEq, Repr

/-- The kinds of segment, in the order R84 names them. -/
inductive KindName where
  | conveyor | diverter | gate
deriving DecidableEq, Repr

/-- The record of a SEGMENT-CONFIG write (R84, R85). -/
structure SegConfigWrite where
  kind : Option KindName
  actuator : Option Nat
  bin : Option Nat
  flushTime : Option Nat
  travelLimit : Option Nat
  shareLimit : Option Nat
  flowSwitch : Option Bool
deriving DecidableEq, Repr

/-- The record of a BIN-CONFIG write (R129, R130). -/
structure BinConfigWrite where
  capacity : Option Nat
  gauge : Option Nat
  high : Option Nat
  preStage : Option Nat
  resume : Option Nat
  empty : Option Nat
deriving DecidableEq, Repr

/-- UNLOCK-CALIBRATION's arguments (R73). -/
structure UnlockArgs where
  stream : Nat
  serial : Nat
deriving DecidableEq, Repr

/-- CAPTURE-ZERO's arguments (R78); the window is in seconds. -/
structure CaptureArgs where
  stream : Nat
  window : Option Nat
deriving DecidableEq, Repr

/-- SET-LAMP's arguments for a lamp (R167): the target, the setting's byte, the stream field. -/
structure LampArgs where
  target : Nat
  setting : Nat
  stream : Option Nat
deriving DecidableEq, Repr

/-- SET-LAMP's arguments for target 8 (FORCE-OFF) or 9 (FORCE-ON). -/
structure ForceArgs where
  forceOn : Bool
  setting : Nat
deriving DecidableEq, Repr

/-- The commands, one constructor per row of spec/opcode_table.json, in the table's order. The rows of requests
carry their requester and `some` arguments, or `none` where the argument bytes fail tests 4 and 5 of R163
(log 8, log 9). -/
inductive Instr where
  /-- RESET: the levels of ADDR5..ADDR0 and of CALEN at the reset (R149, R71). -/
  | reset (straps : BitVec 6) (calen : Bool)
  /-- CALEN_FALL (R71). -/
  | calenFall
  /-- CALEN_RISE (R71). -/
  | calenRise
  /-- FRAME_RECEIVED: the data characters between a START and the next control character (R147). -/
  | frameReceived (chars : List Byte)
  /-- SAMPLE: a good broadcast SAMPLE frame of length 9 (R150, R151). -/
  | sample (source : Byte) (fields : SampleFields)
  /-- LEVEL: a good LEVEL frame addressed to the DT-8 (R140). -/
  | level (source : Byte) (value : BitVec 16)
  /-- POSREP: a good POSREP frame addressed to the DT-8 (R92). -/
  | posrep (source : Byte) (position : Byte)
  /-- MANAGE: a good MANAGE frame addressed to the DT-8 (R160). -/
  | manage (source : Byte) (tag : BitVec 16) (code : Byte) (args : List Byte)
  /-- UNKNOWN_REQUEST (R163). -/
  | unknownRequest (q : Requester) (bad : UnknownCode)
  /-- WRITE_READ_ONLY_TABLE (R166). -/
  | writeReadOnlyTable (q : Requester) (table : ReadOnlyTable)
  /-- READ_STREAM_CONFIG (R47). -/
  | readStreamConfig (q : Requester) (a : Option ReadArgs)
  /-- READ_CALIBRATION (R77). -/
  | readCalibration (q : Requester) (a : Option ReadArgs)
  /-- READ_STREAM_STATUS (R47). -/
  | readStreamStatus (q : Requester) (a : Option ReadArgs)
  /-- READ_HOLD_MAP (R1). -/
  | readHoldMap (q : Requester) (a : Option ReadArgs)
  /-- READ_LOT (R8). -/
  | readLot (q : Requester) (a : Option ReadArgs)
  /-- READ_OUTTURN (R25). -/
  | readOutturn (q : Requester) (a : Option ReadArgs)
  /-- READ_ROUTE (R108). -/
  | readRoute (q : Requester) (a : Option ReadArgs)
  /-- READ_SEGMENT_CONFIG (R105). -/
  | readSegmentConfig (q : Requester) (a : Option ReadArgs)
  /-- READ_SEGMENT_STATUS (R105). -/
  | readSegmentStatus (q : Requester) (a : Option ReadArgs)
  /-- READ_BIN_CONFIG (R145). -/
  | readBinConfig (q : Requester) (a : Option ReadArgs)
  /-- READ_BIN_STATUS (R145). -/
  | readBinStatus (q : Requester) (a : Option ReadArgs)
  /-- READ_EVENTS (R175). -/
  | readEvents (q : Requester) (a : Option ReadArgs)
  /-- READ_COUNTERS (R175). -/
  | readCounters (q : Requester) (a : Option ReadArgs)
  /-- WRITE_STREAM_CONFIG (R27). -/
  | writeStreamConfig (q : Requester) (a : Option (WriteArgs StreamConfigWrite))
  /-- WRITE_CALIBRATION (R75, R76). -/
  | writeCalibration (q : Requester) (a : Option (WriteArgs CalibrationWrite))
  /-- WRITE_HOLD_MAP (R2). -/
  | writeHoldMap (q : Requester) (a : Option (WriteArgs HoldWrite))
  /-- WRITE_LOT (R5, R6, R7). -/
  | writeLot (q : Requester) (a : Option (WriteArgs LotWrite))
  /-- WRITE_ROUTE (R107). -/
  | writeRoute (q : Requester) (a : Option (WriteArgs RouteWrite))
  /-- WRITE_SEGMENT_CONFIG (R85). -/
  | writeSegmentConfig (q : Requester) (a : Option (WriteArgs SegConfigWrite))
  /-- WRITE_BIN_CONFIG (R130). -/
  | writeBinConfig (q : Requester) (a : Option (WriteArgs BinConfigWrite))
  /-- OPEN_LOT: a lot number (R9). -/
  | openLot (q : Requester) (lot : Option Nat)
  /-- CLOSE_LOT: a lot number (R12, R13). -/
  | closeLot (q : Requester) (lot : Option Nat)
  /-- HOLD_STREAM: a stream (R40). -/
  | holdStream (q : Requester) (stream : Option Nat)
  /-- RELEASE_STREAM: a stream (R40). -/
  | releaseStream (q : Requester) (stream : Option Nat)
  /-- ACCEPT_SUSPECT: a stream (R46, R68). -/
  | acceptSuspect (q : Requester) (stream : Option Nat)
  /-- DISCARD_SUSPECT: a stream (R46). -/
  | discardSuspect (q : Requester) (stream : Option Nat)
  /-- BIN_EMPTIED: a bin (R142). -/
  | binEmptied (q : Requester) (bin : Option Nat)
  /-- BIN_SERVICE_OUT: a bin (R143). -/
  | binServiceOut (q : Requester) (bin : Option Nat)
  /-- BIN_SERVICE_IN: a bin (R143). -/
  | binServiceIn (q : Requester) (bin : Option Nat)
  /-- CLEAR_SEGMENT_FAULT: a segment (R97). -/
  | clearSegmentFault (q : Requester) (segment : Option Nat)
  /-- UNLOCK_CALIBRATION (R73). -/
  | unlockCalibration (q : Requester) (a : Option UnlockArgs)
  /-- CAPTURE_ZERO (R78). -/
  | captureZero (q : Requester) (a : Option CaptureArgs)
  /-- RELEASE_OUTTURN: a lot number (R24). -/
  | releaseOutturn (q : Requester) (lot : Option Nat)
  /-- CLEAR_EVENTS: the 24-position pattern (R173). -/
  | clearEvents (q : Requester) (pattern : Option (BitVec 24))
  /-- SET_MASK: the 24-position pattern (R172). -/
  | setMask (q : Requester) (pattern : Option (BitVec 24))
  /-- SET_LAMP_MODE: SET-LAMP for a lamp, or for a target no lamp or force has (R167, R176). -/
  | setLampMode (q : Requester) (a : Option LampArgs)
  /-- SET_LAMP_FORCE: SET-LAMP for FORCE-OFF or FORCE-ON (R167, R176). -/
  | setLampForce (q : Requester) (a : Option ForceArgs)
  /-- RESTART (R168). -/
  | restart (q : Requester) (a : Option Unit)
  /-- RESTART_INTERVAL_END (R169). -/
  | restartIntervalEnd
  /-- SILENCE_TIMER_EXPIRY (R41). -/
  | silenceTimerExpiry (stream : StreamIdx)
  /-- PERMIT_TIMER_EXPIRY (R42). -/
  | permitTimerExpiry (stream : StreamIdx)
  /-- DRAIN_TIMER_EXPIRY (R38). -/
  | drainTimerExpiry (stream : StreamIdx)
  /-- UNLOCK_EXPIRY (R74). -/
  | unlockExpiry
  /-- TRAVEL_TIMER_EXPIRY (R94). -/
  | travelTimerExpiry (segment : SegIdx)
  /-- FLUSH_TIMER_EXPIRY (R99). -/
  | flushTimerExpiry (segment : SegIdx)
  /-- POLL_TIMER_EXPIRY (R137). -/
  | pollTimerExpiry (bin : BinIdx)
  /-- REPLY_TIMER_EXPIRY (R139). -/
  | replyTimerExpiry (bin : BinIdx)
  /-- TRANSMIT_END (R156). -/
  | transmitEnd
  /-- LAMP_PHASE_END (R177). -/
  | lampPhaseEnd (lamp : LampIdx)
deriving DecidableEq, Repr

end Sys2Proof
end

