-- ==== Sys2Proof/Machine/State.lean ====
section
/-! DEFINITION. The state of the DT-8, block by block, as the chapters of spec/ give it, and the state after
reset. -/

namespace Sys2Proof.Machine

/-! ## Loop interface (08) -/

/-- A good frame, whole (R147): its length byte and its CRC follow from the rest. -/
structure Frame where
  dst : Byte
  src : Byte
  kind : Byte
  payload : List Byte
deriving DecidableEq, Repr

/-- The outcomes of a REPLY, in the order of their codes 0..11 (R164). -/
inductive ReplyCode where
  | done | unknown | badTable | badIndex | badRecord | duplicate | inUse | badState | locked | full
  | notFound | restarting
deriving DecidableEq, Repr

/-- A frame the DT-8 originates, as the placing block forms it; the Loop interface adds source and CRC
(08, The own-frame queue). -/
inductive OwnFrame where
  /-- PERMIT to an unloader: stream, feed, bin, lot (R42). -/
  | permit (dst : Nat) (stream : StreamIdx) (feed : Bool) (bin : BinIdx) (lot : Nat)
  /-- SET to an actuator: position (R88). -/
  | set (dst : Nat) (position : Nat)
  /-- POLL to a gauge (R138). -/
  | poll (dst : Nat)
  /-- One part of a REPLY (R155). -/
  | reply (dst : Byte) (tag : BitVec 16) (outcome : ReplyCode) (part : Nat) (last : Bool) (data : List Byte)
  /-- NOTICE: the event summary (R174). -/
  | notice (dst : Byte) (summary : BitVec 24)
deriving DecidableEq, Repr

structure Loop where
  /-- Latched station address, 0..62 (R149). -/
  address : Nat
  /-- Forward buffer, oldest first, up to 4 (R152). -/
  forward : List Frame
  /-- Own-frame queue, oldest first, up to 24 (R153). -/
  own : List OwnFrame
  /-- The frame being sent, or IDLE (R156). -/
  tx : Option Frame
  /-- Characters of it still to be sent (R146). The model's own field. -/
  txLeft : Nat
  /-- The four loop counters (R157). -/
  crc : Nat
  fwdDrop : Nat
  ownDrop : Nat
  mgmtDrop : Nat
deriving DecidableEq, Repr

/-! ## Stream unit (02) -/

/-- A stream's configuration (R26). -/
structure StreamConfig where
  meter : Option Nat
  unloader : Option Nat
  intake : Option SegIdx
  gapLimit : Nat
  silenceTime : Nat
  unrouted : Nat
deriving DecidableEq, Repr

/-- The stream states, in the order R28 names them. -/
inductive StreamState where
  | idle | waiting | feeding | draining | held
deriving DecidableEq, Repr

/-- A hold-reason set (R28): which of the five reasons it holds. -/
structure HoldSet where
  operator : Bool
  silent : Bool
  meter : Bool
  noBin : Bool
  segment : Bool
deriving DecidableEq, Repr

/-- A hold reason as it is added or removed (R37, R39): NO-BIN names a lot, SEGMENT a segment. -/
inductive HoldReason where
  | operator
  | silent
  | meter
  | noBin (lot : Nat)
  | segment (g : SegIdx)
deriving DecidableEq, Repr

/-- The last accepted or priming sample (R28). -/
structure LastSample where
  seq : Nat
  time : Nat
  count : Nat
  rate : Nat
deriving DecidableEq, Repr

/-- The result of a lookup in the hold map (R3). -/
inductive Lookup where
  | noLot
  | lot (number : Nat)
deriving DecidableEq, Repr

/-- A stream's suspect record (R45). -/
structure Suspect where
  counts : Nat
  firstSeq : Nat
  lastSeq : Nat
  time : Nat
  lot : Option Nat
  bin : Option BinIdx
deriving DecidableEq, Repr

/-- A stream record (R26, R28). Timers hold milliseconds remaining, `none` when disarmed. -/
structure Stream where
  config : StreamConfig
  state : StreamState
  reasons : HoldSet
  fromIdle : Bool
  noBinLot : Option Nat
  faulted : IdxSet 64
  currentLot : Option Nat
  activeRoute : Option RouteIdx
  last : Option LastSample
  fedAtLast : Bool
  lastLookup : Option Lookup
  demand : Bool
  silence : Option Nat
  permit : Option Nat
  drain : Option Nat
  unassigned : Nat
  sinceRead : Nat
  unroutedReported : Bool
  certifiedSinceRead : Bool
  suspect : Option Suspect
  missed : Nat
  discarded : Nat
deriving DecidableEq, Repr

/-! ## Tally engine (03, 04) -/

/-- The five values of a calibration record (R70). -/
structure Calibration where
  span : Nat
  zero : Nat
  trim : Int
  ceiling : Nat
  jump : Nat
deriving DecidableEq, Repr

/-- Why a zero capture was abandoned, in the order of R81's table. -/
inductive AbortCause where
  | meterRestart | demand | meterFault | gap | gross | leftIdle | unlockExpired | unlockReplaced
  | enableLow | restart
deriving DecidableEq, Repr

/-- How a zero capture ended (R82): `done` with the new zero rate, or `aborted` with its cause. -/
inductive CaptureOutcome where
  | done (newZero : Nat)
  | aborted (cause : AbortCause)
deriving DecidableEq, Repr

/-- A capture report (R82). -/
structure CaptureReport where
  outcome : CaptureOutcome
  window : Nat
  counts : Nat
  time : Nat
  serial : Nat
deriving DecidableEq, Repr

/-- What the Tally engine holds for one stream (R50, R70, R82). -/
structure Tally where
  cal : Option Calibration
  serial : Nat
  residue : Nat
  overCount : Nat
  jumpCount : Nat
  report : Option CaptureReport
deriving DecidableEq, Repr

/-- The running zero capture (R79). -/
structure Capture where
  stream : StreamIdx
  window : Nat
  counts : Nat
  time : Nat
deriving DecidableEq, Repr

structure TallyEngine where
  streams : Tbl Tally 8
  capture : Option Capture
deriving DecidableEq, Repr

/-! ## Lot manager (01) -/

/-- A present hold-map entry (R1). -/
structure HoldEntry where
  hold : Nat
  layer : Nat
  lot : Nat
deriving DecidableEq, Repr

/-- The lot states, in the order R4 names them. -/
inductive LotState where
  | planned | opened | discharging | closing
deriving DecidableEq, Repr

/-- The close kinds (R4). -/
inductive CloseKind where
  | requested | plannedClose
deriving DecidableEq, Repr

/-- One entry of a bin list: a bin and the grams the lot has delivered to it (R4). -/
structure Delivery where
  bin : BinIdx
  grams : Nat
deriving DecidableEq, Repr

/-- A lot record (R4). -/
structure Lot where
  number : Nat
  cls : Nat
  declared : Option Nat
  tolerance : Nat
  state : LotState
  closeKind : Option CloseKind
  bins : List Delivery
  current : Option Nat
  certified : Nat
  uncertified : Nat
  attached : IdxSet 8
  used : IdxSet 8
  overrunReported : Bool
  outturnFullReported : Bool
deriving DecidableEq, Repr

/-- An out-turn record (R22). -/
structure Outturn where
  number : Nat
  cls : Nat
  declared : Option Nat
  certified : Nat
  uncertified : Nat
  used : IdxSet 8
  deliveries : List Delivery
  closeKind : CloseKind
deriving DecidableEq, Repr

structure LotManager where
  holdMap : Tbl (Option HoldEntry) 48
  lots : Tbl (Option Lot) 32
  /-- Oldest first, up to 16 (R22). -/
  outturn : List Outturn
deriving DecidableEq, Repr

/-! ## Segment unit (05) -/

/-- What a segment is, with the fields only that kind has (R84). -/
inductive SegKind where
  | conveyor
  | diverter (actuator : Nat) (flowSwitch : Bool)
  | gate (actuator : Nat) (bin : BinIdx)
deriving DecidableEq, Repr

/-- A segment's configuration (R84): flush time in 0.1 s, travel limit in s. -/
structure SegConfig where
  kind : SegKind
  flushTime : Nat
  travelLimit : Nat
  shareLimit : Nat
deriving DecidableEq, Repr

/-- The segment states, in the order R86 names them. -/
inductive SegState where
  | free | setting | ready | carrying | flushing | closing | fault
deriving DecidableEq, Repr

/-- The reservation kinds (R86). -/
inductive ResKind where
  | active | staged
deriving DecidableEq, Repr

/-- A segment record (R84, R86). The feeding count is the number of members of `feeders`. -/
structure Segment where
  config : Option SegConfig
  state : SegState
  underFlow : Bool
  owner : Option Nat
  kind : Option ResKind
  holders : IdxSet 8
  feeders : IdxSet 8
  commanded : Option Nat
  reported : Option Nat
  unflushed : Bool
  flush : Option Nat
  travel : Option Nat
deriving DecidableEq, Repr

/-! ## Route allocator (06) -/

/-- One step of a route: a segment and the position required of it, none for a CONVEYOR (R106). -/
structure Step where
  segment : SegIdx
  position : Option Nat
deriving DecidableEq, Repr

/-- A route record (R106). -/
structure Route where
  stream : StreamIdx
  bin : BinIdx
  steps : List Step
deriving DecidableEq, Repr

/-- A queued request (R109). -/
structure Request where
  stream : StreamIdx
  lot : Nat
  bin : BinIdx
  route : Option RouteIdx
  granted : Bool
deriving DecidableEq, Repr

/-- A stream's staging record (R120). -/
structure Staging where
  target : BinIdx
  route : Option RouteIdx
  staged : IdxSet 64
deriving DecidableEq, Repr

structure Allocator where
  routes : Tbl (Option Route) 96
  /-- The request queue, oldest first (R109). -/
  queue : List Request
  staging : Tbl (Option Staging) 8
deriving DecidableEq, Repr

/-! ## Bin unit (07) -/

/-- A bin's configuration (R129). -/
structure BinConfig where
  capacity : Nat
  gauge : Option Nat
  high : Nat
  preStage : Nat
  resume : Nat
  empty : Nat
deriving DecidableEq, Repr

/-- The bin states, in the order R131 names them. -/
inductive BinState where
  | outOfService | available | filling | full
deriving DecidableEq, Repr

/-- The gauge states (R131). -/
inductive GaugeState where
  | ok | lost
deriving DecidableEq, Repr

/-- A bin record (R129, R131); class `none` is EMPTY. -/
structure Bin where
  config : Option BinConfig
  state : BinState
  cls : Option Nat
  fill : Nat
  estimate : Option Nat
  gaugeLevel : Option Nat
  gaugeState : GaugeState
  misses : Nat
  pollOutstanding : Bool
  replyTimer : Option Nat
  pollTimer : Option Nat
  judged : Option Nat
  nearFull : Bool
  inletGate : Option SegIdx
  gateCarrying : Bool
  gateReserved : Bool
deriving DecidableEq, Repr

/-! ## Management unit (09) -/

/-- A MANAGE frame as the Management unit holds it (R159, R158). -/
structure MFrame where
  source : Byte
  tag : BitVec 16
  code : Byte
  args : List Byte
deriving DecidableEq, Repr

/-- The unlock record (R72). -/
structure Unlock where
  stream : StreamIdx
  left : Nat
  held : Bool
deriving DecidableEq, Repr

structure Management where
  /-- Oldest first, up to 4 (R159). -/
  input : List MFrame
  inHand : Option MFrame
  lastSource : Option Byte
  /-- Time remaining of a running restart interval (R168). -/
  restartLeft : Option Nat
  unlock : Option Unlock
  /-- The level of the CALEN pin (R71). -/
  calen : Bool
deriving DecidableEq, Repr

/-! ## Event and indication unit (10) -/

/-- The event kinds, in the order of their numbers 0..17 (08, Codes). -/
inductive EventKind where
  | powerUp | restarted | streamSilent | meterSuspect | overRange | rateJump | unrouted | noLot | noBin
  | stageMiss | lotOverrun | segmentFault | gaugeLost | binFull | outturnReady | outturnFull | captureEnd
  | loopError
deriving DecidableEq, Repr

/-- An event record (R171). -/
structure EventRecord where
  flag : Bool
  count : Nat
  source : Nat
  mask : Bool
deriving DecidableEq, Repr

/-- The lamp modes, in the order R167 names them. -/
inductive LampMode where
  | stream | alert | on | off
deriving DecidableEq, Repr

/-- The patterns of R177; `blink f` blinks at `f` Hz. -/
inductive LampPattern where
  | off
  | doubleFlash
  | steady
  | blink (hz : Nat)
  | flashSlow
  | flashFast
deriving DecidableEq, Repr

/-- A pattern being shown: its phase (0 is the first on phase) and the milliseconds left of it. -/
structure Shown where
  pattern : LampPattern
  phase : Nat
  left : Nat
deriving DecidableEq, Repr

/-- A lamp (R176); `shown` is its pattern while its mode is STREAM (R177). -/
structure Lamp where
  mode : LampMode
  assigned : StreamIdx
  shown : Option Shown
deriving DecidableEq, Repr

structure Indication where
  events : Tbl EventRecord 18
  /-- The alert output, driving the ALERT pin (R174). -/
  alert : Bool
  lamps : Tbl Lamp 8
  forceOff : Bool
  forceOn : Bool
deriving DecidableEq, Repr

/-! ## Reports between blocks -/

/-- A report one block has made and the others have not yet taken (05, Reports to other blocks; 07, Reports to
other blocks; R19), or an evaluation pass that is to follow (R115). They are taken within the command that
makes them (log 5). -/
inductive Report where
  /-- Bin unit to Lot manager and allocator: a change of state, class or configuration (R16, R135). -/
  | bin (b : BinIdx)
  /-- The Lot manager goes on examining the lots from table index `i` for bin `b` (R16). -/
  | examineLots (b : BinIdx) (i : Nat)
  /-- Lot manager to allocator and Stream unit: a lot's current bin has changed (R19). -/
  | currentBin (lot : Nat) (new : Option BinIdx)
  /-- Segment unit to allocator: the segment has become READY (R115, R117). -/
  | ready (g : SegIdx)
  /-- Segment unit to Stream unit: the end of the segment's flush (R38, R99). -/
  | endOfFlush (g : SegIdx)
  /-- Segment unit to allocator: the segment has faulted (R95, R119). -/
  | faulted (g : SegIdx)
  /-- Segment unit to allocator and Stream unit: the fault has been cleared (R97). -/
  | cleared (g : SegIdx)
  /-- An evaluation pass, when an occasion for one has arisen (R115). -/
  | pass
  /-- The evaluation pass that ends a changeover (R123, step 4). -/
  | passNow
deriving DecidableEq, Repr

/-! ## The machine -/

structure State where
  /-- Commands waiting, first in first out (the model's own). -/
  pending : List Instr
  /-- Reports not yet taken; empty between commands (the model's own, log 5). -/
  agenda : List Report
  /-- An occasion for an evaluation pass has arisen (R115; the model's own). -/
  passDue : Bool
  /-- Character times since the last whole millisecond, 0..99 (R146; the model's own). -/
  charTime : Nat
  loop : Loop
  streams : Tbl Stream 8
  tally : TallyEngine
  lot : LotManager
  segs : Tbl Segment 64
  alloc : Allocator
  bins : Tbl Bin 40
  mgmt : Management
  ind : Indication
deriving DecidableEq, Repr

/-- The reasons a step could fault. No command of the DT-8 stops the block: a segment's fault, a lost gauge or a
refused request is state and answers (INVENTORY.md, Faults), so the type has no constructor. Safe: nothing raises
it. -/
inductive Fault where
deriving DecidableEq, Repr

/-- The reasons a step could be refused. -/
inductive Refusal where
  /-- A command that has no meaning in the model, by its mnemonic. Raised by `exec`'s refused arms alone; none is
  left. Safe: the step stops. -/
  | notModelled (mnemonic : String)
deriving DecidableEq, Repr

/-! ## Reset -/

/-- The empty hold-reason set. -/
def HoldSet.none : HoldSet := ⟨false, false, false, false, false⟩

/-- R26's reset values. -/
def StreamConfig.reset : StreamConfig :=
  { meter := .none, unloader := .none, intake := .none, gapLimit := 1000, silenceTime := 1500, unrouted := 50 }

/-- R28's reset values. -/
def Stream.reset : Stream :=
  { config := StreamConfig.reset, state := .idle, reasons := HoldSet.none, fromIdle := false, noBinLot := .none
    faulted := IdxSet.empty 64, currentLot := .none, activeRoute := .none, last := .none, fedAtLast := false
    lastLookup := .none, demand := false, silence := .none, permit := .none, drain := .none, unassigned := 0
    sinceRead := 0, unroutedReported := false, certifiedSinceRead := true, suspect := .none, missed := 0
    discarded := 0 }

/-- R50's and R70's reset values. -/
def Tally.reset : Tally := { cal := none, serial := 0, residue := 0, overCount := 0, jumpCount := 0, report := none }

/-- R84's and R86's reset values. -/
def Segment.reset : Segment :=
  { config := none, state := .free, underFlow := false, owner := none, kind := none, holders := IdxSet.empty 8
    feeders := IdxSet.empty 8, commanded := none, reported := none, unflushed := false, flush := none
    travel := none }

/-- R129's and R131's reset values. -/
def Bin.reset : Bin :=
  { config := none, state := .outOfService, cls := none, fill := 0, estimate := none, gaugeLevel := none
    gaugeState := .ok, misses := 0, pollOutstanding := false, replyTimer := none, pollTimer := none
    judged := none, nearFull := false, inletGate := none, gateCarrying := false, gateReserved := false }

/-- R149: the straps' value, 63 latched as 62. -/
def latchAddress (straps : Nat) : Nat := if straps = 63 then 62 else straps

/-- R146, R149, R152, R153, R157. -/
def Loop.reset (straps : Nat) : Loop :=
  { address := latchAddress straps, forward := [], own := [], tx := none, txLeft := 0
    crc := 0, fwdDrop := 0, ownDrop := 0, mgmtDrop := 0 }

/-- R171: every record clear, and POWER-UP (kind 0) set with count 1 by the reset. -/
def eventsAtReset : Tbl EventRecord 18 :=
  (Tbl.fill 18 { flag := false, count := 0, source := 0, mask := false }).set 0
    { flag := true, count := 1, source := 0, mask := false }

/-- R176, R177: lamp n in STREAM mode, assigned stream n, whose state is IDLE. -/
def lampAtReset (n : LampIdx) : Lamp := { mode := .stream, assigned := n, shown := some ⟨.off, 0, 0⟩ }

/-- R171, R174, R176. -/
def Indication.reset : Indication :=
  { events := eventsAtReset, alert := false, lamps := Tbl.ofIndex 8 lampAtReset, forceOff := false
    forceOn := false }

/-- R71, R72, R159. -/
def Management.reset (calen : Bool) : Management :=
  { input := [], inHand := none, lastSource := none, restartLeft := none, unlock := none, calen := calen }

/-- The DT-8 right after a reset that finds the straps at `straps` and CALEN at `calen`, with `pending` still to
be taken. -/
def State.resetWith (straps : Nat) (calen : Bool) (pending : List Instr) : State :=
  { pending := pending, agenda := [], passDue := false, charTime := 0
    loop := Loop.reset straps
    streams := Tbl.fill 8 Stream.reset
    tally := { streams := Tbl.fill 8 Tally.reset, capture := none }
    lot := { holdMap := Tbl.fill 48 none, lots := Tbl.fill 32 none, outturn := [] }
    segs := Tbl.fill 64 Segment.reset
    alloc := { routes := Tbl.fill 96 none, queue := [], staging := Tbl.fill 8 none }
    bins := Tbl.fill 40 Bin.reset
    mgmt := Management.reset calen
    ind := Indication.reset }

/-- The machine right after reset. DESIGN CHOICE (log 1), unsafe: the straps and CALEN all at the low level. -/
def State.reset : State := State.resetWith 0 false []

end Sys2Proof.Machine
end

