-- ==== Sys2Proof/Machine/Operands.lean ====
section
/-! DEFINITION. The wire: field encodings (08, Field encoding), the CRC (R148), the frame envelope (R147), the
payloads of the DT-8's own frames (08, Kinds and payloads), and the character stream of a link (R146). -/

namespace Sys2Proof.Machine

/-! ## Fields, most significant byte first (R158) -/

/-- The number some bytes spell. -/
def natOfBytes (l : List Byte) : Nat := l.foldl (fun acc b => acc * 256 + b.toNat) 0

/-- `n` in `k` bytes. -/
def bytesOf : Nat → Nat → List Byte
  | 0, _ => []
  | k + 1, n => BitVec.ofNat 8 (n / 256 ^ k) :: bytesOf k n

/-- A flag or mark: 1 byte, 0 clear or 1 set. -/
def flagByte (b : Bool) : List Byte := [if b then 1 else 0]

/-- The trim T: 2 bytes, two's complement. -/
def trimBytes (t : Int) : List Byte := bytesOf 2 (BitVec.ofInt 16 t).toNat

/-- An optional field: a presence byte, and the value when present. -/
def optBytes {α : Type} (enc : α → List Byte) : Option α → List Byte
  | none => [0]
  | some x => 1 :: enc x

/-- A list: a count byte and the items. -/
def listBytes {α : Type} (enc : α → List Byte) (l : List α) : List Byte :=
  bytesOf 1 l.length ++ l.flatMap enc

/-- The number whose bit `i` is set for each member `i`. -/
def setValue {n : Nat} (S : IdxSet n) : Nat := S.toList.foldl (fun acc i => acc + 2 ^ i.val) 0

/-- A set of streams: 1 byte, bit n for stream n. -/
def streamSetByte (S : IdxSet 8) : List Byte := bytesOf 1 (setValue S)

/-- A set of segments: 8 bytes; byte j holds segments 8j..8j+7, bit i for segment 8j+i: the set's number, least
significant byte first. -/
def segSetBytes (S : IdxSet 64) : List Byte := (bytesOf 8 (setValue S)).reverse

/-- A hold-reason set: bits 0..4 for OPERATOR, SILENT, METER, NO-BIN, SEGMENT. -/
def holdSetByte (h : HoldSet) : List Byte :=
  bytesOf 1 (h.operator.toNat + 2 * h.silent.toNat + 4 * h.meter.toNat + 8 * h.noBin.toNat + 16 * h.segment.toNat)

/-! ## Reading fields from argument bytes

Each reader answers the value and the bytes after it, or `none` where the arguments end in the middle of a field or
a presence byte is neither 0 nor 1 (R163, test 4). -/

/-- A whole number of `k` bytes. -/
def takeNat (k : Nat) (l : List Byte) : Option (Nat × List Byte) :=
  if k ≤ l.length then some (natOfBytes (l.take k), l.drop k) else none

/-- A flag or presence byte. A presence byte other than 0 or 1 is refused by R163, test 4. DESIGN CHOICE (log 39): no test
of R163 names a flag byte other than 0 or 1 (08: 0 clear, 1 set); the model refuses it as well. -/
def takeFlag : List Byte → Option (Bool × List Byte)
  | b :: l => if b = 0 then some (false, l) else if b = 1 then some (true, l) else none
  | [] => none

/-- The trim. -/
def takeTrim (l : List Byte) : Option (Int × List Byte) :=
  match takeNat 2 l with
  | some (n, l') => some ((BitVec.ofNat 16 n).toInt, l')
  | none => none

/-- A named value: one byte below `names` (R163, test 5). -/
def takeNamed (names : Nat) (l : List Byte) : Option (Nat × List Byte) :=
  match takeNat 1 l with
  | some (n, l') => if n < names then some (n, l') else none
  | none => none

/-- An optional field. -/
def takeOpt {α : Type} (rd : List Byte → Option (α × List Byte)) (l : List Byte) :
    Option (Option α × List Byte) :=
  match takeFlag l with
  | some (false, l') => some (none, l')
  | some (true, l') =>
    match rd l' with
    | some (x, l'') => some (some x, l'')
    | none => none
  | none => none

/-- `n` items one after another. -/
def takeItems {α : Type} (rd : List Byte → Option (α × List Byte)) : Nat → List Byte → Option (List α × List Byte)
  | 0, l => some ([], l)
  | n + 1, l =>
    match rd l with
    | some (x, l') =>
      match takeItems rd n l' with
      | some (xs, l'') => some (x :: xs, l'')
      | none => none
    | none => none

/-- A list: a count byte and the items. -/
def takeList {α : Type} (rd : List Byte → Option (α × List Byte)) (l : List Byte) : Option (List α × List Byte) :=
  match takeNat 1 l with
  | some (n, l') => takeItems rd n l'
  | none => none

/-- A value whose bytes are all of `l`: bytes left over after the last field fail (R163, test 4). -/
def exactly {α : Type} (r : Option (α × List Byte)) : Option α :=
  match r with
  | some (x, []) => some x
  | _ => none

/-! ## The CRC (R148) -/

/-- x¹² + x⁵ + 1: the generator's lower sixteen terms. -/
def crcGenerator : BitVec 16 := 0x1021

/-- The check register after one more bit. -/
def crcBit (reg : BitVec 16) (bit : Bool) : BitVec 16 :=
  if xor bit reg.msb then (reg <<< 1) ^^^ crcGenerator else reg <<< 1

/-- The check register after one more byte, taken most significant bit first. -/
def crcByte (reg : BitVec 16) (b : Byte) : BitVec 16 :=
  [7, 6, 5, 4, 3, 2, 1, 0].foldl (fun r i => crcBit r (b.getLsbD i)) reg

/-- The CRC of some bytes, from a register of all ones. -/
def crcOf (l : List Byte) : BitVec 16 := l.foldl crcByte 0xFFFF

/-! ## The frame envelope (R147) -/

/-- Bytes 0 .. 3 + n of a frame: what its CRC is formed over. -/
def Frame.body (f : Frame) : List Byte :=
  [f.dst, f.src, f.kind, BitVec.ofNat 8 f.payload.length] ++ f.payload

/-- The frame's data characters, with its CRC, high byte first. -/
def Frame.bytes (f : Frame) : List Byte := f.body ++ bytesOf 2 (crcOf f.body).toNat

/-- The judgement of a received frame: `some` frame when it is good, `none` when it is bad (R147). -/
def judgeFrame : List Byte → Option Frame
  | d :: src :: kind :: len :: rest =>
    let n := len.toNat
    if n ≤ 48 ∧ rest.length = n + 2 then
      let f : Frame := ⟨d, src, kind, rest.take n⟩
      if rest.drop n = bytesOf 2 (crcOf f.body).toNat then some f else none
    else none
  | _ => none

/-- Frame kinds by code (08, Kinds and payloads). -/
def kindSample : Byte := 1
def kindLevel : Byte := 2
def kindPoll : Byte := 3
def kindSet : Byte := 4
def kindPosrep : Byte := 5
def kindPermit : Byte := 6
def kindManage : Byte := 7
def kindReply : Byte := 8
def kindNotice : Byte := 9

/-- The broadcast address (R147). -/
def broadcast : Byte := 63

/-! ## The DT-8's own frames -/

/-- The outcome codes 0..11 (08, Codes). -/
def ReplyCode.code : ReplyCode → Nat
  | .done => 0 | .unknown => 1 | .badTable => 2 | .badIndex => 3 | .badRecord => 4 | .duplicate => 5
  | .inUse => 6 | .badState => 7 | .locked => 8 | .full => 9 | .notFound => 10 | .restarting => 11

/-- The frame the Loop interface sends for an own frame: source and CRC are its addition (R149). -/
def OwnFrame.toFrame (address : Nat) : OwnFrame → Frame
  | .permit dst i feed b lot =>
    ⟨BitVec.ofNat 8 dst, BitVec.ofNat 8 address, kindPermit,
      bytesOf 1 i.val ++ flagByte feed ++ bytesOf 1 b.val ++ bytesOf 2 lot⟩
  | .set dst p => ⟨BitVec.ofNat 8 dst, BitVec.ofNat 8 address, kindSet, bytesOf 1 p⟩
  | .poll dst => ⟨BitVec.ofNat 8 dst, BitVec.ofNat 8 address, kindPoll, []⟩
  | .reply dst tag outcome part last data =>
    ⟨dst, BitVec.ofNat 8 address, kindReply,
      bytesOf 2 tag.toNat ++ bytesOf 1 outcome.code ++ bytesOf 1 (part + if last then 128 else 0) ++ data⟩
  | .notice dst summary => ⟨dst, BitVec.ofNat 8 address, kindNotice, bytesOf 3 summary.toNat⟩

/-- Cuts reply data into pieces of 44 bytes; data of 44 bytes or fewer is one piece (R155). DESIGN CHOICE (log 44): data of
an exact multiple of 44 bytes ends with a piece of 44, and no empty piece follows it. -/
def chunks44 : Nat → List Byte → List (List Byte)
  | 0, l => [l]
  | fuel + 1, l => if l.length ≤ 44 then [l] else l.take 44 :: chunks44 fuel (l.drop 44)

/-- The REPLY frames of one reply: numbered from `part`, the last one marked (R155). -/
def replyFrames (q : Requester) (o : ReplyCode) : Nat → List (List Byte) → List OwnFrame
  | _, [] => []
  | part, [d] => [.reply q.source q.tag o part true d]
  | part, d :: ds => .reply q.source q.tag o part false d :: replyFrames q o (part + 1) ds

/-- All the parts of a reply with these data. -/
def replyParts (q : Requester) (o : ReplyCode) (data : List Byte) : List OwnFrame :=
  replyFrames q o 0 (chunks44 data.length data)

/-! ## The link's characters (R146) -/

/-- What a link carries: the two control characters and the 256 data characters. -/
inductive LineChar where
  | idle
  | start
  | data (b : Byte)
deriving DecidableEq, Repr

/-- The characters of a frame on the transmit pair: a preamble of two IDLEs and a START, then its bytes. -/
def Frame.line (f : Frame) : List LineChar := [.idle, .idle, .start] ++ f.bytes.map .data

/-- Character times a frame takes with its preamble. -/
def Frame.lineLength (f : Frame) : Nat := f.payload.length + 9

/-- What the receiver makes of a link's characters: the data characters of each frame it completes, in order.
`cur` holds the characters of the frame being received, `none` outside a frame. A frame begins at START, ends at
the next control character, and a START that ends one begins the next (R146, R147). -/
def receiveLine : Option (List Byte) → List LineChar → List (List Byte)
  | _, [] => []
  | none, .start :: l => receiveLine (some []) l
  | none, _ :: l => receiveLine none l
  | some cur, .data b :: l => receiveLine (some (cur ++ [b])) l
  | some cur, .idle :: l => cur :: receiveLine none l
  | some cur, .start :: l => cur :: receiveLine (some []) l

end Sys2Proof.Machine
end

