-- ==== Sys2Proof/Decode.lean ====
section
/-! DEFINITION. Taking a MANAGE frame apart into the command it asks for (R163, R164, R166), and the host's decoder
of opcode-table words: the DT-8's table gives its rows no bits. -/

namespace Sys2Proof

open Sys2Proof.Machine

/-! ## Records of a WRITE: every field an optional field (R166) -/

/-- A STREAM-CONFIG record, in the order of R26. -/
def takeStreamConfig (l : List Byte) : Option (StreamConfigWrite × List Byte) := do
  let (meter, l) ← takeOpt (takeNat 1) l
  let (unloader, l) ← takeOpt (takeNat 1) l
  let (intake, l) ← takeOpt (takeNat 1) l
  let (gapLimit, l) ← takeOpt (takeNat 2) l
  let (silenceTime, l) ← takeOpt (takeNat 2) l
  let (unrouted, l) ← takeOpt (takeNat 2) l
  some (⟨meter, unloader, intake, gapLimit, silenceTime, unrouted⟩, l)

/-- A CALIBRATION record, in the order of R70. -/
def takeCalibration (l : List Byte) : Option (CalibrationWrite × List Byte) := do
  let (span, l) ← takeOpt (takeNat 4) l
  let (zero, l) ← takeOpt (takeNat 2) l
  let (trim, l) ← takeOpt takeTrim l
  let (ceiling, l) ← takeOpt (takeNat 4) l
  let (jump, l) ← takeOpt (takeNat 4) l
  some (⟨span, zero, trim, ceiling, jump⟩, l)

/-- A HOLD-MAP record (R1). -/
def takeHold (l : List Byte) : Option (HoldWrite × List Byte) := do
  let (hold, l) ← takeOpt (takeNat 1) l
  let (layer, l) ← takeOpt (takeNat 1) l
  let (lot, l) ← takeOpt (takeNat 2) l
  some (⟨hold, layer, lot⟩, l)

/-- A LOT record, in the order of R5. -/
def takeLot (l : List Byte) : Option (LotWrite × List Byte) := do
  let (number, l) ← takeOpt (takeNat 2) l
  let (cls, l) ← takeOpt (takeNat 1) l
  let (declared, l) ← takeOpt (takeNat 4) l
  let (tolerance, l) ← takeOpt (takeNat 1) l
  let (bins, l) ← takeOpt (takeList (takeNat 1)) l
  some (⟨number, cls, declared, tolerance, bins⟩, l)

/-- A step: a segment and an optional position (R166). -/
def takeStep (l : List Byte) : Option (StepWrite × List Byte) := do
  let (segment, l) ← takeNat 1 l
  let (position, l) ← takeOpt (takeNat 1) l
  some (⟨some segment, position⟩, l)

/-- A ROUTE record, in the order of R106. -/
def takeRoute (l : List Byte) : Option (RouteWrite × List Byte) := do
  let (stream, l) ← takeOpt (takeNat 1) l
  let (bin, l) ← takeOpt (takeNat 1) l
  let (steps, l) ← takeOpt (takeList takeStep) l
  some (⟨stream, bin, steps⟩, l)

/-- A segment kind, a named value of R84's three. -/
def takeKind (l : List Byte) : Option (KindName × List Byte) := do
  let (n, l) ← takeNamed 3 l
  some (if n = 0 then .conveyor else if n = 1 then .diverter else .gate, l)

/-- A SEGMENT-CONFIG record, in the order of R84. -/
def takeSegConfig (l : List Byte) : Option (SegConfigWrite × List Byte) := do
  let (kind, l) ← takeOpt takeKind l
  let (actuator, l) ← takeOpt (takeNat 1) l
  let (bin, l) ← takeOpt (takeNat 1) l
  let (flushTime, l) ← takeOpt (takeNat 2) l
  let (travelLimit, l) ← takeOpt (takeNat 1) l
  let (shareLimit, l) ← takeOpt (takeNat 1) l
  let (flowSwitch, l) ← takeOpt takeFlag l
  some (⟨kind, actuator, bin, flushTime, travelLimit, shareLimit, flowSwitch⟩, l)

/-- A BIN-CONFIG record, in the order of R129. -/
def takeBinConfig (l : List Byte) : Option (BinConfigWrite × List Byte) := do
  let (capacity, l) ← takeOpt (takeNat 4) l
  let (gauge, l) ← takeOpt (takeNat 1) l
  let (high, l) ← takeOpt (takeNat 2) l
  let (preStage, l) ← takeOpt (takeNat 2) l
  let (resume, l) ← takeOpt (takeNat 2) l
  let (empty, l) ← takeOpt (takeNat 2) l
  some (⟨capacity, gauge, high, preStage, resume, empty⟩, l)

/-! ## Arguments -/

/-- Start index and count, after the table code (R164). -/
def readArgs (l : List Byte) : Option ReadArgs :=
  exactly do
    let (start, l) ← takeNat 1 l
    let (count, l) ← takeNat 1 l
    some (⟨start, count⟩, l)

/-- Index and entry, after the table code (R166). -/
def writeArgs {α : Type} (rd : List Byte → Option (α × List Byte)) (l : List Byte) : Option (WriteArgs α) :=
  exactly do
    let (index, l) ← takeNat 1 l
    let (entry, l) ← takeOpt rd l
    some (⟨index, entry⟩, l)

/-- One number of `k` bytes and nothing else. -/
def numberArg (k : Nat) (l : List Byte) : Option Nat := exactly (takeNat k l)

/-- A pattern of 24 positions. -/
def patternArg (l : List Byte) : Option (BitVec 24) := (numberArg 3 l).map (BitVec.ofNat 24)

/-- UNLOCK-CALIBRATION's arguments. -/
def unlockArgs (l : List Byte) : Option UnlockArgs :=
  exactly do
    let (stream, l) ← takeNat 1 l
    let (serial, l) ← takeNat 2 l
    some (⟨stream, serial⟩, l)

/-- CAPTURE-ZERO's arguments. -/
def captureArgs (l : List Byte) : Option CaptureArgs :=
  exactly do
    let (stream, l) ← takeNat 1 l
    let (window, l) ← takeOpt (takeNat 2) l
    some (⟨stream, window⟩, l)

/-- BIN-SERVICE's arguments: a bin and a direction, 0 out or 1 in. -/
def serviceArgs (l : List Byte) : Option (Nat × Nat) :=
  exactly do
    let (bin, l) ← takeNat 1 l
    let (direction, l) ← takeNamed 2 l
    some ((bin, direction), l)

/-- SET-LAMP's arguments: target, setting, optional stream. -/
def lampArgs (l : List Byte) : Option LampArgs :=
  exactly do
    let (target, l) ← takeNat 1 l
    let (setting, l) ← takeNat 1 l
    let (stream, l) ← takeOpt (takeNat 1) l
    some (⟨target, setting, stream⟩, l)

/-! ## Requests -/

/-- A READ (R164), by its table code. -/
def decodeRead (q : Requester) (table : Byte) (l : List Byte) : Instr :=
  match table.toNat with
  | 0 => .readStreamConfig q (readArgs l)
  | 1 => .readCalibration q (readArgs l)
  | 2 => .readStreamStatus q (readArgs l)
  | 3 => .readHoldMap q (readArgs l)
  | 4 => .readLot q (readArgs l)
  | 5 => .readOutturn q (readArgs l)
  | 6 => .readRoute q (readArgs l)
  | 7 => .readSegmentConfig q (readArgs l)
  | 8 => .readSegmentStatus q (readArgs l)
  | 9 => .readBinConfig q (readArgs l)
  | 10 => .readBinStatus q (readArgs l)
  | 11 => .readEvents q (readArgs l)
  | 12 => .readCounters q (readArgs l)
  | _ => .unknownRequest q (.table table)

/-- A WRITE (R166), by its table code; a read-only table is refused before its arguments are looked at (R163). -/
def decodeWrite (q : Requester) (table : Byte) (l : List Byte) : Instr :=
  match table.toNat with
  | 0 => .writeStreamConfig q (writeArgs takeStreamConfig l)
  | 1 => .writeCalibration q (writeArgs takeCalibration l)
  | 2 => .writeReadOnlyTable q .streamStatus
  | 3 => .writeHoldMap q (writeArgs takeHold l)
  | 4 => .writeLot q (writeArgs takeLot l)
  | 5 => .writeReadOnlyTable q .outturn
  | 6 => .writeRoute q (writeArgs takeRoute l)
  | 7 => .writeSegmentConfig q (writeArgs takeSegConfig l)
  | 8 => .writeReadOnlyTable q .segmentStatus
  | 9 => .writeBinConfig q (writeArgs takeBinConfig l)
  | 10 => .writeReadOnlyTable q .binStatus
  | 11 => .writeReadOnlyTable q .events
  | 12 => .writeReadOnlyTable q .counters
  | _ => .unknownRequest q (.table table)

/-- BIN-SERVICE: one row for each direction; arguments that fail are of the first (log 9). -/
def decodeService (q : Requester) (l : List Byte) : Instr :=
  match serviceArgs l with
  | none => .binServiceOut q none
  | some (bin, direction) => if direction = 0 then .binServiceOut q (some bin) else .binServiceIn q (some bin)

/-- SET-LAMP: one row for lamps, one for the forces; arguments that fail are of the first (log 9). -/
def decodeLamp (q : Requester) (l : List Byte) : Instr :=
  match lampArgs l with
  | none => .setLampMode q none
  | some a =>
    if a.target = 8 then .setLampForce q (some ⟨false, a.setting⟩)
    else if a.target = 9 then .setLampForce q (some ⟨true, a.setting⟩)
    else .setLampMode q (some a)

/-- The command a request asks for, its arguments taken apart (R163, R164, R166, the command table of 09). A READ or
WRITE without a table code is a STREAM-CONFIG request whose arguments fail (log 9). -/
def decodeRequest (f : MFrame) : Instr :=
  let q : Requester := ⟨f.source, f.tag⟩
  match f.code.toNat with
  | 1 => match f.args with
    | table :: l => decodeRead q table l
    | [] => .readStreamConfig q none
  | 2 => match f.args with
    | table :: l => decodeWrite q table l
    | [] => .writeStreamConfig q none
  | 3 => .openLot q (numberArg 2 f.args)
  | 4 => .closeLot q (numberArg 2 f.args)
  | 5 => .holdStream q (numberArg 1 f.args)
  | 6 => .releaseStream q (numberArg 1 f.args)
  | 7 => .acceptSuspect q (numberArg 1 f.args)
  | 8 => .discardSuspect q (numberArg 1 f.args)
  | 9 => .binEmptied q (numberArg 1 f.args)
  | 10 => decodeService q f.args
  | 11 => .clearSegmentFault q (numberArg 1 f.args)
  | 12 => .unlockCalibration q (unlockArgs f.args)
  | 13 => .captureZero q (captureArgs f.args)
  | 14 => .releaseOutturn q (numberArg 2 f.args)
  | 15 => .clearEvents q (patternArg f.args)
  | 16 => .setMask q (patternArg f.args)
  | 17 => decodeLamp q f.args
  | 18 => .restart q (if f.args = [] then some () else none)
  | _ => .unknownRequest q (.request f.code)

/-- The command a word of spec/opcode_table.json spells. The table gives no row any bits: no word spells a command. -/
def decodeTableWord (_nbits _w : Nat) : Option Instr := none

end Sys2Proof
end

