-- ==== Sys2Proof/Config.lean ====
section
/-! DEFINITION. The one value the spec leaves open after which the DT-8 goes on. -/

namespace Sys2Proof

/-- Half a period of the 3 Hz blink lies between 166 and 167 ms (R177), and the DT-8's timers run in whole
milliseconds (00_scope.md, Times): which of the two a phase lasts is not stated. A FREE VALUE, by the
number of the lamp and the phase (log 15). -/
opaque Config.blink3HalfExtra : Nat → Nat → Fin 2

end Sys2Proof
end

