-- ==== Sys2Proof/Machine/Ops.lean ====
section
/-! DEFINITION. The named operations over the DT-8's records: reading and changing one record of a table,
saturating sums, timers. Everything else goes through these. -/

namespace Sys2Proof.Machine

/-! ## Saturating sums and clamping -/

/-- A counter of 0..255 counted `k` times: it saturates at 255 (R31, R66, R157, R171). -/
def countUp (n k : Nat) : Nat := min 255 (n + k)

/-- A gram sum, or any sum of 64-bit range, with `g` added: it saturates (R20, R44, R45, R133). -/
def satAdd (n g : Nat) : Nat := min maxGrams (n + g)

/-- A scalar setting clamped to the nearest limit of its range (00_scope.md, Clamping and refusal). -/
def clamp (lo hi n : Nat) : Nat := max lo (min hi n)

/-- The same for a signed setting (R75). -/
def clampInt (lo hi n : Int) : Int := max lo (min hi n)

/-! ## Streams -/

/-- Stream `i`'s record. -/
def State.stream (s : State) (i : StreamIdx) : Stream := s.streams.get i

/-- `s` with stream `i`'s record replaced. -/
def State.putStream (s : State) (i : StreamIdx) (x : Stream) : State :=
  { s with streams := s.streams.set i x }

/-- `s` with stream `i`'s record changed by `f`. -/
def State.modStream (s : State) (i : StreamIdx) (f : Stream → Stream) : State :=
  s.putStream i (f (s.stream i))

/-! ## Tally engine -/

/-- What the Tally engine holds for stream `i`. -/
def State.tallyOf (s : State) (i : StreamIdx) : Tally := s.tally.streams.get i

/-- `s` with it replaced. -/
def State.putTally (s : State) (i : StreamIdx) (x : Tally) : State :=
  { s with tally := { s.tally with streams := s.tally.streams.set i x } }

/-- `s` with it changed by `f`. -/
def State.modTally (s : State) (i : StreamIdx) (f : Tally → Tally) : State :=
  s.putTally i (f (s.tallyOf i))

/-- `s` with the running zero capture replaced. -/
def State.putCapture (s : State) (c : Option Capture) : State :=
  { s with tally := { s.tally with capture := c } }

/-! ## Lots -/

/-- The lot table entry at `i`. -/
def State.lotAt (s : State) (i : LotIdx) : Option Lot := s.lot.lots.get i

/-- `s` with the lot table entry at `i` replaced. -/
def State.putLot (s : State) (i : LotIdx) (x : Option Lot) : State :=
  { s with lot := { s.lot with lots := s.lot.lots.set i x } }

/-- `s` with the out-turn list replaced. -/
def State.putOutturn (s : State) (l : List Outturn) : State :=
  { s with lot := { s.lot with outturn := l } }

/-- `s` with the hold-map entry at `i` replaced. -/
def State.putHold (s : State) (i : HoldIdx) (x : Option HoldEntry) : State :=
  { s with lot := { s.lot with holdMap := s.lot.holdMap.set i x } }

/-- The lot table index of lot `n`, when the table holds it. -/
def State.lotIdx? (s : State) (n : Nat) : Option LotIdx :=
  s.lot.lots.findIdx? fun e => match e with | some l => l.number == n | none => false

/-- The record of lot `n`, when the table holds it. -/
def State.findLot (s : State) (n : Nat) : Option Lot :=
  match s.lotIdx? n with
  | some i => s.lotAt i
  | none => none

/-! ## Segments -/

/-- Segment `g`'s record. -/
def State.seg (s : State) (g : SegIdx) : Segment := s.segs.get g

/-- `s` with segment `g`'s record replaced. -/
def State.putSeg (s : State) (g : SegIdx) (x : Segment) : State := { s with segs := s.segs.set g x }

/-! ## Routes, requests, staging -/

/-- The route table entry at `r`. -/
def State.routeAt (s : State) (r : RouteIdx) : Option Route := s.alloc.routes.get r

/-- `s` with the route table entry at `r` replaced. -/
def State.putRoute (s : State) (r : RouteIdx) (x : Option Route) : State :=
  { s with alloc := { s.alloc with routes := s.alloc.routes.set r x } }

/-- `s` with the request queue replaced. -/
def State.putQueue (s : State) (q : List Request) : State :=
  { s with alloc := { s.alloc with queue := q } }

/-- Stream `i`'s staging record. -/
def State.stagingOf (s : State) (i : StreamIdx) : Option Staging := s.alloc.staging.get i

/-- `s` with it replaced. -/
def State.putStaging (s : State) (i : StreamIdx) (x : Option Staging) : State :=
  { s with alloc := { s.alloc with staging := s.alloc.staging.set i x } }

/-! ## Bins -/

/-- Bin `b`'s record. -/
def State.bin (s : State) (b : BinIdx) : Bin := s.bins.get b

/-- `s` with bin `b`'s record replaced. -/
def State.putBin (s : State) (b : BinIdx) (x : Bin) : State := { s with bins := s.bins.set b x }

/-! ## Whole blocks, reports -/

/-- `s` with the Loop interface's state replaced. -/
def State.putLoop (s : State) (l : Loop) : State := { s with loop := l }

/-- `s` with the Management unit's state replaced. -/
def State.putMgmt (s : State) (m : Management) : State := { s with mgmt := m }

/-- `s` with the unlock record replaced (R72). -/
def State.putUnlock (s : State) (u : Option Unlock) : State := s.putMgmt { s.mgmt with unlock := u }

/-- `s` with the Event and indication unit's state replaced. -/
def State.putInd (s : State) (x : Indication) : State := { s with ind := x }

/-- `s` with report `r` made, to be taken after those made before it. -/
def State.emit (s : State) (r : Report) : State := { s with agenda := s.agenda ++ [r] }

/-- An occasion for an evaluation pass has arisen (R115). -/
def State.occasion (s : State) : State := { s with passDue := true }

/-- Whether the restart interval is running (R168). -/
def State.restarting (s : State) : Bool := s.mgmt.restartLeft.isSome

/-- `f` applied for each index of a table in ascending order. -/
def forEach {n : Nat} (f : Fin n → State → State) (s : State) : State :=
  (List.finRange n).foldl (fun s i => f i s) s

/-! ## Timers -/

/-- A timer one millisecond later; a disarmed one stays disarmed. -/
def tickTimer : Option Nat → Option Nat
  | none => none
  | some n => some (n - 1)

/-- Whether a timer is armed with nothing left. -/
def timerDue : Option Nat → Bool
  | some 0 => true
  | _ => false

end Sys2Proof.Machine
end

