-- ==== Sys2Proof/Machine/Loop.lean ====
section
/-! DEFINITION. The Loop interface: forward buffer, own-frame queue and transmitter (08). -/

namespace Sys2Proof.Machine

/-- The forward buffer's capacity (R152). -/
def forwardRoom : Nat := 4
/-- The own-frame queue's capacity (R153). -/
def ownRoom : Nat := 24

/-- The transmitter begins to send `f` (R156). -/
def Loop.begin (l : Loop) (f : Frame) : Loop := { l with tx := some f, txLeft := f.lineLength }

/-- An idle transmitter chooses the next frame: the forward buffer's oldest, else the own-frame queue's oldest, else
it goes on sending IDLE (R156). -/
def Loop.choose (l : Loop) : Loop :=
  match l.tx with
  | some _ => l
  | none =>
    match l.forward with
    | f :: r => ({ l with forward := r }).begin f
    | [] =>
      match l.own with
      | o :: r => ({ l with own := r }).begin (o.toFrame l.address)
      | [] => l

/-- Whether an own frame is the unsent PERMIT of stream `i` (R154). -/
def OwnFrame.isPermitOf (i : StreamIdx) : OwnFrame → Bool
  | .permit _ j _ _ _ => j == i
  | _ => false

/-- The stream a frame is a PERMIT of. -/
def OwnFrame.permitStream : OwnFrame → Option StreamIdx
  | .permit _ j _ _ _ => some j
  | _ => none

/-- Puts `f` in the place of the unsent PERMIT of stream `i`. -/
def replacePermit (i : StreamIdx) (f : OwnFrame) (q : List OwnFrame) : List OwnFrame :=
  q.map fun o => if o.isPermitOf i then f else o

/-- An own frame joins the end of the queue, or is dropped and counted (R153). -/
def Loop.append (l : Loop) (f : OwnFrame) : Loop :=
  if l.own.length < ownRoom then { l with own := l.own ++ [f] } else { l with ownDrop := countUp l.ownDrop 1 }

/-- An own frame is placed: a PERMIT replaces its stream's unsent one (R154), any other joins (R153). -/
def Loop.enqueue (l : Loop) (f : OwnFrame) : Loop :=
  match f.permitStream with
  | some i => if l.own.any (·.isPermitOf i) then { l with own := replacePermit i f l.own } else l.append f
  | none => l.append f

/-- A frame "sent": placed in the own-frame queue, and chosen at once by an idle transmitter (R153, R156). -/
def State.place (s : State) (f : OwnFrame) : State := s.putLoop (s.loop.enqueue f).choose

/-- The parts of a reply joining together, or dropped together with OWN-DROP counted for each (R155). -/
def Loop.enqueueReply (l : Loop) (parts : List OwnFrame) : Loop :=
  if l.own.length + parts.length ≤ ownRoom then { l with own := l.own ++ parts }
  else { l with ownDrop := countUp l.ownDrop parts.length }

/-- A REPLY is placed (R155, R164). -/
def State.placeReply (s : State) (q : Requester) (o : ReplyCode) (data : List Byte) : State :=
  s.putLoop (s.loop.enqueueReply (replyParts q o data)).choose

/-- A frame to be forwarded joins the forward buffer, or is dropped and counted (R152). -/
def Loop.forwardFrame (l : Loop) (f : Frame) : Loop :=
  if l.forward.length < forwardRoom then { l with forward := l.forward ++ [f] }
  else { l with fwdDrop := countUp l.fwdDrop 1 }

/-- A frame is forwarded (R150, R152, R156). -/
def State.forward (s : State) (f : Frame) : State := s.putLoop (s.loop.forwardFrame f).choose

/-- The end of the frame being sent: the transmitter chooses again (R156). No frame being sent, nothing ends. DESIGN
CHOICE (log 3): a TRANSMIT_END ends the frame however many of its characters are still to be sent. -/
def Loop.frameSent (l : Loop) : Loop :=
  match l.tx with
  | some _ => ({ l with tx := none, txLeft := 0 }).choose
  | none => l

end Sys2Proof.Machine
end

