-- ==== Sys2Proof/Machine/Flags.lean ====
section
/-! DEFINITION. The Event and indication unit: event records, the alert output and NOTICE, and the signal lamps
(10). -/

namespace Sys2Proof.Machine

/-! ## Events (R171) -/

/-- The kind's number k (08, Codes). -/
def EventKind.num : EventKind → Fin 18
  | .powerUp => 0 | .restarted => 1 | .streamSilent => 2 | .meterSuspect => 3 | .overRange => 4 | .rateJump => 5
  | .unrouted => 6 | .noLot => 7 | .noBin => 8 | .stageMiss => 9 | .lotOverrun => 10 | .segmentFault => 11
  | .gaugeLost => 12 | .binFull => 13 | .outturnReady => 14 | .outturnFull => 15 | .captureEnd => 16
  | .loopError => 17

/-- A raise acts on the kind's record: flag set, count up, source replaced. -/
def EventRecord.raise (r : EventRecord) (source : Nat) : EventRecord :=
  { r with flag := true, count := countUp r.count 1, source := source }

/-- Whether the kind's flag reaches the alert output (R172). -/
def EventRecord.live (r : EventRecord) : Bool := r.flag && r.mask

/-- The event summary of a NOTICE: bit k for kind k flagged and unmasked (R174). -/
def eventSummary (e : Tbl EventRecord 18) : BitVec 24 :=
  (List.finRange 18).foldl (fun acc k => if (e.get k).live then acc ||| (1#24 <<< k.val) else acc) 0#24

/-- Whether some kind has both its flag and its mask bit set (R174). -/
def anyLive (e : Tbl EventRecord 18) : Bool := e.items.any EventRecord.live

/-- The alert output is judged; going active it sends one NOTICE to the last MANAGE source, when there is one
(R174). -/
def judgeAlert (s : State) : State :=
  let active := anyLive s.ind.events
  let s' := s.putInd { s.ind with alert := active }
  if active && !s.ind.alert then
    match s.mgmt.lastSource with
    | some a => s'.place (.notice a (eventSummary s.ind.events))
    | none => s'
  else s'

/-- `s` with the event records replaced. -/
def State.putEvents (s : State) (e : Tbl EventRecord 18) : State := s.putInd { s.ind with events := e }

/-- A block raises an event (R171), and the alert is judged again (R174). -/
def raise (k : EventKind) (source : Nat) (s : State) : State :=
  judgeAlert (s.putEvents (s.ind.events.set k.num ((s.ind.events.get k.num).raise source)))

/-- SET-MASK's effect: the mask bit of kind k takes position k (R172). -/
def setMasks (pattern : BitVec 24) (s : State) : State :=
  judgeAlert (s.putEvents (Tbl.ofIndex 18 fun k => { s.ind.events.get k with mask := pattern.getLsbD k.val }))

/-- CLEAR-EVENTS' effect: a kind whose position is 0 has its flag and count cleared (R173). -/
def clearEventRecords (pattern : BitVec 24) (s : State) : State :=
  judgeAlert (s.putEvents (Tbl.ofIndex 18 fun k =>
    let r := s.ind.events.get k
    if pattern.getLsbD k.val then r else { r with flag := false, count := 0 }))

/-! ## Signal lamps (R176, R177) -/

/-- The blink's frequency at a judged level `j` at or above the pre-stage threshold `p`. -/
def blinkHz (j p : Nat) : Nat := min 5 (1 + (j - p) / 20)

/-- The judged level and the pre-stage threshold of a stream's active route's bin. -/
def routeBinLevels (s : State) (i : StreamIdx) : Option (Nat × Nat) :=
  match (s.stream i).activeRoute with
  | none => none
  | some r =>
    match s.routeAt r with
    | none => none
    | some route =>
      match (s.bin route.bin).judged, (s.bin route.bin).config with
      | some j, some c => some (j, c.preStage)
      | _, _ => none

/-- The pattern for an assigned stream (R177). -/
def patternFor (s : State) (i : StreamIdx) : LampPattern :=
  match (s.stream i).state with
  | .idle => .off
  | .waiting => .doubleFlash
  | .feeding =>
    match routeBinLevels s i with
    | some (j, p) => if j < p then .steady else .blink (blinkHz j p)
    | none => .steady
  | .draining => .flashSlow
  | .held => .flashFast

/-- How many phases a pattern repeats; 0 for one that does not change. Even phases are on, odd ones off. -/
def LampPattern.phases : LampPattern → Nat
  | .off | .steady => 0
  | .doubleFlash => 4
  | .blink _ | .flashSlow | .flashFast => 2

/-- The milliseconds of a phase (R177). Half a period of 3 Hz is 166 or 167 ms: a free value (log 15). -/
def phaseLength (lamp : LampIdx) (p : LampPattern) (phase : Nat) : Nat :=
  match p with
  | .off | .steady => 0
  | .doubleFlash => if phase = 0 then 100 else if phase = 1 then 150 else if phase = 2 then 100 else 1650
  | .blink hz => if hz = 3 then 166 + (Config.blink3HalfExtra lamp.val phase).val else 500 / hz
  | .flashSlow => if phase = 0 then 100 else 900
  | .flashFast => if phase = 0 then 100 else 150

/-- A pattern at the beginning of its on phase. -/
def startPattern (lamp : LampIdx) (p : LampPattern) : Shown := ⟨p, 0, phaseLength lamp p 0⟩

/-- A lamp's pattern chosen anew: a pattern that differs from the one shown starts afresh, the same one runs on
(R177); in the other modes none is shown. -/
def refreshLamp (s : State) (n : LampIdx) (l : Lamp) : Lamp :=
  match l.mode with
  | .stream =>
    let p := patternFor s l.assigned
    match l.shown with
    | some sh => if sh.pattern = p then l else { l with shown := some (startPattern n p) }
    | none => { l with shown := some (startPattern n p) }
  | _ => { l with shown := none }

/-- Every lamp's pattern chosen anew: on every change of a stream's state or active route, on every judgement of a bin
(R177), and at the end of a command, which a SET-LAMP may be (R176, log 16). A lamp whose pattern does not differ is left
as it is. -/
def refreshLamps (s : State) : State :=
  s.putInd { s.ind with lamps := Tbl.ofIndex 8 fun n => refreshLamp s n (s.ind.lamps.get n) }

/-- The end of the phase a lamp shows: the next phase begins (R177). -/
def Lamp.nextPhase (lamp : LampIdx) (l : Lamp) : Lamp :=
  match l.shown with
  | some sh =>
    if sh.pattern.phases = 0 then l
    else
      let ph := (sh.phase + 1) % sh.pattern.phases
      { l with shown := some ⟨sh.pattern, ph, phaseLength lamp sh.pattern ph⟩ }
  | none => l

/-- Whether a pattern is on in a phase. -/
def Shown.lit (sh : Shown) : Bool :=
  match sh.pattern with
  | .off => false
  | .steady => true
  | _ => sh.phase % 2 == 0

/-- The lamp output LAMPn, the first line of R176's table that applies deciding. -/
def State.lampOutput (s : State) (n : LampIdx) : Bool :=
  let l := s.ind.lamps.get n
  if s.ind.forceOn then true
  else if s.ind.forceOff then false
  else match l.mode with
    | .on => true
    | .off => false
    | .alert => s.ind.alert
    | .stream => match l.shown with | some sh => sh.lit | none => false

end Sys2Proof.Machine
end

