-- ==== Sys2Proof/Machine/Bins.lean ====
section
/-! DEFINITION. The Bin unit: levels, judgement, gate changes, polling, segregation class (07). -/

namespace Sys2Proof.Machine

/-! ## Polling (R137) -/

/-- The poll period of a bin as it stands, `none` when it is not polled. -/
def Bin.period (b : Bin) : Option Nat :=
  match b.config with
  | none => none
  | some c =>
    match c.gauge with
    | none => none
    | some _ =>
      match b.state with
      | .outOfService => none
      | .filling => some (if b.nearFull then 1000 else 4000)
      | .available | .full => some 30000

/-- A bin ceases to be polled: timers disarmed, a poll outstanding forgotten, no miss counted. -/
def Bin.stopPolls (b : Bin) : Bin :=
  { b with pollTimer := none, pollOutstanding := false, replyTimer := none }

/-- The poll timer's new setting when a bin whose period was `old` has become `b` (R137): becoming polled, changing
its period, ceasing to be polled. -/
def Bin.repoll (old : Option Nat) (b : Bin) : Bin :=
  match old, b.period with
  | none, some _ => { b with pollTimer := some 0 }
  | some p, some p' =>
    if p = p' then b else { b with pollTimer := b.pollTimer.map (min · p') }
  | some _, none => b.stopPolls
  | none, none => b

/-! ## Levels and judgement (R134, R135, R136) -/

/-- floor(fill / capacity), at most 1000 (R134). -/
def estimateLevel (fill capacity : Nat) : Nat := min 1000 (fill / capacity)

/-- The judged level of a configured bin: the larger of the estimate and a present gauge level (R134). -/
def Bin.judgedLevel (b : Bin) (c : BinConfig) : Nat :=
  match b.gaugeLevel with
  | some l => max (estimateLevel b.fill c.capacity) l
  | none => estimateLevel b.fill c.capacity

/-- The judgement's first two parts: the levels are formed and the near-full flag is set (R134, R136). -/
def Bin.formLevels (b : Bin) (c : BinConfig) : Bin :=
  let j := b.judgedLevel c
  Bin.repoll b.period
    { b with estimate := some (estimateLevel b.fill c.capacity), judged := some j
             nearFull := decide (c.preStage ≤ j) }

/-- The state a judged bin takes (R135). -/
def Bin.judgedState (b : Bin) (c : BinConfig) : BinState :=
  let j := b.judgedLevel c
  match b.state with
  | .available | .filling => if c.high ≤ j then .full else b.state
  | .full => if j < c.resume then (if b.gateCarrying then .filling else .available) else .full
  | .outOfService => .outOfService

/-- A bin with its state changed, its poll period following (R137). -/
def Bin.withState (b : Bin) (st : BinState) : Bin := Bin.repoll b.period { b with state := st }

/-- The judgement of R134: levels, which the lamps of the streams feeding the bin follow (R177), near-full flag (a change
of it is an occasion for a pass, R115), then the state;
a bin becoming FULL raises BIN-FULL, and a change of state is reported (R135). An unconfigured bin is not judged. -/
def judgeBin (b : BinIdx) (s : State) : State :=
  match (s.bin b).config with
  | none => s
  | some c =>
    let x := s.bin b
    let x1 := x.formLevels c
    let s1 := refreshLamps ((if x1.nearFull = x.nearFull then s else s.occasion).putBin b x1)
    let st := x.judgedState c
    if st = x.state then s1
    else
      let s2 := s1.putBin b (x1.withState st)
      (if st = .full then raise .binFull b.val s2 else s2).emit (.bin b)

/-! ## Segregation class and the emptiness test (R141) -/

/-- The class is set, when it is EMPTY, and the change reported. -/
def setClass (b : BinIdx) (cls : Nat) (s : State) : State :=
  match (s.bin b).cls with
  | some _ => s
  | none => (s.putBin b { s.bin b with cls := some cls }).emit (.bin b)

/-- What the emptiness test asks. -/
def Bin.isEmpty (b : Bin) : Bool :=
  decide (b.state ≠ .filling) && !b.gateReserved &&
    ((match b.gaugeLevel, b.config with
      | some l, some c => decide (l ≤ c.empty)
      | _, _ => false) || b.fill == 0)

/-- The emptiness test: a bin that passes has its fill set to 0 and its class to EMPTY; a change of class is
reported, and a change of fill is judged. -/
def emptinessTest (b : BinIdx) (s : State) : State :=
  let x := s.bin b
  if x.isEmpty then
    let s1 := s.putBin b { x with fill := 0, cls := none }
    let s2 := if x.cls = none then s1 else s1.emit (.bin b)
    if x.fill = 0 then s2 else judgeBin b s2
  else s

/-! ## Fill (R133) -/

/-- Booked grams join the bin's fill, and the bin is judged; 0 g changes nothing. -/
def addFill (b : BinIdx) (g : Nat) (s : State) : State :=
  if g = 0 then s
  else judgeBin b (s.putBin b { s.bin b with fill := satAdd (s.bin b).fill g })

/-! ## Gate changes (R132) -/

/-- The bin's gate marks from the gate's new state. -/
def Bin.withGate (b : Bin) (st : SegState) : Bin :=
  { b with gateCarrying := decide (st = .carrying), gateReserved := decide (st ≠ .free) }

/-- The bin's inlet gate has changed to state `st`. -/
def gateChanged (b : BinIdx) (st : SegState) (s : State) : State :=
  let x := s.bin b
  let y := x.withGate st
  let s1 :=
    if y.gateCarrying && !x.gateCarrying && decide (x.state = .available) then
      (s.putBin b (y.withState .filling)).emit (.bin b)
    else if x.gateCarrying && !y.gateCarrying && decide (x.state = .filling) then
      judgeBin b ((s.putBin b (y.withState .available)).emit (.bin b))
    else s.putBin b y
  if st = .free then emptinessTest b s1 else s1

/-! ## Configuration (R130) -/

/-- The gauge of a bin whose station has changed: level absent, OK, no misses, any poll forgotten; the poll timer is
set afresh, since the station is newly polled (R130, R137). -/
def Bin.resetGauge (b : Bin) : Bin :=
  let b1 := { b with gaugeLevel := none, gaugeState := .ok, misses := 0, pollOutstanding := false, replyTimer := none }
  { b1 with pollTimer := b1.period.map fun _ => 0 }

/-! ## Polls and replies (R138, R139, R140) -/

/-- The poll timer's expiry: a POLL when none is outstanding, and the timer armed again with the period (R137,
R138). -/
def pollDue (b : BinIdx) (s : State) : State :=
  let x := s.bin b
  match x.pollTimer with
  | none => s
  | some _ =>
    let x1 := { x with pollTimer := x.period }
    match x.config with
    | some c =>
      match c.gauge with
      | some a =>
        if x.pollOutstanding then s.putBin b x1
        else (s.putBin b { x1 with pollOutstanding := true, replyTimer := some 400 }).place (.poll a)
      | none => s.putBin b x1
    | none => s.putBin b x1

/-- The reply timer's expiry with a poll outstanding: a miss is counted, and the third of an OK gauge makes it LOST
(R139). -/
def replyMissed (b : BinIdx) (s : State) : State :=
  let x := s.bin b
  if x.pollOutstanding && x.replyTimer.isSome then
    let x1 := { x with pollOutstanding := false, replyTimer := none }
    match x.gaugeState with
    | .ok =>
      if x.misses < 2 then s.putBin b { x1 with misses := x.misses + 1 }
      else
        judgeBin b (raise .gaugeLost b.val
          (s.putBin b { x1 with misses := 3, gaugeState := .lost, gaugeLevel := none }))
    | .lost => s.putBin b { x1 with misses := min 3 (x.misses + 1) }
  else s.putBin b { x with replyTimer := none }

/-- The bin whose configured gauge station is `a` (R140). -/
def binOfGauge (s : State) (a : Nat) : Option BinIdx :=
  s.bins.findIdx? fun b => match b.config with | some c => c.gauge == some a | none => false

/-- A LEVEL frame from station `a` (R140). -/
def levelReported (a level : Nat) (s : State) : State :=
  match binOfGauge s a with
  | none => s
  | some b =>
    let x := s.bin b
    let x1 := { x with gaugeLevel := some (min 1000 level), misses := 0, gaugeState := .ok }
    let x2 := if x.pollOutstanding then { x1 with pollOutstanding := false, replyTimer := none } else x1
    judgeBin b (emptinessTest b (s.putBin b x2))

end Sys2Proof.Machine
end

