-- ==== Sys2Proof/Machine/Lots.lean ====
section
/-! DEFINITION. The Lot manager: lookup, current bin, attachment, booking, overrun check, closing and the out-turn
list (01). -/

namespace Sys2Proof.Machine

/-! ## Lookup (R3) -/

/-- A lot's standing: the state of its record, or CLOSED when the out-turn list holds it. -/
inductive Standing where
  | inTable (st : LotState)
  | closed
deriving DecidableEq, Repr

/-- Whether the out-turn list holds lot `n`. -/
def State.inOutturn (s : State) (n : Nat) : Bool := s.lot.outturn.any (·.number == n)

/-- The standing of lot number `n`, `none` when neither collection holds it. -/
def State.standing (s : State) (n : Nat) : Option Standing :=
  match s.findLot n with
  | some l => some (.inTable l.state)
  | none => if s.inOutturn n then some .closed else none

/-- The present hold-map entry with this key. -/
def State.holdEntry (s : State) (hold layer : Nat) : Option HoldEntry :=
  (s.lot.holdMap.items.filterMap id).find? fun e => e.hold == hold && e.layer == layer

/-- The lookup of a (hold code, layer) pair (R3). -/
def State.lookup (s : State) (hold layer : Nat) : Lookup :=
  match s.holdEntry hold layer with
  | none => .noLot
  | some e => match s.standing e.lot with | some _ => .lot e.lot | none => .noLot

/-- A lot qualifies for starting a stream when its standing is OPEN or DISCHARGING (R3). -/
def State.qualifies (s : State) (n : Nat) : Bool :=
  match s.standing n with
  | some (.inTable .opened) => true
  | some (.inTable .discharging) => true
  | _ => false

/-! ## The current bin (R16 to R19) -/

/-- A bin is usable for a lot of class `cls`: configured, AVAILABLE or FILLING, class EMPTY or the lot's (R16). -/
def Bin.usable (b : Bin) (cls : Nat) : Bool :=
  b.config.isSome && (decide (b.state = .available) || decide (b.state = .filling)) &&
  (decide (b.cls = none) || decide (b.cls = some cls))

/-- Whether the bin at position `p` of lot `l`'s bin list is usable for it. -/
def usableAt (s : State) (l : Lot) (p : Nat) : Bool :=
  match l.bins[p]? with
  | some d => (s.bin d.bin).usable l.cls
  | none => false

/-- The first usable position in list order from the start (R17). -/
def firstUsable (s : State) (l : Lot) : Option Nat :=
  (List.range l.bins.length).find? (usableAt s l)

/-- The positions after `p` in list order, wrapping, `p` itself last (R18). -/
def positionsAfter (n p : Nat) : List Nat := (List.range n).map fun k => (p + 1 + k) % n

/-- The first usable position after `p`, wrapping (R18). -/
def nextUsable (s : State) (l : Lot) (p : Nat) : Option Nat :=
  (positionsAfter l.bins.length p).find? (usableAt s l)

/-- The bin at the lot's current position. -/
def Lot.currentBin (l : Lot) : Option BinIdx :=
  match l.current with
  | none => none
  | some p => l.bins[p]?.map (·.bin)

/-- The current bin of lot number `n`. -/
def State.currentBinOf (s : State) (n : Nat) : Option BinIdx := (s.findLot n).bind Lot.currentBin

/-- The lot's next bin for staging: the first usable entry after the current one, not the current one itself
(R120). -/
def Lot.nextBin (s : State) (l : Lot) : Option BinIdx :=
  match l.current with
  | none => none
  | some p => match (positionsAfter l.bins.length p).find? (fun q => q != p && usableAt s l q) with
    | some q => l.bins[q]?.map (·.bin)
    | none => none

/-- The lot takes another current position, and the change is reported (R19). -/
def setCurrent (i : LotIdx) (l : Lot) (new : Option Nat) (s : State) : State :=
  let l' := { l with current := new }
  (s.putLot i (some l')).emit (.currentBin l.number l'.currentBin)

/-- The choice of an absent current bin: the first usable entry, when there is one (R17). -/
def chooseCurrent (i : LotIdx) (s : State) : State :=
  match s.lotAt i with
  | none => s
  | some l =>
    match l.current, firstUsable s l with
    | none, some p => setCurrent i l (some p) s
    | _, _ => s

/-- Whether a lot is OPEN or DISCHARGING. -/
def Lot.running (l : Lot) : Bool := decide (l.state = .opened) || decide (l.state = .discharging)

/-- What a report about bin `b` asks of a lot (R16): its current bin is `b` and no longer usable, or its current bin is
absent, its list holds `b` and `b` is usable for it. -/
def Lot.concerned (s : State) (b : BinIdx) (l : Lot) : Bool :=
  l.running &&
  (match l.currentBin with
   | some c => decide (c = b) && !(s.bin b).usable l.cls
   | none => decide (l.current = none) && l.bins.any (·.bin == b) && (s.bin b).usable l.cls)

/-- A lot concerned by a bin report has its current bin advanced (R18), or chosen when it is absent (R17). -/
def moveCurrent (i : LotIdx) (s : State) : State :=
  match s.lotAt i with
  | none => s
  | some l =>
    match l.current with
    | some p => setCurrent i l (nextUsable s l p) s
    | none => chooseCurrent i s

/-- The lowest lot table index from `i` on whose lot the report about bin `b` concerns (R16). -/
def nextConcerned (s : State) (b : BinIdx) (i : Nat) : Option LotIdx :=
  (List.finRange 32).find? fun k => decide (i ≤ k.val) &&
    (match s.lotAt k with | some l => l.concerned s b | none => false)

/-- The examination of the lots for bin `b` from table index `i` on: one lot's current bin moves, its report is taken
wholly, then the examination goes on behind it (R16). -/
def examineLots (b : BinIdx) (i : Nat) (s : State) : State :=
  match nextConcerned s b i with
  | none => s
  | some k => (moveCurrent k s).emit (.examineLots b (k.val + 1))

/-! ## The out-turn list (R14, R22, R23) -/

/-- The out-turn list's capacity (R22). -/
def outturnRoom : Nat := 16

/-- The out-turn record formed from a closing lot (R22). -/
def Lot.outturnRecord (l : Lot) : Outturn :=
  { number := l.number, cls := l.cls, declared := l.declared, certified := l.certified
    uncertified := l.uncertified, used := l.used, deliveries := l.bins
    closeKind := l.closeKind.getD .requested }

/-- The completion test of the lot at `i` (R14): a CLOSING lot with no attached stream passes into the out-turn list, or
waits, reporting OUTTURN-FULL once. -/
def completionTest (i : LotIdx) (s : State) : State :=
  match s.lotAt i with
  | none => s
  | some l =>
    if l.state = .closing ∧ l.attached.isEmpty then
      if s.lot.outturn.length < outturnRoom then
        raise .outturnReady s.lot.outturn.length
          ((s.putOutturn (s.lot.outturn ++ [l.outturnRecord])).putLot i none)
      else if l.outturnFullReported then s
      else raise .outturnFull i.val (s.putLot i (some { l with outturnFullReported := true }))
    else s

/-- The waiting CLOSING lot at the lowest index, if any (R23). -/
def firstWaitingLot (s : State) : Option LotIdx :=
  (List.finRange 32).find? fun k =>
    match s.lotAt k with
    | some l => decide (l.state = .closing) && l.attached.isEmpty
    | none => false

/-! ## Attachment (R10, R11) -/

/-- The stream is attached to lot `n`, when the lot is OPEN or DISCHARGING (R10). -/
def attach (n : Nat) (i : StreamIdx) (s : State) : State :=
  match s.lotIdx? n with
  | none => s
  | some k =>
    match s.lotAt k with
    | none => s
    | some l =>
      if l.running then
        s.putLot k (some { l with attached := l.attached.insert i, used := l.used.insert i, state := .discharging })
      else s

/-- The stream is detached from lot `n` (R11). -/
def detach (n : Nat) (i : StreamIdx) (s : State) : State :=
  match s.lotIdx? n with
  | none => s
  | some k =>
    match s.lotAt k with
    | none => s
    | some l =>
      if l.attached.has i then
        let l1 := { l with attached := l.attached.erase i }
        if l1.attached.isEmpty then
          match l.state with
          | .discharging => s.putLot k (some { l1 with state := .opened })
          | .closing => completionTest k (s.putLot k (some l1))
          | _ => s.putLot k (some l1)
        else s.putLot k (some l1)
      else s

/-! ## Booking and the overrun check (R20, R21) -/

/-- A lot's limit in grams, when it has a declared mass (R21). -/
def Lot.limit (l : Lot) : Option Nat := l.declared.map fun m => m * (1000 + l.tolerance)

/-- Whether the lot's total is over its limit (R21). -/
def Lot.overLimit (l : Lot) : Bool :=
  match l.limit with
  | some m => decide (m < l.certified + l.uncertified)
  | none => false

/-- The overrun check after a booking (R21). -/
def overrunAfterBooking (i : LotIdx) (s : State) : State :=
  match s.lotAt i with
  | none => s
  | some l =>
    if l.overLimit && !l.overrunReported then
      raise .lotOverrun i.val (s.putLot i (some { l with overrunReported := true }))
    else s

/-- The overrun check after a write that changes the declaration (R21): the flag is first cleared. -/
def overrunAfterWrite (i : LotIdx) (s : State) : State :=
  match s.lotAt i with
  | none => s
  | some l => overrunAfterBooking i (s.putLot i (some { l with overrunReported := false }))

/-- Grams added to the entry for bin `b` (R20). -/
def addDelivery (b : BinIdx) (g : Nat) (l : List Delivery) : List Delivery :=
  l.map fun d => if d.bin = b then { d with grams := satAdd d.grams g } else d

/-- A lot with a booking added (R20). -/
def Lot.book (l : Lot) (b : BinIdx) (g : Nat) (certified : Bool) : Lot :=
  { l with certified := if certified then satAdd l.certified g else l.certified
           uncertified := if certified then l.uncertified else satAdd l.uncertified g
           bins := addDelivery b g l.bins }

/-- Whether a lot takes a booking to bin `b`: DISCHARGING or CLOSING, with `b` in its list (R20). -/
def Lot.takes (l : Lot) (b : BinIdx) : Bool :=
  (decide (l.state = .discharging) || decide (l.state = .closing)) && l.bins.any (·.bin == b)

/-- The lot table index that takes a booking to lot `n` and bin `b`, if any. -/
def bookingLot (s : State) (n : Nat) (b : BinIdx) : Option LotIdx :=
  match s.lotIdx? n with
  | none => none
  | some k => match s.lotAt k with
    | some l => if l.takes b then some k else none
    | none => none

/-- A booking the Lot manager takes (R20), with the overrun check after it (R21). -/
def bookLot (k : LotIdx) (b : BinIdx) (g : Nat) (certified : Bool) (s : State) : State :=
  match s.lotAt k with
  | none => s
  | some l => overrunAfterBooking k (s.putLot k (some (l.book b g certified)))

end Sys2Proof.Machine
end

