-- ==== Sys2Proof/Machine/Segments.lean ====
section
/-! DEFINITION. The Segment unit: reservations, releases, travel, faults, flushes, closing and moves under flow
(05). -/

namespace Sys2Proof.Machine

/-! ## Reading a segment -/

/-- The actuator station, for a DIVERTER or GATE (R84). -/
def SegKind.actuator : SegKind → Option Nat
  | .conveyor => none
  | .diverter a _ => some a
  | .gate a _ => some a

/-- The bin a GATE feeds (R84). -/
def SegKind.bin : SegKind → Option BinIdx
  | .gate _ b => some b
  | _ => none

/-- The flow-switch attribute; clear for any kind but DIVERTER (R84). -/
def SegKind.flowSwitch : SegKind → Bool
  | .diverter _ f => f
  | _ => false

/-- The kind's name. -/
def SegKind.name : SegKind → KindName
  | .conveyor => .conveyor
  | .diverter _ _ => .diverter
  | .gate _ _ => .gate

/-- The segment's kind, when it is configured. -/
def Segment.segKind (x : Segment) : Option SegKind := x.config.map (·.kind)

/-- The actuator station of a configured DIVERTER or GATE. -/
def Segment.actuator (x : Segment) : Option Nat := x.segKind.bind SegKind.actuator

/-- The bin of a configured GATE. -/
def Segment.gateBin (x : Segment) : Option BinIdx := x.segKind.bind SegKind.bin

/-- A configured CONVEYOR. -/
def Segment.isConveyor (x : Segment) : Bool := decide (x.segKind = some .conveyor)

/-- The flush time in milliseconds (R84). -/
def Segment.flushMs (x : Segment) : Nat := match x.config with | some c => c.flushTime * 100 | none => 0

/-- The travel limit in milliseconds (R84). -/
def Segment.travelMs (x : Segment) : Nat := match x.config with | some c => c.travelLimit * 1000 | none => 0

/-- The share limit (R84). -/
def Segment.shareLimit (x : Segment) : Nat := match x.config with | some c => c.shareLimit | none => 0

/-- The feeding count (R86): the number of members of the feeding set. -/
def Segment.feedingCount (x : Segment) : Nat := x.feeders.card

/-- Travel pending: FLUSHING with the travel timer armed (R86). -/
def Segment.travelPending (x : Segment) : Bool := decide (x.state = .flushing) && x.travel.isSome

/-- Whether the segment stands at, or is commanded to, a required position: any for a CONVEYOR (R89, R100). -/
def Segment.commandedTo (x : Segment) (p : Option Nat) : Bool := x.isConveyor || decide (x.commanded = p)

/-! ## Changing a segment's record -/

/-- Segment `g`'s record becomes `x`; a change of a GATE's state is reported to the Bin unit of its bin (05, Reports
to other blocks; R132). -/
def changeSeg (g : SegIdx) (x : Segment) (s : State) : State :=
  let old := s.seg g
  let s1 := s.putSeg g x
  match x.gateBin with
  | some b => if x.state = old.state then s1 else gateChanged b x.state s1
  | none => s1

/-- A SET is sent to segment `x`'s actuator (R88). -/
def sendSet (x : Segment) (p : Nat) (s : State) : State :=
  match x.actuator with
  | some a => s.place (.set a p)
  | none => s

/-- A segment that has become READY is reported (R88, R115). -/
def reportReady (g : SegIdx) (s : State) : State := (s.emit (.ready g)).occasion

/-- The segment's record with no reservation: neither kind nor holders nor feeders, not under flow. -/
def Segment.unreserved (x : Segment) : Segment :=
  { x with kind := none, holders := IdxSet.empty 8, feeders := IdxSet.empty 8, underFlow := false }

/-- The segment becomes FREE and is reported FREE; commanded and reported positions stand (R91, R99). -/
def freeSeg (g : SegIdx) (s : State) : State :=
  (changeSeg g { (s.seg g).unreserved with
    state := .free, owner := none, unflushed := false, flush := none, travel := none } s).occasion

/-- A GATE begins closing: CLOSING, commanded 0, SET 0 sent, travel timer armed (R101). -/
def beginClosing (g : SegIdx) (s : State) : State :=
  let x := s.seg g
  sendSet x 0 (changeSeg g { x.unreserved with
    state := .closing, commanded := some 0, flush := none, travel := some x.travelMs } s)

/-- The end of a flush: reported to the Stream unit, then FREE, or closing for a GATE (R99). -/
def endFlush (g : SegIdx) (s : State) : State :=
  let s1 := s.emit (.endOfFlush g)
  match (s.seg g).gateBin with
  | some _ => beginClosing g s1
  | none => freeSeg g s1

/-- A flush begins with the full flush time; a flush time of 0 expires at once (R98, R99). The travel timer stands as
it is. -/
def beginFlush (g : SegIdx) (s : State) : State :=
  let x := s.seg g
  let s1 := changeSeg g { x.unreserved with state := .flushing, unflushed := true, flush := some x.flushMs } s
  if x.flushMs = 0 then endFlush g s1 else s1

/-! ## Reservation (R88, R89, R100) -/

/-- What the allocator asks for: a lot, a stream and the required position (none for a CONVEYOR). -/
structure Claim where
  lot : Nat
  stream : StreamIdx
  position : Option Nat
deriving DecidableEq, Repr

/-- R113's free case: FREE and configured. -/
def Segment.openFree (x : Segment) : Bool := decide (x.state = .free) && x.config.isSome

/-- R89's and R113's join case. -/
def Segment.openJoin (x : Segment) (c : Claim) : Bool :=
  decide (x.owner = some c.lot) && decide (x.kind = some .active) &&
  (decide (x.state = .ready) || decide (x.state = .carrying)) && !x.underFlow &&
  x.commandedTo c.position && !x.holders.has c.stream && decide (x.holders.card < x.shareLimit)

/-- R100's and R113's re-take case. -/
def Segment.openRetake (x : Segment) (c : Claim) : Bool :=
  decide (x.owner = some c.lot) && decide (x.state = .flushing) && !x.travelPending && x.commandedTo c.position

/-- A FREE configured segment is reserved (R88). -/
def reserveFree (g : SegIdx) (k : ResKind) (c : Claim) (s : State) : State :=
  let x := s.seg g
  let base := { x with owner := some c.lot, kind := some k, holders := IdxSet.single c.stream
                       feeders := IdxSet.empty 8 }
  match c.position with
  | none => reportReady g (changeSeg g { base with state := .ready } s)
  | some p =>
    if x.isConveyor then reportReady g (changeSeg g { base with state := .ready } s)
    else if x.reported = some p then
      reportReady g (changeSeg g { base with state := .ready, commanded := some p } s)
    else
      sendSet x p (changeSeg g
        { base with state := .setting, commanded := some p, travel := some x.travelMs } s)

/-- A reservation asked by the allocator: taken by R88, R89 or R100, or else blocked, the segment as it stands. -/
def reserve (g : SegIdx) (k : ResKind) (c : Claim) (s : State) : State :=
  let x := s.seg g
  if x.openFree then reserveFree g k c s
  else if k = .active && x.openJoin c then s.putSeg g { x with holders := x.holders.insert c.stream }
  else if k = .active && x.openRetake c then
    reportReady g ((changeSeg g { x with state := .ready, kind := some .active, holders := IdxSet.single c.stream
                                         flush := none } s).emit (.endOfFlush g))
  else s

/-- Activation of a segment for a stream (R90). The grant has reserved it ACTIVE (R116), and ACTIVE it is left
(log 21). -/
def activateSeg (i : StreamIdx) (g : SegIdx) (s : State) : State :=
  let x := s.seg g
  changeSeg g { x with kind := some .active, state := .carrying, feeders := x.feeders.insert i } s

/-! ## Release (R91) -/

/-- The release of a segment that reserves and feeds nothing more: FREE, or closing for a GATE. -/
def freeOrClose (g : SegIdx) (s : State) : State :=
  match (s.seg g).gateBin with
  | some _ => beginClosing g s
  | none => freeSeg g s

/-- The release of holder `i` according to the segment's state (R91's table). -/
def releaseHolder (i : StreamIdx) (g : SegIdx) (s : State) : State :=
  let x := s.seg g
  let y := { x with holders := x.holders.erase i, feeders := x.feeders.erase i }
  match x.state with
  | .carrying =>
    if x.feeders.has i then
      if y.feeders.isEmpty then
        if y.holders.isEmpty then beginFlush g (s.putSeg g y)
        else reportReady g (changeSeg g { y with state := .ready, unflushed := true } s)
      else s.putSeg g y
    else s.putSeg g y
  | .ready =>
    if y.holders.isEmpty then
      if x.unflushed then beginFlush g (s.putSeg g y) else freeOrClose g (s.putSeg g y)
    else s.putSeg g y
  | .setting =>
    if x.underFlow then beginFlush g (s.putSeg g y)
    else if y.holders.isEmpty then freeOrClose g (s.putSeg g y)
    else s.putSeg g y
  | .flushing | .closing | .fault | .free => s

/-- Whether a release has left stream `i`'s own intake held by others: CARRYING or READY (R38, R91). -/
def intakeLeftHeld (i : StreamIdx) (g : SegIdx) (s : State) : Bool :=
  decide ((s.stream i).config.intake = some g) &&
    (decide ((s.seg g).state = .carrying) || decide ((s.seg g).state = .ready))

/-- A segment is released from stream `i`; a stream that is not a holder changes nothing (R91). When the release
leaves a DRAINING stream's own intake held, its drain timer is armed with the intake's flush time (R38). -/
def releaseSeg (i : StreamIdx) (g : SegIdx) (s : State) : State :=
  if (s.seg g).holders.has i then
    let s1 := releaseHolder i g s
    if intakeLeftHeld i g s1 && decide ((s1.stream i).state = .draining) then
      s1.modStream i fun x => { x with drain := some (s1.seg g).flushMs }
    else s1
  else s

/-! ## Faults (R95, R97) -/

/-- The segment enters FAULT (R95). -/
def faultSeg (g : SegIdx) (s : State) : State :=
  let x := s.seg g
  ((raise .segmentFault g.val
    (changeSeg g { x.unreserved with state := .fault, flush := none, travel := none, unflushed := true } s)).emit
    (.faulted g))

/-- The clearing of a segment in FAULT (R97). -/
def clearFault (g : SegIdx) (s : State) : State :=
  let x := s.seg g
  let y := match x.reported with | some p => { x with commanded := some p } | none => x
  (beginFlush g (s.putSeg g y)).emit (.cleared g)

/-! ## Position reports (R92, R93) and travel (R94) -/

/-- The configured DIVERTER or GATE whose actuator station is `a` (R92). -/
def segOfActuator (s : State) (a : Nat) : Option SegIdx :=
  s.segs.findIdx? fun x => x.actuator == some a

/-- A report judged against the commanded position, `eq` saying whether it equals it (R93's table). -/
def judgeReport (g : SegIdx) (eq : Bool) (s : State) : State :=
  let x := s.seg g
  match x.state with
  | .free | .fault => s
  | .setting =>
    if !eq then s
    else if x.underFlow then changeSeg g { x with state := .carrying, underFlow := false, travel := none } s
    else reportReady g (changeSeg g { x with state := .ready, travel := none } s)
  | .ready | .carrying => if eq then s else faultSeg g s
  | .flushing =>
    if x.travelPending then (if eq then s.putSeg g { x with travel := none } else s)
    else if eq then s else faultSeg g s
  | .closing => if eq then freeSeg g s else s

/-- A POSREP carrying position `q` for segment `g`: recorded in every state, then judged (R92, R93). -/
def positionReported (g : SegIdx) (q : Nat) (s : State) : State :=
  let s1 := s.putSeg g { s.seg g with reported := some q }
  judgeReport g (decide ((s1.seg g).commanded = some q)) s1

/-- The travel timer's expiry in SETTING, FLUSHING with travel pending, or CLOSING (R94). -/
def travelExpired (g : SegIdx) (s : State) : State :=
  let x := s.seg g
  match x.travel with
  | none => s
  | some _ =>
    match x.state with
    | .setting | .flushing | .closing => faultSeg g s
    | _ => s.putSeg g { x with travel := none }

/-- The flush timer's expiry (R99). -/
def flushExpired (g : SegIdx) (s : State) : State :=
  let x := s.seg g
  match x.flush with
  | none => s
  | some _ => if x.state = .flushing then endFlush g s else s.putSeg g { x with flush := none }

/-! ## Moves under flow (R102) -/

/-- Whether a move under flow for stream `i` to position `p` would be taken. -/
def Segment.canMoveUnderFlow (x : Segment) (i : StreamIdx) (p : Option Nat) : Bool :=
  (match x.segKind with | some k => k.flowSwitch | none => false) &&
  decide (x.state = .carrying) && !x.underFlow &&
  decide (x.holders = IdxSet.single i) && decide (x.feeders = IdxSet.single i) && decide (x.commanded ≠ p)

/-- The move: commanded position and SET, travel timer armed, SETTING-under-flow; a move whose conditions fail is
not taken (R102). -/
def moveUnderFlow (i : StreamIdx) (g : SegIdx) (p : Option Nat) (s : State) : State :=
  let x := s.seg g
  match p with
  | none => s
  | some q =>
    if x.canMoveUnderFlow i p then
      sendSet x q (changeSeg g
        { x with commanded := some q, travel := some x.travelMs, state := .setting, underFlow := true } s)
    else s

/-- A staged segment becomes part of the active route (R103, last line). A segment of a stream's staged set holds that
stream (R121); one that did not would be left as it stands (log 21). -/
def takeStaged (i : StreamIdx) (g : SegIdx) (s : State) : State :=
  let x := s.seg g
  if x.holders.has i then
    changeSeg g { x with kind := some .active, feeders := x.feeders.insert i, state := .carrying } s
  else s

/-! ## Restart (R104) -/

/-- The end of the restart interval for one segment. -/
def restartSeg (g : SegIdx) (s : State) : State :=
  let x := s.seg g
  if x.state = .free then s else beginFlush g (s.putSeg g { x with travel := none })

end Sys2Proof.Machine
end

