-- ==== Sys2Proof/Machine/Routes.lean ====
section
/-! DEFINITION. The Route allocator's tables: routes, the request queue, releases and staging records (06, The route
table to Release on draining, and R122). -/

namespace Sys2Proof.Machine

/-! ## Routes -/

/-- The steps of the route at `r`; none when the entry is absent. -/
def State.stepsOf (s : State) (r : RouteIdx) : List Step :=
  match s.routeAt r with
  | some x => x.steps
  | none => []

/-- Whether a route has a step on segment `g`. -/
def State.routeHas (s : State) (r : RouteIdx) (g : SegIdx) : Bool := (s.stepsOf r).any (·.segment == g)

/-- The route for (stream, bin): the present entry holding that pair (R106). -/
def State.routeFor (s : State) (i : StreamIdx) (b : BinIdx) : Option RouteIdx :=
  s.alloc.routes.findIdx? fun e => match e with | some r => r.stream == i && r.bin == b | none => false

/-- The bin of the route at `r`. -/
def State.routeBin (s : State) (r : RouteIdx) : Option BinIdx := (s.routeAt r).map (·.bin)

/-- The bin of stream `i`'s active route. -/
def State.activeBin (s : State) (i : StreamIdx) : Option BinIdx := (s.stream i).activeRoute.bind s.routeBin

/-- Whether stream `i`'s active route has a step on `g`. -/
def State.activeHas (s : State) (i : StreamIdx) (g : SegIdx) : Bool :=
  match (s.stream i).activeRoute with
  | some r => s.routeHas r g
  | none => false

/-- Each segment of a route released from stream `i`, in step order (R111, R118). -/
def releaseRoute (i : StreamIdx) (r : RouteIdx) (s : State) : State :=
  (s.stepsOf r).foldl (fun s st => releaseSeg i st.segment s) s

/-! ## The request queue (R109, R110, R111) -/

/-- The queued request of stream `i`. -/
def State.requestOf (s : State) (i : StreamIdx) : Option Request := s.alloc.queue.find? (·.stream == i)

/-- The queue without stream `i`'s request; the others keep their order. -/
def State.dropRequest (s : State) (i : StreamIdx) : State :=
  s.putQueue (s.alloc.queue.filter (·.stream != i))

/-- Stream `i`'s request changed in its place. -/
def State.modRequest (s : State) (i : StreamIdx) (f : Request → Request) : State :=
  s.putQueue (s.alloc.queue.map fun r => if r.stream = i then f r else r)

/-- A new request joins the end of the queue, ungranted, with the route found or absent; an occasion for a pass
(R110). -/
def queueRequest (i : StreamIdx) (n : Nat) (b : BinIdx) (s : State) : State :=
  (s.putQueue (s.alloc.queue ++ [{ stream := i, lot := n, bin := b, route := s.routeFor i b, granted := false }])).occasion

/-- The reservations of a granted request are released (R111). -/
def releaseGrant (q : Request) (s : State) : State :=
  match q.granted, q.route with
  | true, some r => releaseRoute q.stream r s
  | _, _ => s

/-- Stream `i`'s request leaves the queue other than by activation: a granted one has its reservations released; an
occasion for a pass (R111). Without a request nothing changes. -/
def removeRequest (i : StreamIdx) (s : State) : State :=
  match s.requestOf i with
  | none => s
  | some q => ((releaseGrant q s).dropRequest i).occasion

/-! ## Staging records (R120, R122) -/

/-- Stream `i`'s staging record is dropped: each staged segment is released from the stream, then the record is
deleted; an occasion for a pass (R122). DESIGN CHOICE (log 33): the segments are released in ascending number. -/
def dropStaging (i : StreamIdx) (s : State) : State :=
  match s.stagingOf i with
  | none => s
  | some x => ((x.staged.toList.foldl (fun s g => releaseSeg i g s) s).putStaging i none).occasion

/-- The record of stream `i` loses segment `g` (R114, R119). -/
def loseStaged (i : StreamIdx) (g : SegIdx) (s : State) : State :=
  match s.stagingOf i with
  | none => s
  | some x => s.putStaging i (some { x with staged := x.staged.erase g })

/-- Whether a route is referenced: by a queued request, an active route or a staging record (R106). -/
def State.referenced (s : State) (r : RouteIdx) : Bool :=
  s.alloc.queue.any (fun q => decide (q.route = some r)) ||
  s.streams.items.any (fun x => decide (x.activeRoute = some r)) ||
  s.alloc.staging.items.any (fun x => match x with | some y => decide (y.route = some r) | none => false)

end Sys2Proof.Machine
end

