-- ==== Sys2Proof/Machine/Streams.lean ====
section
/-! DEFINITION. The Stream unit's state changes: permits, hold reasons, draining, the exit test, the silence timer,
unassigned mass (02), and the zero capture's and the unlock's ends (04). -/

namespace Sys2Proof.Machine

/-! ## Unlock and zero capture (R74, R80, R81) -/

/-- A zero capture ends with this outcome: report, unlock consumed, CAPTURE-END (R80, R81, R82). The report's serial
is the stream's as it now stands. -/
def endCapture (o : CaptureOutcome) (s : State) : State :=
  match s.tally.capture with
  | none => s
  | some c =>
    raise .captureEnd c.stream.val
      (((s.modTally c.stream fun t => { t with
          report := some ⟨o, c.window, c.counts, c.time, t.serial⟩ }).putCapture none).putUnlock none)

/-- The unlock in force ends; a zero capture holding it aborts with `cause` (R74, R81). -/
def endUnlock (cause : AbortCause) (s : State) : State :=
  match s.mgmt.unlock with
  | none => s
  | some u => if u.held then (endCapture (.aborted cause) s).putUnlock none else s.putUnlock none

/-- Whether an unlock is in force for stream `i` (R72). -/
def State.unlockedFor (s : State) (i : StreamIdx) : Bool :=
  match s.mgmt.unlock with
  | some u => u.stream == i
  | none => false

/-- Whether a zero capture runs on stream `i` (R78). -/
def State.capturing (s : State) (i : StreamIdx) : Bool :=
  match s.tally.capture with
  | some c => c.stream == i
  | none => false

/-- Stream `i` leaves IDLE: an unlock in force for it ends (R74, R81 LEFT-IDLE). -/
def leaveIdle (i : StreamIdx) (s : State) : State := if s.unlockedFor i then endUnlock .leftIdle s else s

/-- Whether stream `i` holds a calibration record (R70). -/
def State.calibrated (s : State) (i : StreamIdx) : Bool := (s.tallyOf i).cal.isSome

/-! ## Permits (R42) -/

/-- A PERMIT of stream `i` is sent to its unloader, naming the active route's bin and the current lot. -/
def sendPermit (i : StreamIdx) (feed : Bool) (s : State) : State :=
  match (s.stream i).config.unloader, s.activeBin i, (s.stream i).currentLot with
  | some a, some b, some n => s.place (.permit a i feed b n)
  | _, _, _ => s

/-- The permit period. -/
def permitPeriod : Nat := 500

/-- A PERMIT with feed 1, and the permit timer armed with 500 ms (R42). -/
def permitFeed (i : StreamIdx) (s : State) : State :=
  (sendPermit i true s).modStream i fun x => { x with permit := some permitPeriod }

/-- A PERMIT with feed 0, and the permit timer disarmed (R42). -/
def permitStop (i : StreamIdx) (s : State) : State :=
  (sendPermit i false s).modStream i fun x => { x with permit := none }

/-! ## Leaving and entering states: each change of state chooses the lamps' patterns anew (R177) -/

/-- Stream `i` is detached from the lot it is attached to (R11). -/
def detachStream (i : StreamIdx) (s : State) : State :=
  match (s.stream i).currentLot with
  | some n => (detach n i s).modStream i fun x => { x with currentLot := none }
  | none => s

/-- The stream becomes IDLE, detached; the silence timer is disarmed (R41). -/
def becomeIdle (i : StreamIdx) (s : State) : State :=
  refreshLamps ((detachStream i s).modStream i fun x =>
    { x with state := .idle, activeRoute := none, silence := none, fromIdle := false })

/-- The stream becomes HELD, detached, with the held-from-idle mark as given; the silence timer is disarmed
(R37, R41). -/
def becomeHeld (i : StreamIdx) (mark : Bool) (s : State) : State :=
  refreshLamps ((detachStream i s).modStream i fun x =>
    { x with state := .held, activeRoute := none, silence := none, fromIdle := mark })

/-- The stream becomes WAITING for lot `n` with current bin `b`: it stays attached to the same lot, or is detached from
its old lot and attached to the new one; the silence timer starts; a request is queued (R10, R11, R33, R41, R110). -/
def becomeWaiting (i : StreamIdx) (n : Nat) (b : BinIdx) (s : State) : State :=
  let s1 := if (s.stream i).currentLot = some n then s else attach n i (detachStream i s)
  queueRequest i n b (refreshLamps (s1.modStream i fun x =>
    { x with state := .waiting, currentLot := some n, activeRoute := none, fromIdle := false
             silence := some x.config.silenceTime }))

/-- The stream enters DRAINING: it keeps its lot and route, a PERMIT with feed 0 is sent, its route is released and its
staging record dropped; an occasion for a pass (R36, R118). -/
def enterDraining (i : StreamIdx) (s : State) : State :=
  let s1 := permitStop i (refreshLamps (s.modStream i fun x => { x with state := .draining }))
  let s2 := match (s.stream i).activeRoute with
    | some r => releaseRoute i r s1
    | none => s1
  (dropStaging i s2).occasion

/-- The stream becomes FEEDING along route `r`, and permits begin (R35, R42). -/
def enterFeeding (i : StreamIdx) (r : RouteIdx) (s : State) : State :=
  permitFeed i (refreshLamps (s.modStream i fun x => { x with state := .feeding, activeRoute := some r }))

/-! ## The exit test (R33) -/

/-- The lot a stream with demand may wait for: its last lookup's lot, when it qualifies and the stream is calibrated. -/
def State.startableLot (s : State) (i : StreamIdx) : Option Nat :=
  match (s.stream i).lastLookup with
  | some (.lot n) => if s.qualifies n && s.calibrated i then some n else none
  | _ => none

/-- HELD with NO-BIN naming lot `n` (R33 case 3, R34). -/
def holdNoBin (i : StreamIdx) (n : Nat) (s : State) : State :=
  (becomeHeld i false s).modStream i fun x =>
    { x with reasons := { x.reasons with noBin := true }, noBinLot := some n }

/-- Where a stream goes when DRAINING ends, or HELD ends without the held-from-idle mark (R33). -/
def exitTest (i : StreamIdx) (s : State) : State :=
  let x := s.stream i
  if x.reasons ≠ HoldSet.none then becomeHeld i false s
  else if x.demand then
    match s.startableLot i with
    | some n => match s.currentBinOf n with
      | some b => becomeWaiting i n b s
      | none => holdNoBin i n s
    | none => becomeIdle i s
  else becomeIdle i s

/-- A HELD stream whose set is empty leaves HELD: to IDLE with the held-from-idle mark set, else by the exit test
(R39). -/
def leaveHeld (i : StreamIdx) (s : State) : State :=
  if (s.stream i).fromIdle then becomeIdle i s else exitTest i s

/-- Draining ends: the active route becomes absent, the drain timer is disarmed, and the exit test places the stream
(R38). -/
def endDraining (i : StreamIdx) (s : State) : State :=
  exitTest i (s.modStream i fun x => { x with activeRoute := none, drain := none })

/-! ## Hold reasons (R37, R39) -/

/-- A stream's record with a reason joined to its set. -/
def Stream.withReason (x : Stream) : HoldReason → Stream
  | .operator => { x with reasons := { x.reasons with operator := true } }
  | .silent => { x with reasons := { x.reasons with silent := true } }
  | .meter => { x with reasons := { x.reasons with meter := true } }
  | .noBin n => if x.reasons.noBin then x
      else { x with reasons := { x.reasons with noBin := true }, noBinLot := some n }
  | .segment g => { x with reasons := { x.reasons with segment := true }, faulted := x.faulted.insert g }

/-- A stream's record with a reason removed: SEGMENT leaves with the faulted-segment set's last member, and the NO-BIN
lot with NO-BIN (R39). -/
def Stream.withoutReason (x : Stream) : HoldReason → Stream
  | .operator => { x with reasons := { x.reasons with operator := false } }
  | .silent => { x with reasons := { x.reasons with silent := false } }
  | .meter => { x with reasons := { x.reasons with meter := false } }
  | .noBin _ => { x with reasons := { x.reasons with noBin := false }, noBinLot := none }
  | .segment g =>
    let f := x.faulted.erase g
    { x with faulted := f, reasons := { x.reasons with segment := x.reasons.segment && !f.isEmpty } }

/-- Whether a reason sets the held-from-idle mark of a stream it takes from IDLE: every one but NO-BIN (R37). -/
def HoldReason.marks : HoldReason → Bool
  | .noBin _ => false
  | _ => true

/-- A hold reason is added to a stream's set and acts according to its state (R37). -/
def addReason (i : StreamIdx) (r : HoldReason) (s : State) : State :=
  let s1 := s.modStream i (·.withReason r)
  match (s.stream i).state with
  | .idle => becomeHeld i r.marks (leaveIdle i s1)
  | .waiting => becomeHeld i false (removeRequest i s1)
  | .feeding => enterDraining i s1
  | .draining | .held => s1

/-- A hold reason leaves a stream's set; a HELD stream whose set thereby becomes empty leaves HELD (R39). -/
def removeReason (i : StreamIdx) (r : HoldReason) (s : State) : State :=
  let x := s.stream i
  let y := x.withoutReason r
  let s1 := s.putStream i y
  if x.state = .held ∧ x.reasons ≠ HoldSet.none ∧ y.reasons = HoldSet.none then leaveHeld i s1 else s1

/-! ## Unassigned mass (R44) -/

/-- Grams join the stream's unassigned mass; UNROUTED is raised once when the since-read part passes the threshold. -/
def addUnassigned (i : StreamIdx) (g : Nat) (s : State) : State :=
  let x := s.stream i
  let y := { x with unassigned := satAdd x.unassigned g, sinceRead := satAdd x.sinceRead g }
  if !y.unroutedReported && decide (y.config.unrouted * 1000 < y.sinceRead) then
    raise .unrouted i.val (s.putStream i { y with unroutedReported := true })
  else s.putStream i y

/-- Grams offered to the Lot manager as a booking: taken by the lot and its bin's fill, or refused into unassigned mass
(R20, R43, R46). -/
def bookOrKeep (i : StreamIdx) (lot : Option Nat) (bin : Option BinIdx) (g : Nat) (certified : Bool) (s : State) :
    State :=
  match lot, bin with
  | some n, some b =>
    match bookingLot s n b with
    | some k => addFill b g (bookLot k b g certified s)
    | none => addUnassigned i g s
  | _, _ => addUnassigned i g s

/-! ## Timers -/

/-- The states in which the silence timer runs (R41). -/
def StreamState.timed : StreamState → Bool
  | .waiting | .feeding | .draining => true
  | .idle | .held => false

/-- The silence timer is started with the full silence time in WAITING, FEEDING and DRAINING (R41). -/
def restartSilence (i : StreamIdx) (s : State) : State :=
  if (s.stream i).state.timed then
    s.modStream i fun x => { x with silence := some x.config.silenceTime }
  else s

/-- The silence timer's expiry (R41). -/
def silenceExpired (i : StreamIdx) (s : State) : State :=
  let x := s.stream i
  match x.silence with
  | none => s
  | some _ =>
    let s1 := s.putStream i { x with silence := none }
    if x.state.timed then raise .streamSilent i.val (addReason i .silent s1) else s1

/-- The permit timer's expiry in FEEDING (R42). -/
def permitExpired (i : StreamIdx) (s : State) : State :=
  let x := s.stream i
  match x.permit with
  | none => s
  | some _ => if x.state = .feeding then permitFeed i s else s.putStream i { x with permit := none }

/-- The drain timer's expiry (R38). -/
def drainExpired (i : StreamIdx) (s : State) : State :=
  let x := s.stream i
  match x.drain with
  | none => s
  | some _ => if x.state = .draining then endDraining i s else s.putStream i { x with drain := none }

end Sys2Proof.Machine
end

