-- ==== Sys2Proof/Machine/Allocator.lean ====
section
/-! DEFINITION. The Route allocator: grant test, pre-emption, grant, activation, staging check, evaluation pass, bin
changeover, and what it does with the reports of the other blocks (06). -/

namespace Sys2Proof.Machine

/-! ## The grant test (R113) -/

/-- What a request asks of the segment of one step. -/
def Request.claim (q : Request) (st : Step) : Claim := ⟨q.lot, q.stream, st.position⟩

/-- Whether segment record `x` is open to a claim: free, join or re-take (R113). -/
def Segment.openTo (x : Segment) (c : Claim) : Bool := x.openFree || x.openJoin c || x.openRetake c

/-- Whether a step is open to a request; a segment freed by an older request's pre-emption in this pass is not
(R113, R114). -/
def stepOpen (s : State) (blocked : List SegIdx) (q : Request) (st : Step) : Bool :=
  !blocked.contains st.segment && (s.seg st.segment).openTo (q.claim st)

/-- The obstacles of a request on the route at `r`, in step order (R113). -/
def obstacles (s : State) (blocked : List SegIdx) (q : Request) (r : RouteIdx) : List SegIdx :=
  ((s.stepsOf r).filter fun st => !stepOpen s blocked q st).map (·.segment)

/-- A segment of kind STAGED owned by a lot other than `n` (R114). -/
def Segment.stagedForOther (x : Segment) (n : Nat) : Bool :=
  decide (x.kind = some .staged) && x.owner.isSome && decide (x.owner ≠ some n)

/-! ## Activation (R117) -/

/-- Whether every segment of a granted request's route is READY or CARRYING and holds the stream (R117). -/
def Request.canActivate (s : State) (q : Request) : Bool :=
  match q.granted, q.route with
  | true, some r => (s.stepsOf r).all fun st =>
      let x := s.seg st.segment
      (decide (x.state = .ready) || decide (x.state = .carrying)) && x.holders.has q.stream
  | _, _ => false

/-- The route at `r` becomes active for stream `i`: its segments are activated in step order, the request leaves the
queue without release, and the stream becomes FEEDING (R117). -/
def activate (i : StreamIdx) (r : RouteIdx) (s : State) : State :=
  enterFeeding i r ((((s.stepsOf r).foldl (fun s st => activateSeg i st.segment s) s).dropRequest i).occasion)

/-- The activation test for stream `i`'s request, and its activation (R117). -/
def tryActivate (i : StreamIdx) (s : State) : State :=
  match s.requestOf i with
  | none => s
  | some q =>
    match q.route with
    | some r => if q.canActivate s then activate i r s else s
    | none => s

/-! ## Grant and pre-emption (R114, R116) -/

/-- The grant of a request: class, reservations in step order, granted flag, activation test (R116). -/
def grant (q : Request) (r : RouteIdx) (cls : Nat) (s : State) : State :=
  let s1 := setClass q.bin cls s
  let s2 := (s.stepsOf r).foldl (fun s st => reserve st.segment .active (q.claim st) s) s1
  tryActivate q.stream (s2.modRequest q.stream fun x => { x with granted := true })

/-- A staged segment is released from its staged stream and leaves that stream's record (R114). -/
def preemptSeg (g : SegIdx) (s : State) : State :=
  (s.seg g).holders.toList.foldl (fun s i => loseStaged i g (releaseSeg i g s)) s

/-- A request with an absent route filled in where the table now holds one (R115). -/
def Request.routed (s : State) (q : Request) : Request :=
  match q.route with
  | some _ => q
  | none => { q with route := s.routeFor q.stream q.bin }

/-- A request with route `r` for lot `l`, whose bin passes the first test of R113: granted when no step is an obstacle;
pre-empting when every obstacle is a segment STAGED for another lot; else waiting (R113, R114, R116). -/
def grantOrPreempt (q : Request) (r : RouteIdx) (l : Lot) (blocked : List SegIdx) (s : State) :
    State × List SegIdx :=
  let obs := obstacles s blocked q r
  if obs.isEmpty then (grant q r l.cls s, blocked)
  else if obs.all fun g => (s.seg g).stagedForOther q.lot then
    (obs.foldl (fun s g => preemptSeg g s) s, blocked ++ obs)
  else (s, blocked)

/-- An ungranted request's turn in a pass (R115). -/
def tryGrant (q : Request) (blocked : List SegIdx) (s : State) : State × List SegIdx :=
  match q.route, s.findLot q.lot with
  | some r, some l => if (s.bin q.bin).usable l.cls then grantOrPreempt q r l blocked s else (s, blocked)
  | _, _ => (s, blocked)

/-- Part one of a pass for one stream's request; the segments its pre-emption frees join `blocked` (R114, R115). -/
def evaluateRequest (i : StreamIdx) (p : State × List SegIdx) : State × List SegIdx :=
  match p.1.requestOf i with
  | none => p
  | some q =>
    if q.granted then p
    else tryGrant (q.routed p.1) p.2 (p.1.modRequest i fun _ => q.routed p.1)

/-- Part one of a pass: the queued requests, oldest first (R115). -/
def evaluateRequests (s : State) : State :=
  (s.alloc.queue.foldl (fun p q => evaluateRequest q.stream p) (s, [])).1

/-! ## Staging (R120, R121) -/

/-- The bin a FEEDING stream that qualifies for staging is to be staged for (R120). -/
def stagingTarget (s : State) (i : StreamIdx) : Option BinIdx :=
  let x := s.stream i
  match x.state, x.currentLot, s.activeBin i with
  | .feeding, some n, some b =>
    match s.findLot n with
    | some l => if l.currentBin = some b && (s.bin b).nearFull then l.nextBin s else none
    | none => none
  | _, _, _ => none

/-- Whether a queued request of a lot other than `n` has a step on `g` (R121). -/
def wantedByOther (s : State) (n : Nat) (g : SegIdx) : Bool :=
  s.alloc.queue.any fun q => decide (q.lot ≠ n) &&
    (match q.route with | some r => s.routeHas r g | none => false)

/-- Whether the staging check reserves segment `g` for stream `i` of lot `n` under record `x` (R121). -/
def stageable (s : State) (i : StreamIdx) (n : Nat) (x : Staging) (g : SegIdx) : Bool :=
  !s.activeHas i g && !x.staged.has g && (s.seg g).openFree && !wantedByOther s n g

/-- One step of a staging record's route: reserved STAGED when it may be, the target bin's class set before a gate
(R121). -/
def stageStep (i : StreamIdx) (n cls : Nat) (st : Step) (s : State) : State :=
  match s.stagingOf i with
  | none => s
  | some x =>
    if stageable s i n x st.segment then
      let s1 := match (s.seg st.segment).gateBin with
        | some _ => setClass x.target cls s
        | none => s
      (reserve st.segment .staged ⟨n, i, st.position⟩ s1).putStaging i
        (some { x with staged := x.staged.insert st.segment })
    else s

/-- Stream `i`'s record takes an absent route that the table now holds, then its segments are reserved (R120, steps 3
and 4). -/
def stageRecord (i : StreamIdx) (x : Staging) (s : State) : State :=
  let route := match x.route with | some r => some r | none => s.routeFor i x.target
  let s1 := s.putStaging i (some { x with route := route })
  match route, (s.stream i).currentLot with
  | some r, some n =>
    match s.findLot n with
    | some l => (s.stepsOf r).foldl (fun s st => stageStep i n l.cls st s) s1
    | none => s1
  | _, _ => s1

/-- The staging check for one stream (R120). A record dropped here is given anew by the further pass the drop
occasions (log 17). -/
def stagingCheck (i : StreamIdx) (s : State) : State :=
  if (s.stream i).state = .feeding then
    match s.stagingOf i, stagingTarget s i with
    | some x, some b => if x.target = b then stageRecord i x s else dropStaging i s
    | some _, none => dropStaging i s
    | none, some b => stageRecord i ⟨b, none, IdxSet.empty 64⟩ s
    | none, none => s
  else s

/-- An evaluation pass: the requests, then the staging checks (R115). -/
def evaluationPass (s : State) : State := forEach stagingCheck (evaluateRequests s)

/-! ## Bin changeover (R123 to R126) -/

/-- Whether the old route's step list meets case (a) for a step of the new one (R124). -/
def sameInRoute (s : State) (old : RouteIdx) (st : Step) : Bool :=
  (s.stepsOf old).any fun o => o.segment == st.segment &&
    ((s.seg st.segment).isConveyor || decide (o.position = st.position))

/-- Whether a staging record holds segment `g` READY for bin `b` (R124, case c). -/
def stagedReady (s : State) (i : StreamIdx) (b : BinIdx) (g : SegIdx) : Bool :=
  match s.stagingOf i with
  | some x => decide (x.target = b) && x.staged.has g && decide ((s.seg g).state = .ready)
  | none => false

/-- Whether a step of the new route meets one of the three cases (R124). -/
def hitStep (s : State) (i : StreamIdx) (b : BinIdx) (old : RouteIdx) (st : Step) : Bool :=
  sameInRoute s old st ||
  (s.routeHas old st.segment && (s.seg st.segment).canMoveUnderFlow i st.position) ||
  stagedReady s i b st.segment

/-- The STAGED-HIT test: the old and new route when it succeeds (R124). -/
def stagedHit (s : State) (i : StreamIdx) (b : BinIdx) : Option (RouteIdx × RouteIdx) :=
  match (s.stream i).activeRoute, s.routeFor i b with
  | some old, some new => if (s.stepsOf new).all (hitStep s i b old) then some (old, new) else none
  | _, _ => none

/-- One step of the new route at a hit (R103). -/
def hitSegment (i : StreamIdx) (old : RouteIdx) (st : Step) (s : State) : State :=
  if sameInRoute s old st then s
  else if s.routeHas old st.segment then moveUnderFlow i st.segment st.position s
  else takeStaged i st.segment s

/-- A hit: the changeover of R103, the active route, the staging record, the permit (R125). DESIGN CHOICE (log 43): R103
and R125 have the changeover in one event and order no two segments in it; those left are released in the old route's step
order, then those of the new route are moved or taken in its step order, which orders the SET frames. -/
def carryHit (i : StreamIdx) (old new : RouteIdx) (s : State) : State :=
  let gone := (s.stepsOf old).filter fun o => !s.routeHas new o.segment
  let s1 := gone.foldl (fun s o => releaseSeg i o.segment s) s
  let s2 := (s.stepsOf new).foldl (fun s st => hitSegment i old st s) s1
  permitFeed i ((refreshLamps (s2.modStream i fun x => { x with activeRoute := some new })).putStaging i none)

/-- A FEEDING stream of a lot whose current bin has become `new` (R123, steps 1 and 2). -/
def changeStream (n : Nat) (new : Option BinIdx) (i : StreamIdx) (s : State) : State :=
  if (s.stream i).state = .feeding ∧ (s.stream i).currentLot = some n then
    match new with
    | some b =>
      match stagedHit s i b with
      | some (old, r) => carryHit i old r s
      | none => enterDraining i (raise .stageMiss i.val s)
    | none => addReason i (.noBin n) (raise .noBin i.val s)
  else s

/-- A queued request of a lot whose current bin has become `b` (R112). -/
def retarget (b : BinIdx) (q : Request) (s : State) : State :=
  (((releaseGrant q s).modRequest q.stream fun x =>
    { x with granted := false, bin := b, route := s.routeFor q.stream b })).occasion

/-- The queued requests of lot `n`, in queue order (R112). -/
def requestsOf (s : State) (n : Nat) : List Request := s.alloc.queue.filter fun q => decide (q.lot = n)

/-- The requests of lot `n` are re-targeted, or leave the queue when it has no current bin (R112). -/
def retargetLot (n : Nat) (new : Option BinIdx) (s : State) : State :=
  (requestsOf s n).foldl (fun s q =>
    match new with
    | some b => retarget b q s
    | none => removeRequest q.stream s) s

/-- The Stream unit's part in the report: NO-BIN leaves with a new current bin, and joins WAITING streams of the lot
without one (R39). In which order several streams are freed is the model's choice (DESIGN CHOICE, log 33). -/
def noteCurrentBin (n : Nat) (new : Option BinIdx) (i : StreamIdx) (s : State) : State :=
  let x := s.stream i
  match new with
  | some _ => if x.noBinLot = some n then removeReason i (.noBin n) s else s
  | none => if x.state = .waiting ∧ x.currentLot = some n then addReason i (.noBin n) s else s

/-- The report that lot `n`'s current bin has changed (R19, R39, R112, R123). R123 tests the FEEDING streams in ascending
stream number. DESIGN CHOICE (log 33): R19 and R39 give the streams held with NO-BIN for the lot no order; they are freed
in ascending stream number, and their new requests are queued in that order; so are the streams that join NO-BIN. -/
def currentBinChanged (n : Nat) (new : Option BinIdx) (s : State) : State :=
  (forEach (noteCurrentBin n new) (retargetLot n new (forEach (changeStream n new) s))).emit .passNow

/-! ## Reports of the Segment unit (R38, R117, R119, R39) -/

/-- A stream whose active route has a step on the faulted segment (R119); a DRAINING one whose intake it is loses its
drain timer (R38). -/
def faultOnStream (g : SegIdx) (i : StreamIdx) (s : State) : State :=
  let x := s.stream i
  if x.state.timed && s.activeHas i g then
    let s1 := if x.state = .draining ∧ x.config.intake = some g then
      s.putStream i { x with drain := none } else s
    addReason i (.segment g) s1
  else s

/-- A granted request whose route has a step on the faulted segment loses its grant, and its stream is held (R119). -/
def faultOnRequest (g : SegIdx) (q : Request) (s : State) : State :=
  match q.granted, q.route with
  | true, some r =>
    if s.routeHas r g then
      addReason q.stream (.segment g)
        ((releaseGrant q s).modRequest q.stream fun x => { x with granted := false })
    else s
  | _, _ => s

/-- Segment `g` has faulted (R119). DESIGN CHOICE (log 33): several streams take the fault in ascending stream
number. -/
def segmentFaulted (g : SegIdx) (s : State) : State :=
  let s1 := forEach (faultOnStream g) s
  let s2 := s1.alloc.queue.foldl (fun s q => faultOnRequest g q s) s1
  (forEach (fun i => loseStaged i g) s2).occasion

/-- Segment `g`'s fault has been cleared (R39, R97, R115). DESIGN CHOICE (log 33): several streams take the clearing in
ascending stream number. -/
def segmentCleared (g : SegIdx) (s : State) : State :=
  (forEach (fun i => removeReason i (.segment g)) s).occasion

/-- The end of segment `g`'s flush ends the draining of a stream whose intake it is (R38). -/
def flushEnded (g : SegIdx) (s : State) : State :=
  forEach (fun i s =>
    if (s.stream i).state = .draining ∧ (s.stream i).config.intake = some g then endDraining i s else s) s

/-- Segment `g` has become READY: the activation test of each granted request whose route has it (R117). -/
def segmentReady (g : SegIdx) (s : State) : State :=
  s.alloc.queue.foldl (fun s q =>
    match q.route with
    | some r => if s.routeHas r g then tryActivate q.stream s else s
    | none => s) s

end Sys2Proof.Machine
end

