-- ==== Sys2Proof/Machine/Tally.lean ====
section
/-! DEFINITION. The Tally engine's arithmetic and verdict (03), the zero capture's part in a sample (04), and the
examination of a sample by the Stream unit (02, Samples). -/

namespace Sys2Proof.Machine

/-! ## Fields of a sample (R29, R158) -/

/-- The demand flag: bit 0. -/
def sampleDemand (f : SampleFields) : Bool := f.flags.getLsbD 0
/-- The meter-ok flag: bit 1. -/
def sampleMeterOk (f : SampleFields) : Bool := f.flags.getLsbD 1
/-- The restart flag: bit 2. -/
def sampleRestart (f : SampleFields) : Bool := f.flags.getLsbD 2

/-! ## Differences and rate (R31, R32, R52, R53) -/

/-- (new − old) mod `m`. -/
def deltaMod (m new old : Nat) : Nat := (new + (m - old % m)) % m

/-- d = (s − s₀) mod 256. -/
def seqDelta (s s0 : Nat) : Nat := deltaMod 256 s s0
/-- Δt = (t − t₀) mod 65,536. -/
def timeDelta (t t0 : Nat) : Nat := deltaMod 65536 t t0
/-- Δc = (c − c₀) mod 16,777,216. -/
def countDelta (c c0 : Nat) : Nat := deltaMod 16777216 c c0
/-- r = floor(Δc × 1000 / Δt). -/
def rateOf (dc dt : Nat) : Nat := dc * 1000 / dt

/-- What an accepted sample measures against the last sample. -/
structure Measured where
  /-- The sequence difference d. -/
  steps : Nat
  /-- Δc. -/
  counts : Nat
  /-- Δt. -/
  time : Nat
  /-- r. -/
  rate : Nat
deriving DecidableEq, Repr

/-- The measurement of a sample against a last sample. -/
def measure (l : LastSample) (f : SampleFields) : Measured :=
  let dc := countDelta f.count.toNat l.count
  let dt := timeDelta f.time.toNat l.time
  { steps := seqDelta f.seq.toNat l.seq, counts := dc, time := dt, rate := rateOf dc dt }

/-! ## Mass (R55 to R58) -/

/-- D, the divisor that brings a numerator to grams (R57). -/
def divisor : Nat := 102400000000000

/-- N: counts less the zero term over at most 4000 ms, never below 0 (R55, R56). -/
def netCount (k : Calibration) (counts time : Nat) : Nat := counts * 1024000 - k.zero * min time 4000

/-- 100,000 + T. -/
def trimFactor (k : Calibration) : Nat := (100000 + k.trim).toNat

/-- M = N × K × (100,000 + T) (R57). -/
def numerator (k : Calibration) (counts time : Nat) : Nat := netCount k counts time * k.span * trimFactor k

/-- g = floor((M + R) / D) (R58). -/
def gramsOf (k : Calibration) (residue counts time : Nat) : Nat := (numerator k counts time + residue) / divisor

/-- R′ = (M + R) − g × D (R58). -/
def residueAfter (k : Calibration) (residue counts time : Nat) : Nat := (numerator k counts time + residue) % divisor

/-! ## The tests (R54, R60 to R63) -/

/-- A gross sample: its rate is above 4 × C (R54). -/
def isGross (k : Calibration) (m : Measured) : Bool := decide (4 * k.ceiling < m.rate)

/-- Over-range: its rate is above C (R61). -/
def isOverRange (k : Calibration) (m : Measured) : Bool := decide (k.ceiling < m.rate) && !isGross k m

/-- The absolute difference. -/
def absDiff (a b : Nat) : Nat := (a - b) + (b - a)

/-- A rate jump, the stream as it stands after the sample's transitions (R62). DESIGN CHOICE (log 36): the four
conditions alone decide; a stream that has drained and become FEEDING again between two consecutive accepted samples is
tested like any other. -/
def isRateJump (k : Calibration) (x : Stream) (r0 : Nat) (m : Measured) : Bool :=
  decide (0 < k.jump) && x.fedAtLast && decide (x.state = .feeding) && decide (k.jump < absDiff m.rate r0)

/-- A gap: Δt above the gap limit (R63). -/
def isGap (x : Stream) (m : Measured) : Bool := decide (x.config.gapLimit < m.time)

/-- The verdict certified: none of the four conditions holds (R60). -/
def isCertified (k : Calibration) (x : Stream) (r0 : Nat) (f : SampleFields) (m : Measured) : Bool :=
  !(isOverRange k m || isRateJump k x r0 m || isGap x m || !sampleMeterOk f)

/-! ## The tally of one accepted sample (R51, R54, R61, R62, R64) -/

/-- The last sample taken from a frame, with the rate given. -/
def lastOf (f : SampleFields) (rate : Nat) : LastSample :=
  { seq := f.seq.toNat, time := f.time.toNat, count := f.count.toNat, rate := rate }

/-- r₀ of a stream's last sample. -/
def Stream.lastRate (x : Stream) : Nat := match x.last with | some l => l.rate | none => 0

/-- OVER is counted and OVER-RANGE raised (R61). -/
def countOverRange (i : StreamIdx) (s : State) : State :=
  raise .overRange i.val (s.modTally i fun t => { t with overCount := countUp t.overCount 1 })

/-- JUMP is counted and RATE-JUMP raised (R62). -/
def countRateJump (i : StreamIdx) (s : State) : State :=
  raise .rateJump i.val (s.modTally i fun t => { t with jumpCount := countUp t.jumpCount 1 })

/-- What the Tally engine leaves after a sample that is not gross: counters, events, residue, last sample
(R61, R62, R64). DESIGN CHOICE (log 35): R60 orders neither event first; of a sample that is both, OVER-RANGE is raised
before RATE-JUMP. -/
def tallyEffects (i : StreamIdx) (k : Calibration) (f : SampleFields) (m : Measured) (s : State) : State :=
  let x := s.stream i
  let s1 := if isOverRange k m then countOverRange i s else s
  let s2 := if isRateJump k x x.lastRate m then countRateJump i s1 else s1
  (s2.modTally i fun t => { t with residue := residueAfter k t.residue m.counts m.time }).modStream i
    fun y => { y with last := some (lastOf f m.rate) }

/-! ## Zero capture (R79, R80) -/

/-- z = the lesser of 65,535 and floor(ΣΔc × 1,024,000 / E) (R80). -/
def newZero (counts time : Nat) : Nat := min 65535 (counts * 1024000 / time)

/-- A serial one further, modulo 65,536 (R70). -/
def nextSerial (n : Nat) : Nat := (n + 1) % 65536

/-- The running capture completes with the sums given: z and serial change, then the capture ends DONE (R80). -/
def completeCapture (c : Capture) (s : State) : State :=
  let z := newZero c.counts c.time
  endCapture (.done z)
    ((s.putCapture (some c)).modTally c.stream fun t =>
      { t with cal := t.cal.map (fun k => { k with zero := z }), serial := nextSerial t.serial })

/-- An accepted sample reaches the capture running on its stream: it is taken in, and completes the capture when the
summed Δt has reached the window (R79, R80); `tallyStep` says when in a sample (log 42). -/
def captureSample (i : StreamIdx) (m : Measured) (s : State) : State :=
  match s.tally.capture with
  | none => s
  | some c =>
    if c.stream = i then
      let c' := { c with counts := satAdd c.counts m.counts, time := c.time + m.time }
      if c'.window ≤ c'.time then completeCapture c' s else s.putCapture (some c')
    else s

/-- The first cause in R81's table that an accepted sample of stream `i` bears. -/
def sampleCause (s : State) (i : StreamIdx) (f : SampleFields) (m : Measured) : Option AbortCause :=
  if sampleDemand f then some .demand
  else if !sampleMeterOk f then some .meterFault
  else if isGap (s.stream i) m then some .gap
  else match (s.tallyOf i).cal with
    | some k => if isGross k m then some .gross else none
    | none => none

/-- A capture running on stream `i` aborts when the sample bears a cause (R81). -/
def captureCause (i : StreamIdx) (cause : Option AbortCause) (s : State) : State :=
  match cause with
  | some c => if s.capturing i then endCapture (.aborted c) s else s
  | none => s

/-! ## Booking (R43) -/

/-- The states in which grams are booked to the current lot (R43). -/
def StreamState.books : StreamState → Bool
  | .feeding | .draining => true
  | .idle | .waiting | .held => false

/-- The grams of an accepted sample are booked by the stream's state; an uncertified verdict clears the
certified-since-read flag (R43). -/
def bookSample (i : StreamIdx) (g : Nat) (certified : Bool) (s : State) : State :=
  let s1 := if certified then s else s.modStream i fun x => { x with certifiedSinceRead := false }
  if (s.stream i).state.books then bookOrKeep i (s.stream i).currentLot (s.activeBin i) g certified s1
  else addUnassigned i g s1

/-! ## Suspect samples (R45, R54) -/

/-- The suspect record after a gross sample (R45). -/
def suspectAfter (s : State) (i : StreamIdx) (f : SampleFields) (m : Measured) : Suspect :=
  let x := s.stream i
  match x.suspect with
  | none =>
    { counts := m.counts, firstSeq := f.seq.toNat, lastSeq := f.seq.toNat, time := m.time, lot := x.currentLot
      bin := if x.state.books then s.activeBin i else none }
  | some r => { r with counts := satAdd r.counts m.counts, time := satAdd r.time m.time, lastSeq := f.seq.toNat }

/-- A gross sample: the last sample advances with r₀ = 0, the suspect record is made or extended, METER is added and
METER-SUSPECT raised (R45, R54). -/
def grossSample (i : StreamIdx) (f : SampleFields) (m : Measured) (s : State) : State :=
  let r := suspectAfter s i f m
  raise .meterSuspect i.val
    (addReason i .meter (s.modStream i fun x => { x with last := some (lastOf f 0), suspect := some r }))

/-- Steps 4 and 5 of an accepted sample (R32): tally and booking. Without a calibration record the last sample
advances alone. DESIGN CHOICE (log 42): R65, R79 and R80 put only the forming of the tally before a running capture takes
the sample in; the model takes it in, and completes the capture, before the grams are booked, so CAPTURE-END is raised
before an UNROUTED of the same sample. -/
def tallyStep (i : StreamIdx) (f : SampleFields) (m : Measured) (s : State) : State :=
  let t := s.tallyOf i
  let x := s.stream i
  match t.cal with
  | none => s.modStream i fun y => { y with last := some (lastOf f m.rate) }
  | some k =>
    if isGross k m then grossSample i f m s
    else
      bookSample i (gramsOf k t.residue m.counts m.time) (isCertified k x x.lastRate f m)
        (captureSample i m (tallyEffects i k f m s))

/-! ## Transitions (R34 to R36) -/

/-- An IDLE stream starts for lot `n`: it attaches; WAITING when the lot has a current bin, else HELD with NO-BIN,
detached again (R10, R34). -/
def startStream (i : StreamIdx) (n : Nat) (s : State) : State :=
  let s1 := leaveIdle i s
  match s.currentBinOf n with
  | some b => becomeWaiting i n b s1
  | none => holdNoBin i n ((attach n i s1).modStream i fun x => { x with currentLot := some n })

/-- NO-LOT, when the lookup differs from the one held before the sample (R34). -/
def noLot (i : StreamIdx) (prev : Option Lookup) (s : State) : State :=
  if prev = (s.stream i).lastLookup then s else raise .noLot i.val s

/-- The IDLE rule (R34). -/
def idleRule (i : StreamIdx) (prev : Option Lookup) (s : State) : State :=
  let x := s.stream i
  if x.demand then
    match x.lastLookup with
    | some (.lot n) =>
      if s.qualifies n then (if s.calibrated i then startStream i n s else s) else noLot i prev s
    | _ => noLot i prev s
  else s

/-- Whether the stream's last lookup gives its current lot. -/
def Stream.sameLot (x : Stream) : Bool :=
  match x.currentLot with
  | some n => decide (x.lastLookup = some (.lot n))
  | none => false

/-- Step 3 of R32: the transitions of an examined sample. `prev` is the lookup held before it; `emptied` says that
step 2 has cleared the last reason of a HELD stream (R39). -/
def transitions (i : StreamIdx) (prev : Option Lookup) (emptied : Bool) (s : State) : State :=
  let x := s.stream i
  match x.state with
  | .idle => idleRule i prev s
  | .waiting =>
    if x.demand then
      if x.sameLot then s else idleRule i prev (becomeIdle i (removeRequest i s))
    else becomeIdle i (removeRequest i s)
  | .feeding => if x.demand && x.sameLot then s else enterDraining i s
  | .draining => s
  | .held => if emptied then leaveHeld i s else s

/-! ## Examination (R30, R32) -/

/-- The reasons an examined sample clears: SILENT, and NO-BIN by demand 0 or another lookup (R39). -/
def Stream.clearBySample (x : Stream) : Stream :=
  let y := x.withoutReason .silent
  match y.noBinLot with
  | some n => if x.demand && decide (x.lastLookup = some (.lot n)) then y else y.withoutReason (.noBin n)
  | none => y

/-- Steps 1 to 3 of R32 for an examined sample. -/
def examineSteps (i : StreamIdx) (f : SampleFields) (s : State) : State :=
  let x := s.stream i
  let x1 := { x with lastLookup := some (s.lookup f.hold.toNat f.layer.toNat), demand := sampleDemand f }
  let x2 := x1.clearBySample
  let s2 := restartSilence i (s.putStream i x2)
  let emptied := decide (x.reasons ≠ HoldSet.none) && decide (x2.reasons = HoldSet.none)
  restartSilence i (transitions i x.lastLookup emptied s2)

/-- The fed-at-last flag after step 5 of an accepted sample (R32). -/
def noteFed (i : StreamIdx) (s : State) : State :=
  s.modStream i fun x => { x with fedAtLast := decide (x.state = .feeding) }

/-- A priming sample (R30): it aborts a capture (R81), becomes the last sample, and is examined. -/
def primeSample (i : StreamIdx) (f : SampleFields) (s : State) : State :=
  examineSteps i f
    ((captureCause i (some .meterRestart) s).modStream i fun x =>
      { x with last := some (lastOf f 0), fedAtLast := false })

/-- An accepted sample (R32): MISSED, a cause of R81 it bears, then steps 1 to 5. DESIGN CHOICE (log 37): R81 has the
abort only before the stream leaves IDLE; the model makes it before every step, so CAPTURE-END is raised before any other
event of the sample. -/
def acceptSample (i : StreamIdx) (f : SampleFields) (m : Measured) (s : State) : State :=
  let s1 := s.modStream i fun x => { x with missed := countUp x.missed (m.steps - 1) }
  noteFed i (tallyStep i f m (examineSteps i f (captureCause i (sampleCause s i f m) s1)))

/-- Whether the sequence and meter-time checks accept (R31, R32). -/
def Measured.accepted (m : Measured) : Bool :=
  decide (1 ≤ m.steps) && decide (m.steps ≤ 128) && decide (m.time ≠ 0)

/-- A sample of stream `i` (R30, R31, R32). -/
def streamSample (i : StreamIdx) (f : SampleFields) (s : State) : State :=
  match (s.stream i).last with
  | none => primeSample i f s
  | some l =>
    if sampleRestart f then primeSample i f s
    else if (measure l f).accepted then acceptSample i f (measure l f) s
    else s.modStream i fun x => { x with discarded := countUp x.discarded 1 }

/-- The stream whose meter station is `a` (R29). -/
def streamOfMeter (s : State) (a : Nat) : Option StreamIdx :=
  s.streams.findIdx? fun x => x.config.meter == some a

/-- An examined SAMPLE frame from station `a` reaches the Stream unit (R29). -/
def sampleExamined (a : Nat) (f : SampleFields) (s : State) : State :=
  match streamOfMeter s a with
  | some i => streamSample i f s
  | none => s

/-! ## Accepting a suspect record (R46, R68) -/

/-- The suspect record of stream `i` is tallied uncertified and booked as R46 states; without a calibration record
the grams are 0 and the residue stands (R68). -/
def acceptSuspectRecord (i : StreamIdx) (r : Suspect) (s : State) : State :=
  let t := s.tallyOf i
  let s1 := s.modStream i fun x => { x with certifiedSinceRead := false }
  match t.cal with
  | none => bookOrKeep i r.lot r.bin 0 false s1
  | some k =>
    bookOrKeep i r.lot r.bin (min maxGrams (gramsOf k t.residue r.counts r.time)) false
      (s1.modTally i fun t => { t with residue := residueAfter k t.residue r.counts r.time })

/-- The suspect record is deleted and METER leaves the set (R46, R39). -/
def deleteSuspect (i : StreamIdx) (s : State) : State :=
  removeReason i .meter (s.modStream i fun x => { x with suspect := none })

end Sys2Proof.Machine
end

