-- ==== Sys2Proof/Machine/Settle.lean ====
section
/-! DEFINITION. The reports blocks make to one another are taken, each with what it brings about, before the command
that made them ends (log 5). -/

namespace Sys2Proof.Machine

/-- An evaluation pass, unless the restart interval runs (R115, R128). -/
def passUnlessRestarting (s : State) : State :=
  let s1 := { s with passDue := false }
  if s.restarting then s1 else evaluationPass s1

/-- One report is taken. Every pass, a changeover's too, is followed by one further pass when an occasion has arisen in
it: the further pass comes after the reports the pass has made and before those that waited (R16, R115, R123). -/
def takeReport (r : Report) (s : State) : State :=
  match r with
  | .bin b => s.occasion.emit (.examineLots b 0)
  | .examineLots b i => examineLots b i s
  | .currentBin n b => currentBinChanged n b s
  | .ready g => segmentReady g s
  | .endOfFlush g => flushEnded g s
  | .faulted g => segmentFaulted g s
  | .cleared g => segmentCleared g s
  | .pass => if s.passDue then (passUnlessRestarting s).emit .pass else s
  | .passNow => (passUnlessRestarting s).emit .pass

/-- The oldest report is taken; the reports it makes are taken before the others. -/
def takeNext (s : State) : State :=
  match s.agenda with
  | [] => s
  | r :: rest =>
    let t := takeReport r { s with agenda := [] }
    { t with agenda := t.agenda ++ rest }

/-- Up to `n` reports are taken. -/
def settle : Nat → State → State
  | 0, s => s
  | n + 1, s => if s.agenda.isEmpty then s else settle n (takeNext s)

/-- The bound on the reports of one command; no command the DT-8 can take comes near it (log 5). -/
def reportBound : Nat := 4096

/-- Every report and evaluation pass a state has brought about is taken, then the lamps are chosen (R177). -/
def settled (s : State) : State := refreshLamps (settle reportBound (s.emit .pass))

/-- A command's effect `body`, then all it brings about. -/
def event (body : State → State) (s : State) : State := settled (body s)

end Sys2Proof.Machine
end

