-- ==== Sys2Proof/Machine/Requests.lean ====
section
/-! DEFINITION. The Management unit: its input buffer and the request in hand (R160, R161), and the form every
request's processing has (R162, R163, R167). -/

namespace Sys2Proof.Machine

/-- The input buffer's capacity (R160). -/
def inputRoom : Nat := 4

/-- The unit, free, takes the oldest frame of its buffer in hand (R161). -/
def Management.takeFrame (m : Management) : Management :=
  match m.input with
  | [] => { m with inHand := none }
  | f :: r => { m with input := r, inHand := some f }

/-- A MANAGE frame reaches the unit: the last MANAGE source is set; the frame joins the buffer, and a free unit takes
the oldest in hand; or the frame is refused and MGMT-DROP counted (R160, R161). -/
def manageReceived (f : MFrame) (s : State) : State :=
  let m := { s.mgmt with lastSource := some f.source }
  if m.input.length < inputRoom then
    let m1 := { m with input := m.input ++ [f] }
    s.putMgmt (match m1.inHand with | some _ => m1 | none => m1.takeFrame)
  else (s.putMgmt m).putLoop { s.loop with mgmtDrop := countUp s.loop.mgmtDrop 1 }

/-- The request in hand, when it is the one `c` stands for, has been processed: the unit is free and takes the next
frame (R161, log 8). -/
def finishRequest (c : Instr) (s : State) : State :=
  match s.mgmt.inHand with
  | some f => if decodeRequest f = c then s.putMgmt s.mgmt.takeFrame else s
  | none => s

/-- What the owner of a table or command answers: a refusal, or DONE with an effect (R163, R167). -/
inductive Answer where
  | refuse (code : ReplyCode)
  | done (effect : State → State)

/-- The REPLY without data is placed, and the unit is free (R161, R164). -/
def replied (c : Instr) (q : Requester) (o : ReplyCode) (s : State) : State := finishRequest c (s.placeReply q o [])

/-- The request is answered. A refused one changes nothing else (R163); one that is DONE has its effect and all its
consequences, then its REPLY is placed (log 7). -/
def answer (c : Instr) (q : Requester) (a : Answer) (s : State) : State :=
  match a with
  | .refuse code => replied c q code s
  | .done effect => replied c q .done (event effect s)

/-- Tests 1, 4 and 5 of R163, then the owner's answer. -/
def owned {α : Type} (a : Option α) (owner : α → State → Answer) (s : State) : Answer :=
  if s.restarting then .refuse .restarting
  else match a with
    | none => .refuse .badRecord
    | some x => owner x s

/-- A request's processing (R161 to R163, R167). -/
def request {α : Type} (c : Instr) (q : Requester) (a : Option α) (owner : α → State → Answer) (s : State) :
    Host.Outcome State Fault Refusal :=
  .next (answer c q (owned a owner s) s)

/-- A command naming an index of a table of `n`: BAD-INDEX outside it. -/
def indexed (n : Nat) (k : Nat) (owner : Fin n → Answer) : Answer :=
  match idx? n k with
  | some i => owner i
  | none => .refuse .badIndex

end Sys2Proof.Machine
end

