-- ==== Sys2Proof/Machine/Commands.lean ====
section
/-! DEFINITION. The command requests (R167): lots, streams, suspects, bins, segments, calibration, events, lamps,
RESTART. -/

namespace Sys2Proof.Machine

/-! ## Lots (R9, R12, R13, R24) -/

/-- A PLANNED lot becomes OPEN and has its current bin chosen (R9). -/
def openLotAt (i : LotIdx) (s : State) : State :=
  match s.lotAt i with
  | some l => chooseCurrent i (s.putLot i (some { l with state := .opened }))
  | none => s

/-- R9's answer. -/
def ownOpenLot (n : Nat) (s : State) : Answer :=
  match s.lotIdx? n with
  | none => .refuse .notFound
  | some i =>
    match s.lotAt i with
    | none => .refuse .notFound
    | some l => if l.state = .planned then .done (openLotAt i) else .refuse .badState

/-- A stream attached to the closing lot `n`: FEEDING drains, WAITING is detached, DRAINING goes on (R12). In which
order several attached streams take the close is the model's choice (DESIGN CHOICE, log 32). -/
def closeStream (n : Nat) (i : StreamIdx) (s : State) : State :=
  let x := s.stream i
  if x.currentLot = some n then
    match x.state with
    | .feeding => enterDraining i s
    | .waiting => becomeIdle i (removeRequest i s)
    | _ => s
  else s

/-- NO-BIN leaves a stream held for a lot that has left OPEN and DISCHARGING (R39). -/
def freeHeldFor (n : Nat) (i : StreamIdx) (s : State) : State :=
  if (s.stream i).noBinLot = some n then removeReason i (.noBin n) s else s

/-- The lot at `i` becomes CLOSING with a close kind (R12, R13). -/
def enterClosing (i : LotIdx) (l : Lot) (k : CloseKind) (s : State) : State :=
  s.putLot i (some { l with state := .closing, closeKind := some k, outturnFullReported := false })

/-- The queued requests of a closing lot are removed, in queue order (R127). -/
def removeRequestsOf (n : Nat) (s : State) : State :=
  (requestsOf s n).foldl (fun s q => removeRequest q.stream s) s

/-- A close of the lot at `i`: CLOSING, its requests removed, its streams moved, and the completion test at once when
no stream is attached (R12, R13, R127). DESIGN CHOICE (log 32): R12 gives its streams no order; they take the close in
ascending stream number. -/
def closeLotAt (i : LotIdx) (s : State) : State :=
  match s.lotAt i with
  | none => s
  | some l =>
    let s1 := enterClosing i l (if l.state = .planned then .plannedClose else .requested) s
    let s2 := if l.attached.isEmpty then completionTest i s1 else s1
    forEach (freeHeldFor l.number) (forEach (closeStream l.number) (removeRequestsOf l.number s2))

/-- R12's and R13's answer. -/
def ownCloseLot (n : Nat) (s : State) : Answer :=
  match s.lotIdx? n with
  | none => .refuse .notFound
  | some i =>
    match s.lotAt i with
    | none => .refuse .notFound
    | some l => if l.state = .closing then .refuse .badState else .done (closeLotAt i)

/-- The out-turn record of lot `n` is removed, and the first waiting lot completes into the freed slot (R23, R24). -/
def releaseOutturnOf (n : Nat) (s : State) : State :=
  let s1 := s.putOutturn (s.lot.outturn.filter (·.number != n))
  match firstWaitingLot s1 with
  | some i => completionTest i s1
  | none => s1

/-- R24's answer. -/
def ownReleaseOutturn (n : Nat) (s : State) : Answer :=
  if s.inOutturn n then .done (releaseOutturnOf n) else .refuse .notFound

/-! ## Streams (R40, R46) -/

/-- R40's answer to HOLD-STREAM. -/
def ownHoldStream (k : Nat) (_s : State) : Answer :=
  indexed 8 k fun i => .done fun s => if (s.stream i).reasons.operator then s else addReason i .operator s

/-- R40's answer to RELEASE-STREAM. -/
def ownReleaseStream (k : Nat) (_s : State) : Answer :=
  indexed 8 k fun i => .done (removeReason i .operator)

/-- R46's answer to ACCEPT-SUSPECT. -/
def ownAcceptSuspect (k : Nat) (s : State) : Answer :=
  indexed 8 k fun i =>
    match (s.stream i).suspect with
    | none => .refuse .notFound
    | some r => .done fun s => deleteSuspect i (acceptSuspectRecord i r s)

/-- R46's answer to DISCARD-SUSPECT. -/
def ownDiscardSuspect (k : Nat) (s : State) : Answer :=
  indexed 8 k fun i =>
    match (s.stream i).suspect with
    | none => .refuse .notFound
    | some _ => .done (deleteSuspect i)

/-! ## Bins (R142, R143) -/

/-- BIN-EMPTIED's effect (R142). -/
def emptyBin (b : BinIdx) (s : State) : State :=
  let x := s.bin b
  let y := { x with fill := 0, cls := none, gaugeLevel := none, state := .available }
  let z := match y.period with
    | some _ => { y with pollOutstanding := false, replyTimer := none, pollTimer := some 0 }
    | none => y
  let s1 := s.putBin b z
  judgeBin b (if x.state = .available ∧ x.cls = none then s1 else s1.emit (.bin b))

/-- R142's answer. -/
def ownBinEmptied (k : Nat) (s : State) : Answer :=
  indexed 40 k fun b =>
    if (s.bin b).config.isNone then .refuse .badState
    else if (s.bin b).gateReserved then .refuse .inUse
    else .done (emptyBin b)

/-- BIN-SERVICE out: the bin is withdrawn and its polling stops (R143). -/
def serviceOut (b : BinIdx) (s : State) : State :=
  let x := s.bin b
  if x.state = .outOfService then s else (s.putBin b (x.withState .outOfService)).emit (.bin b)

/-- R143's answer for the direction out. -/
def ownServiceOut (k : Nat) (_s : State) : Answer := indexed 40 k fun b => .done (serviceOut b)

/-- BIN-SERVICE in: FILLING or AVAILABLE by the gate, then judged (R143). -/
def serviceIn (b : BinIdx) (s : State) : State :=
  let x := s.bin b
  judgeBin b ((s.putBin b (x.withState (if x.gateCarrying then .filling else .available))).emit (.bin b))

/-- R143's answer for the direction in. -/
def ownServiceIn (k : Nat) (s : State) : Answer :=
  indexed 40 k fun b =>
    if (s.bin b).state = .outOfService ∧ (s.bin b).config.isSome then .done (serviceIn b) else .refuse .badState

/-! ## Segments (R97) -/

/-- R97's answer. -/
def ownClearFault (k : Nat) (s : State) : Answer :=
  indexed 64 k fun g => if (s.seg g).state = .fault then .done (clearFault g) else .refuse .badState

/-! ## Calibration (R73, R78) -/

/-- A new unlock, replacing any other (R73). -/
def unlockStream (i : StreamIdx) (s : State) : State :=
  (endUnlock .unlockReplaced s).putUnlock (some { stream := i, left := 10000, held := false })

/-- R73's answer. -/
def ownUnlock (a : UnlockArgs) (s : State) : Answer :=
  indexed 8 a.stream fun i =>
    if !s.mgmt.calen then .refuse .locked
    else if (s.stream i).state ≠ .idle then .refuse .badState
    else if a.serial ≠ (s.tallyOf i).serial then .refuse .badRecord
    else .done (unlockStream i)

/-- The window of a capture in milliseconds: 10..300 s, 60 when none is given (R78). -/
def captureWindow (w : Option Nat) : Nat := setting60 w * 1000
where
  /-- The window in seconds. -/
  setting60 : Option Nat → Nat
    | some n => clamp 10 300 n
    | none => 60

/-- A zero capture begins and holds the unlock (R78). -/
def beginCapture (i : StreamIdx) (window : Nat) (s : State) : State :=
  (s.putCapture (some { stream := i, window := window, counts := 0, time := 0 })).putUnlock
    (some { stream := i, left := window + 10000, held := true })

/-- R78's answer. -/
def ownCapture (a : CaptureArgs) (s : State) : Answer :=
  indexed 8 a.stream fun i =>
    if !s.mgmt.calen then .refuse .locked
    else if s.capturing i then .refuse .inUse
    else if !s.unlockedFor i then .refuse .locked
    else if (s.stream i).state ≠ .idle ∨ (s.stream i).last = none ∨ !s.calibrated i then .refuse .badState
    else .done (beginCapture i (captureWindow a.window))

/-! ## Lamps (R167, R176) -/

/-- The lamp mode a setting byte names (R167). -/
def lampMode? : Nat → Option LampMode
  | 0 => some .stream
  | 1 => some .alert
  | 2 => some .on
  | 3 => some .off
  | _ => none

/-- `s` with lamp `n` changed. -/
def modLamp (n : LampIdx) (f : Lamp → Lamp) (s : State) : State :=
  s.putInd { s.ind with lamps := s.ind.lamps.set n (f (s.ind.lamps.get n)) }

/-- A lamp takes a mode, and in STREAM mode a stream given with it (R176). -/
def setLamp (n : LampIdx) (m : LampMode) (i : Option StreamIdx) (s : State) : State :=
  modLamp n (fun l => { l with mode := m, assigned := if m = .stream then i.getD l.assigned else l.assigned }) s

/-- SET-LAMP for a lamp (R163 test 5, R167). The stream is disregarded unless the mode is STREAM (log 14). -/
def ownLampMode (a : LampArgs) (_s : State) : Answer :=
  match idx? 8 a.target with
  | none => .refuse .badIndex
  | some n =>
    match lampMode? a.setting with
    | none => .refuse .badRecord
    | some m =>
      match a.stream with
      | none => .done (setLamp n m none)
      | some k =>
        match idx? 8 k with
        | some i => .done (setLamp n m (some i))
        | none => if m = .stream then .refuse .badRecord else .done (setLamp n m none)

/-- A force is set or cleared (R176). -/
def setForce (forceOn level : Bool) (s : State) : State :=
  s.putInd (if forceOn then { s.ind with forceOn := level } else { s.ind with forceOff := level })

/-- SET-LAMP for FORCE-OFF or FORCE-ON (R163 test 5, R167). -/
def ownLampForce (a : ForceArgs) (_s : State) : Answer :=
  if a.setting = 0 then .done (setForce a.forceOn false)
  else if a.setting = 1 then .done (setForce a.forceOn true)
  else .refuse .badRecord

/-! ## RESTART (R168) -/

/-- The restart interval begins: 200 ms (R168). -/
def beginRestart (s : State) : State := s.putMgmt { s.mgmt with restartLeft := some 200 }

/-! ## The rows -/

/-- UNKNOWN_REQUEST (R163, tests 2 and 3). -/
def execUnknownRequest (q : Requester) (bad : UnknownCode) (s : State) : Host.Outcome State Fault Refusal :=
  request (.unknownRequest q bad) q (some ())
    (fun _ _ => .refuse (match bad with | .request _ => .unknown | .table _ => .badTable)) s

/-- OPEN_LOT (R9). -/
def execOpenLot (q : Requester) (lot : Option Nat) (s : State) : Host.Outcome State Fault Refusal :=
  request (.openLot q lot) q lot ownOpenLot s

/-- CLOSE_LOT (R12, R13). -/
def execCloseLot (q : Requester) (lot : Option Nat) (s : State) : Host.Outcome State Fault Refusal :=
  request (.closeLot q lot) q lot ownCloseLot s

/-- HOLD_STREAM (R40). -/
def execHoldStream (q : Requester) (stream : Option Nat) (s : State) : Host.Outcome State Fault Refusal :=
  request (.holdStream q stream) q stream ownHoldStream s

/-- RELEASE_STREAM (R40). -/
def execReleaseStream (q : Requester) (stream : Option Nat) (s : State) : Host.Outcome State Fault Refusal :=
  request (.releaseStream q stream) q stream ownReleaseStream s

/-- ACCEPT_SUSPECT (R46, R68). -/
def execAcceptSuspect (q : Requester) (stream : Option Nat) (s : State) : Host.Outcome State Fault Refusal :=
  request (.acceptSuspect q stream) q stream ownAcceptSuspect s

/-- DISCARD_SUSPECT (R46). -/
def execDiscardSuspect (q : Requester) (stream : Option Nat) (s : State) : Host.Outcome State Fault Refusal :=
  request (.discardSuspect q stream) q stream ownDiscardSuspect s

/-- BIN_EMPTIED (R142). -/
def execBinEmptied (q : Requester) (bin : Option Nat) (s : State) : Host.Outcome State Fault Refusal :=
  request (.binEmptied q bin) q bin ownBinEmptied s

/-- BIN_SERVICE_OUT (R143). -/
def execBinServiceOut (q : Requester) (bin : Option Nat) (s : State) : Host.Outcome State Fault Refusal :=
  request (.binServiceOut q bin) q bin ownServiceOut s

/-- BIN_SERVICE_IN (R143). -/
def execBinServiceIn (q : Requester) (bin : Option Nat) (s : State) : Host.Outcome State Fault Refusal :=
  request (.binServiceIn q bin) q bin ownServiceIn s

/-- CLEAR_SEGMENT_FAULT (R97). -/
def execClearSegmentFault (q : Requester) (segment : Option Nat) (s : State) : Host.Outcome State Fault Refusal :=
  request (.clearSegmentFault q segment) q segment ownClearFault s

/-- UNLOCK_CALIBRATION (R73). -/
def execUnlockCalibration (q : Requester) (a : Option UnlockArgs) (s : State) : Host.Outcome State Fault Refusal :=
  request (.unlockCalibration q a) q a ownUnlock s

/-- CAPTURE_ZERO (R78). -/
def execCaptureZero (q : Requester) (a : Option CaptureArgs) (s : State) : Host.Outcome State Fault Refusal :=
  request (.captureZero q a) q a ownCapture s

/-- RELEASE_OUTTURN (R24). -/
def execReleaseOutturn (q : Requester) (lot : Option Nat) (s : State) : Host.Outcome State Fault Refusal :=
  request (.releaseOutturn q lot) q lot ownReleaseOutturn s

/-- CLEAR_EVENTS (R173). -/
def execClearEvents (q : Requester) (pattern : Option (BitVec 24)) (s : State) : Host.Outcome State Fault Refusal :=
  request (.clearEvents q pattern) q pattern (fun p _ => .done (clearEventRecords p)) s

/-- SET_MASK (R172). -/
def execSetMask (q : Requester) (pattern : Option (BitVec 24)) (s : State) : Host.Outcome State Fault Refusal :=
  request (.setMask q pattern) q pattern (fun p _ => .done (setMasks p)) s

/-- SET_LAMP_MODE (R167, R176). -/
def execSetLampMode (q : Requester) (a : Option LampArgs) (s : State) : Host.Outcome State Fault Refusal :=
  request (.setLampMode q a) q a ownLampMode s

/-- SET_LAMP_FORCE (R167, R176). -/
def execSetLampForce (q : Requester) (a : Option ForceArgs) (s : State) : Host.Outcome State Fault Refusal :=
  request (.setLampForce q a) q a ownLampForce s

/-- RESTART (R168): the REPLY first, then the interval. -/
def execRestart (q : Requester) (a : Option Unit) (s : State) : Host.Outcome State Fault Refusal :=
  .next (if s.restarting then replied (.restart q a) q .restarting s
    else match a with
      | none => replied (.restart q a) q .badRecord s
      | some _ => finishRequest (.restart q a) (beginRestart (s.placeReply q .done [])))

end Sys2Proof.Machine
end

