-- ==== Sys2Proof/Machine/LoopCmds.lean ====
section
/-! DEFINITION. The commands of the pins and the loop: reset, CALEN, received frames, the end of a transmitted frame
(R71, R149 to R151, R156). -/

namespace Sys2Proof.Machine

/-! ## Disposition of received frames (R147, R150, R151) -/

/-- A bad frame is dropped and counted; the sixteenth raises LOOP-ERROR (R147, R157). -/
def badFrame (s : State) : State :=
  let s1 := s.putLoop { s.loop with crc := countUp s.loop.crc 1 }
  if s.loop.crc = 15 then raise .loopError 0 s1 else s1

/-- Whether a frame's source is the station address (R150, case 1). -/
def ownSource (s : State) (src : Byte) : Bool := decide (src.toNat = s.loop.address)

/-- A SAMPLE is examined, except during the restart interval (R151). -/
def examineSample (src : Byte) (f : SampleFields) (s : State) : State :=
  if s.restarting then s else sampleExamined src.toNat f s

/-- The payload of a SAMPLE (R158). -/
def samplePayload (f : SampleFields) : List Byte :=
  [f.seq] ++ bytesOf 2 f.time.toNat ++ bytesOf 3 f.count.toNat ++ [f.hold, f.layer, f.flags]

/-- The fields of a payload of length 9, taken as a SAMPLE's (R158). -/
def sampleOf : List Byte → Option SampleFields
  | [a, t1, t2, c1, c2, c3, h, l, fl] =>
    some { seq := a, time := t1 ++ t2, count := c1 ++ c2 ++ c3, hold := h, layer := l, flags := fl }
  | _ => none

/-- A POSREP from station `a` (R92). -/
def posrepReceived (a q : Nat) (s : State) : State :=
  match segOfActuator s a with
  | some g => positionReported g q s
  | none => s

/-- A consumed frame is handed on by kind, or discarded (R151). -/
def consume (f : Frame) (s : State) : State :=
  if f.kind = kindLevel ∧ f.payload.length = 2 then levelReported f.src.toNat (natOfBytes f.payload) s
  else if f.kind = kindPosrep ∧ f.payload.length = 1 then
    posrepReceived f.src.toNat (natOfBytes f.payload) s
  else if f.kind = kindManage ∧ 3 ≤ f.payload.length then
    match f.payload with
    | t1 :: t2 :: code :: args => manageReceived ⟨f.src, t1 ++ t2, code, args⟩ s
    | _ => s
  else s

/-- A good frame: stripped, consumed, examined and forwarded, or forwarded (R150). The forwarding of an examined frame
comes first (log 12). -/
def receiveGood (f : Frame) (s : State) : State :=
  if ownSource s f.src then s
  else if f.dst.toNat = s.loop.address then consume f s
  else if f.dst = broadcast ∧ f.kind = kindSample then
    match sampleOf f.payload with
    | some x => examineSample f.src x (s.forward f)
    | none => s.forward f
  else s.forward f

/-! ## The rows -/

/-- RESET (R149): every block at its reset values, the straps latched, CALEN's level taken (R71). The commands still
waiting stand (log 31). -/
def execReset (straps : BitVec 6) (calen : Bool) (s : State) : Host.Outcome State Fault Refusal :=
  .next (State.resetWith straps.toNat calen s.pending)

/-- The CALEN pin's level (R71). -/
def setCalen (level : Bool) (s : State) : State := s.putMgmt { s.mgmt with calen := level }

/-- CALEN_FALL (R71): from high to low, an unlock in force ends. -/
def execCalenFall (s : State) : Host.Outcome State Fault Refusal :=
  .next (if s.mgmt.calen then event (fun s => setCalen false (endUnlock .enableLow s)) s else s)

/-- CALEN_RISE (R71). -/
def execCalenRise (s : State) : Host.Outcome State Fault Refusal := .next (setCalen true s)

/-- FRAME_RECEIVED (R147, R150). -/
def execFrameReceived (chars : List Byte) (s : State) : Host.Outcome State Fault Refusal :=
  .next (match judgeFrame chars with
    | some f => event (receiveGood f) s
    | none => event badFrame s)

/-- SAMPLE (R150, R151, R32): a good broadcast SAMPLE frame of length 9. -/
def execSample (source : Byte) (f : SampleFields) (s : State) : Host.Outcome State Fault Refusal :=
  .next (event (fun s =>
    if ownSource s source then s
    else examineSample source f (s.forward ⟨broadcast, source, kindSample, samplePayload f⟩)) s)

/-- LEVEL (R140): a good LEVEL frame of length 2 addressed to the DT-8. -/
def execLevel (source : Byte) (value : BitVec 16) (s : State) : Host.Outcome State Fault Refusal :=
  .next (event (fun s => if ownSource s source then s else levelReported source.toNat value.toNat s) s)

/-- POSREP (R92, R93): a good POSREP frame of length 1 addressed to the DT-8. -/
def execPosrep (source : Byte) (position : Byte) (s : State) : Host.Outcome State Fault Refusal :=
  .next (event (fun s => if ownSource s source then s else posrepReceived source.toNat position.toNat s) s)

/-- MANAGE (R160): a good MANAGE frame of length 3..48 addressed to the DT-8. -/
def execManage (source : Byte) (tag : BitVec 16) (code : Byte) (args : List Byte) (s : State) :
    Host.Outcome State Fault Refusal :=
  .next (event (fun s => if ownSource s source then s else manageReceived ⟨source, tag, code, args⟩ s) s)

/-- TRANSMIT_END (R156), whatever is left of the frame being sent (log 3). -/
def execTransmitEnd (s : State) : Host.Outcome State Fault Refusal := .next (s.putLoop s.loop.frameSent)

end Sys2Proof.Machine
end

