-- ==== Sys2Proof/Machine/Entries.lean ====
section
/-! DEFINITION. The bytes a READ returns for each entry of each table: a presence byte, then the fields in the order of
the owning rule (R164; 08, Field encoding; log 13). -/

namespace Sys2Proof.Machine

/-! ## Named values, each by its place in the list that names it -/

def StreamState.code : StreamState → Nat
  | .idle => 0 | .waiting => 1 | .feeding => 2 | .draining => 3 | .held => 4

def AbortCause.code : AbortCause → Nat
  | .meterRestart => 0 | .demand => 1 | .meterFault => 2 | .gap => 3 | .gross => 4 | .leftIdle => 5
  | .unlockExpired => 6 | .unlockReplaced => 7 | .enableLow => 8 | .restart => 9

def LotState.code : LotState → Nat
  | .planned => 0 | .opened => 1 | .discharging => 2 | .closing => 3

def CloseKind.code : CloseKind → Nat
  | .requested => 0 | .plannedClose => 1

def kindNameCode : KindName → Nat
  | .conveyor => 0 | .diverter => 1 | .gate => 2

def SegState.code : SegState → Nat
  | .free => 0 | .setting => 1 | .ready => 2 | .carrying => 3 | .flushing => 4 | .closing => 5 | .fault => 6

def ResKind.code : ResKind → Nat
  | .active => 0 | .staged => 1

def BinState.code : BinState → Nat
  | .outOfService => 0 | .available => 1 | .filling => 2 | .full => 3

def GaugeState.code : GaugeState → Nat
  | .ok => 0 | .lost => 1

/-- An optional number of `k` bytes. -/
def optNat (k : Nat) (o : Option Nat) : List Byte := optBytes (bytesOf k) o

/-- An optional index, 1 byte. -/
def optIdx {n : Nat} (o : Option (Fin n)) : List Byte := optBytes (fun i => bytesOf 1 i.val) o

/-- An entry that is always present. -/
def present (l : List Byte) : List Byte := 1 :: l

/-! ## Entries -/

/-- STREAM-CONFIG, by R26. -/
def streamConfigEntry (s : State) (i : StreamIdx) : List Byte :=
  let c := (s.stream i).config
  present (optNat 1 c.meter ++ optNat 1 c.unloader ++ optIdx c.intake ++ bytesOf 2 c.gapLimit ++
    bytesOf 2 c.silenceTime ++ bytesOf 2 c.unrouted)

/-- A calibration record, by R70. -/
def calibrationBytes (k : Calibration) : List Byte :=
  bytesOf 4 k.span ++ bytesOf 2 k.zero ++ trimBytes k.trim ++ bytesOf 4 k.ceiling ++ bytesOf 4 k.jump

/-- A capture report, by R82. -/
def reportBytes (r : CaptureReport) : List Byte :=
  (match r.outcome with
    | .done _ => bytesOf 1 0 ++ optNat 1 none
    | .aborted c => bytesOf 1 1 ++ optNat 1 (some c.code)) ++
  bytesOf 4 r.window ++ bytesOf 8 r.counts ++ bytesOf 4 r.time ++
  (match r.outcome with
    | .done z => optNat 2 (some z)
    | .aborted _ => optNat 2 none) ++
  bytesOf 2 r.serial

/-- The unlock in force for stream `i`, as a CALIBRATION entry shows it (R77). DESIGN CHOICE (log 40): "whether" is a
presence byte. -/
def unlockBytes (s : State) (i : StreamIdx) : List Byte :=
  match s.mgmt.unlock with
  | some u => if u.stream = i then 1 :: (bytesOf 4 u.left ++ flagByte u.held) else [0]
  | none => [0]

/-- The zero capture running on stream `i`, as a CALIBRATION entry shows it (R77). DESIGN CHOICE (log 40): "whether" is a
presence byte. -/
def captureBytes (s : State) (i : StreamIdx) : List Byte :=
  match s.tally.capture with
  | some c => if c.stream = i then 1 :: (bytesOf 4 c.window ++ bytesOf 8 c.counts ++ bytesOf 4 c.time) else [0]
  | none => [0]

/-- CALIBRATION, by R77. -/
def calibrationEntry (s : State) (i : StreamIdx) : List Byte :=
  let t := s.tallyOf i
  present (optBytes calibrationBytes t.cal ++ bytesOf 2 t.serial ++ bytesOf 8 t.residue ++ flagByte s.mgmt.calen ++
    unlockBytes s i ++ captureBytes s i ++ optBytes reportBytes t.report)

/-- A lookup result: no lot, or a lot number (R47). DESIGN CHOICE (log 40): "no lot" is a presence byte 0. -/
def lookupBytes : Lookup → List Byte
  | .noLot => [0]
  | .lot n => 1 :: bytesOf 2 n

/-- A suspect record, by R45. -/
def suspectBytes (r : Suspect) : List Byte :=
  bytesOf 8 r.counts ++ bytesOf 1 r.firstSeq ++ bytesOf 1 r.lastSeq ++ bytesOf 8 r.time ++ optNat 2 r.lot ++
  optIdx r.bin

/-- The active route with its bin (R47). DESIGN CHOICE (log 40): one presence byte stands before both. -/
def activeBytes (s : State) (i : StreamIdx) : List Byte :=
  match (s.stream i).activeRoute, s.activeBin i with
  | some r, some b => 1 :: (bytesOf 1 r.val ++ bytesOf 1 b.val)
  | _, _ => [0]

/-- STREAM-STATUS, by R47. -/
def streamStatusEntry (s : State) (i : StreamIdx) : List Byte :=
  let x := s.stream i
  present (bytesOf 1 x.state.code ++ holdSetByte x.reasons ++ optNat 2 x.noBinLot ++ segSetBytes x.faulted ++
    optNat 2 x.currentLot ++ activeBytes s i ++
    optBytes (fun l => bytesOf 1 l.seq ++ bytesOf 2 l.time ++ bytesOf 4 l.count ++ bytesOf 8 l.rate) x.last ++
    flagByte x.fedAtLast ++ optBytes lookupBytes x.lastLookup ++ flagByte x.demand ++ flagByte x.silence.isSome ++
    bytesOf 8 x.unassigned ++ bytesOf 8 x.sinceRead ++ flagByte x.certifiedSinceRead ++
    optBytes suspectBytes x.suspect)

/-- HOLD-MAP, by R1. -/
def holdMapEntry (s : State) (i : HoldIdx) : List Byte :=
  optBytes (fun e => bytesOf 1 e.hold ++ bytesOf 1 e.layer ++ bytesOf 2 e.lot) (s.lot.holdMap.get i)

/-- A bin and the grams delivered to it. -/
def deliveryBytes (d : Delivery) : List Byte := bytesOf 1 d.bin.val ++ bytesOf 8 d.grams

/-- The current bin, as its position and the bin there (R8). DESIGN CHOICE (log 40): one presence byte stands before both,
not one before each. -/
def currentBytes (l : Lot) : List Byte :=
  match l.current, l.currentBin with
  | some p, some b => 1 :: (bytesOf 1 p ++ bytesOf 1 b.val)
  | _, _ => [0]

/-- A lot record, by R4. -/
def lotBytes (l : Lot) : List Byte :=
  bytesOf 2 l.number ++ bytesOf 1 l.cls ++ optNat 4 l.declared ++ bytesOf 1 l.tolerance ++ bytesOf 1 l.state.code ++
  optNat 1 (l.closeKind.map CloseKind.code) ++ listBytes deliveryBytes l.bins ++ currentBytes l ++
  bytesOf 8 l.certified ++ bytesOf 8 l.uncertified ++ streamSetByte l.attached ++ streamSetByte l.used ++
  flagByte l.overrunReported ++ flagByte l.outturnFullReported

/-- LOT, by R8. -/
def lotEntry (s : State) (i : LotIdx) : List Byte := optBytes lotBytes (s.lotAt i)

/-- An out-turn record, by R22. -/
def outturnBytes (r : Outturn) : List Byte :=
  bytesOf 2 r.number ++ bytesOf 1 r.cls ++ optNat 4 r.declared ++ bytesOf 8 r.certified ++ bytesOf 8 r.uncertified ++
  streamSetByte r.used ++ listBytes deliveryBytes r.deliveries ++ bytesOf 1 r.closeKind.code

/-- OUTTURN, by R25: list positions as indices. -/
def outturnEntry (s : State) (i : Fin 16) : List Byte := optBytes outturnBytes s.lot.outturn[i.val]?

/-- The request naming route `r`: its stream and whether it is granted (R108). DESIGN CHOICE (log 40): one presence byte
stands before both. -/
def requestRefBytes (s : State) (r : RouteIdx) : List Byte :=
  match s.alloc.queue.find? fun q => decide (q.route = some r) with
  | some q => 1 :: (bytesOf 1 q.stream.val ++ flagByte q.granted)
  | none => [0]

/-- ROUTE, by R106 and R108. -/
def routeEntry (s : State) (i : RouteIdx) : List Byte :=
  optBytes (fun r : Route =>
    bytesOf 1 r.stream.val ++ bytesOf 1 r.bin.val ++
    listBytes (fun st : Step => bytesOf 1 st.segment.val ++ optNat 1 st.position) r.steps ++
    requestRefBytes s i ++
    optIdx (s.streams.findIdx? fun x => decide (x.activeRoute = some i)) ++
    optIdx (s.alloc.staging.findIdx? fun x => match x with | some y => decide (y.route = some i) | none => false))
    (s.routeAt i)

/-- SEGMENT-CONFIG, by R84. -/
def segConfigEntry (s : State) (g : SegIdx) : List Byte :=
  let x := s.seg g
  optBytes (fun c : SegConfig =>
    bytesOf 1 (kindNameCode c.kind.name) ++ optNat 1 c.kind.actuator ++ optIdx c.kind.bin ++ bytesOf 2 c.flushTime ++
    bytesOf 1 c.travelLimit ++ bytesOf 1 c.shareLimit ++ flagByte c.kind.flowSwitch) x.config

/-- SEGMENT-STATUS, by R105. DESIGN CHOICE (log 40): a disarmed timer is a presence byte 0. -/
def segStatusEntry (s : State) (g : SegIdx) : List Byte :=
  let x := s.seg g
  present (bytesOf 1 x.state.code ++ flagByte x.underFlow ++ optNat 2 x.owner ++ optNat 1 (x.kind.map ResKind.code) ++
    streamSetByte x.holders ++ streamSetByte x.feeders ++ bytesOf 1 x.feedingCount ++ optNat 1 x.commanded ++
    optNat 1 x.reported ++ flagByte x.unflushed ++ optNat 4 x.flush ++ optNat 2 x.travel)

/-- BIN-CONFIG, by R129. -/
def binConfigEntry (s : State) (b : BinIdx) : List Byte :=
  optBytes (fun c : BinConfig =>
    bytesOf 4 c.capacity ++ optNat 1 c.gauge ++ bytesOf 2 c.high ++ bytesOf 2 c.preStage ++ bytesOf 2 c.resume ++
    bytesOf 2 c.empty) (s.bin b).config

/-- BIN-STATUS, by R145. DESIGN CHOICE (log 40): a class that is EMPTY and a disarmed poll timer are presence bytes 0. -/
def binStatusEntry (s : State) (b : BinIdx) : List Byte :=
  let x := s.bin b
  present (bytesOf 1 x.state.code ++ optNat 1 x.cls ++ bytesOf 8 x.fill ++ optNat 2 x.estimate ++ optNat 2 x.gaugeLevel ++
    optNat 2 x.judged ++ bytesOf 1 x.gaugeState.code ++ bytesOf 1 x.misses ++ flagByte x.pollOutstanding ++
    optNat 2 x.pollTimer ++ flagByte x.nearFull ++ optIdx x.inletGate ++ flagByte x.gateCarrying ++
    flagByte x.gateReserved)

/-- EVENTS, by R175. -/
def eventEntry (s : State) (k : Fin 18) : List Byte :=
  let r := s.ind.events.get k
  present (flagByte r.flag ++ bytesOf 1 r.count ++ bytesOf 1 r.source ++ flagByte r.mask)

/-- The stream whose counters are entry `k` of COUNTERS; entry 8 is the loop's (R175). -/
def counterStream (k : Fin 9) : Option StreamIdx := idx? 8 k.val

/-- COUNTERS, by R175. -/
def counterEntry (s : State) (k : Fin 9) : List Byte :=
  match counterStream k with
  | some i => present (bytesOf 1 (s.stream i).missed ++ bytesOf 1 (s.stream i).discarded ++
      bytesOf 1 (s.tallyOf i).overCount ++ bytesOf 1 (s.tallyOf i).jumpCount)
  | none => present (bytesOf 1 s.loop.crc ++ bytesOf 1 s.loop.fwdDrop ++ bytesOf 1 s.loop.ownDrop ++
      bytesOf 1 s.loop.mgmtDrop)

end Sys2Proof.Machine
end

