-- ==== Sys2Proof/Machine/Reads.lean ====
section
/-! DEFINITION. The READ requests (R164, R165) and their read effects (R47, R175). -/

namespace Sys2Proof.Machine

/-- The `count` indices from `start` on, wrapping after the table's last (R165). -/
def readIndices {n : Nat} (start : Fin n) (count : Nat) : List (Fin n) :=
  (List.range count).map fun k =>
    ⟨(start.val + k) % n, Nat.mod_lt _ (Nat.lt_of_le_of_lt (Nat.zero_le _) start.isLt)⟩

/-- The data of a REPLY to READ: table code, start index, count, entries (R164). -/
def readData {n : Nat} (table : Nat) (entry : State → Fin n → List Byte) (a : ReadArgs) (idxs : List (Fin n))
    (s : State) : List Byte :=
  bytesOf 1 table ++ bytesOf 1 a.start ++ bytesOf 1 a.count ++ idxs.flatMap (entry s)

/-- Whether the own-frame queue has room for the parts these data make (R165). -/
def hasRoom (q : Requester) (data : List Byte) (s : State) : Bool :=
  decide ((replyParts q .done data).length ≤ ownRoom - s.loop.own.length)

/-- What a READ answers: a refusal, or data and the read effect (R165). -/
inductive ReadAnswer where
  | refuse (code : ReplyCode)
  | done (data : List Byte) (effect : State → State)

/-- R165's tests on arguments that pass R163, then the entries and the read effect. -/
def readOwner {n : Nat} (q : Requester) (table : Nat) (entry : State → Fin n → List Byte)
    (effect : Fin n → State → State) (a : ReadArgs) (s : State) : ReadAnswer :=
  match idx? n a.start with
  | none => .refuse .badIndex
  | some i =>
    if 1 ≤ a.count ∧ a.count ≤ 8 then
      let idxs := readIndices i a.count
      let data := readData table entry a idxs s
      if hasRoom q data s then .done data fun s => idxs.foldl (fun s k => effect k s) s
      else .refuse .full
    else .refuse .badRecord

/-- A READ's answer, from R163's test 1 on. -/
def readAnswer {n : Nat} (q : Requester) (table : Nat) (entry : State → Fin n → List Byte)
    (effect : Fin n → State → State) (a : Option ReadArgs) (s : State) : ReadAnswer :=
  if s.restarting then .refuse .restarting
  else match a with
    | none => .refuse .badRecord
    | some x => readOwner q table entry effect x s

/-- A READ's processing: entries taken, read effects made, REPLY placed (R165). -/
def readRequest {n : Nat} (c : Instr) (q : Requester) (table : Nat) (entry : State → Fin n → List Byte)
    (effect : Fin n → State → State) (a : Option ReadArgs) (s : State) : Host.Outcome State Fault Refusal :=
  .next (finishRequest c
    (match readAnswer q table entry effect a s with
      | .refuse code => s.placeReply q code []
      | .done data eff => (eff s).placeReply q .done data))

/-- A read that changes nothing. -/
def noEffect {n : Nat} (_ : Fin n) (s : State) : State := s

/-- READ of STREAM-STATUS sets the certified-since-read flag, zeroes the since-read part and clears the
unrouted-reported flag of a stream it returns (R47). -/
def statusRead (i : StreamIdx) (s : State) : State :=
  s.modStream i fun x => { x with certifiedSinceRead := true, sinceRead := 0, unroutedReported := false }

/-- READ of COUNTERS sets to 0 the four counters of an entry it returns (R175). -/
def countersRead (k : Fin 9) (s : State) : State :=
  match counterStream k with
  | some i => (s.modStream i fun x => { x with missed := 0, discarded := 0 }).modTally i
      fun t => { t with overCount := 0, jumpCount := 0 }
  | none => s.putLoop { s.loop with crc := 0, fwdDrop := 0, ownDrop := 0, mgmtDrop := 0 }

/-! ## The thirteen rows -/

/-- READ_STREAM_CONFIG (R47). -/
def execReadStreamConfig (q : Requester) (a : Option ReadArgs) (s : State) : Host.Outcome State Fault Refusal :=
  readRequest (.readStreamConfig q a) q 0 streamConfigEntry noEffect a s

/-- READ_CALIBRATION (R77). -/
def execReadCalibration (q : Requester) (a : Option ReadArgs) (s : State) : Host.Outcome State Fault Refusal :=
  readRequest (.readCalibration q a) q 1 calibrationEntry noEffect a s

/-- READ_STREAM_STATUS (R47). -/
def execReadStreamStatus (q : Requester) (a : Option ReadArgs) (s : State) : Host.Outcome State Fault Refusal :=
  readRequest (.readStreamStatus q a) q 2 streamStatusEntry statusRead a s

/-- READ_HOLD_MAP (R1). -/
def execReadHoldMap (q : Requester) (a : Option ReadArgs) (s : State) : Host.Outcome State Fault Refusal :=
  readRequest (.readHoldMap q a) q 3 holdMapEntry noEffect a s

/-- READ_LOT (R8). -/
def execReadLot (q : Requester) (a : Option ReadArgs) (s : State) : Host.Outcome State Fault Refusal :=
  readRequest (.readLot q a) q 4 lotEntry noEffect a s

/-- READ_OUTTURN (R25). -/
def execReadOutturn (q : Requester) (a : Option ReadArgs) (s : State) : Host.Outcome State Fault Refusal :=
  readRequest (.readOutturn q a) q 5 outturnEntry noEffect a s

/-- READ_ROUTE (R108). -/
def execReadRoute (q : Requester) (a : Option ReadArgs) (s : State) : Host.Outcome State Fault Refusal :=
  readRequest (.readRoute q a) q 6 routeEntry noEffect a s

/-- READ_SEGMENT_CONFIG (R105). -/
def execReadSegmentConfig (q : Requester) (a : Option ReadArgs) (s : State) : Host.Outcome State Fault Refusal :=
  readRequest (.readSegmentConfig q a) q 7 segConfigEntry noEffect a s

/-- READ_SEGMENT_STATUS (R105). -/
def execReadSegmentStatus (q : Requester) (a : Option ReadArgs) (s : State) : Host.Outcome State Fault Refusal :=
  readRequest (.readSegmentStatus q a) q 8 segStatusEntry noEffect a s

/-- READ_BIN_CONFIG (R145). -/
def execReadBinConfig (q : Requester) (a : Option ReadArgs) (s : State) : Host.Outcome State Fault Refusal :=
  readRequest (.readBinConfig q a) q 9 binConfigEntry noEffect a s

/-- READ_BIN_STATUS (R145). -/
def execReadBinStatus (q : Requester) (a : Option ReadArgs) (s : State) : Host.Outcome State Fault Refusal :=
  readRequest (.readBinStatus q a) q 10 binStatusEntry noEffect a s

/-- READ_EVENTS (R175). -/
def execReadEvents (q : Requester) (a : Option ReadArgs) (s : State) : Host.Outcome State Fault Refusal :=
  readRequest (.readEvents q a) q 11 eventEntry noEffect a s

/-- READ_COUNTERS (R175). -/
def execReadCounters (q : Requester) (a : Option ReadArgs) (s : State) : Host.Outcome State Fault Refusal :=
  readRequest (.readCounters q a) q 12 counterEntry countersRead a s

end Sys2Proof.Machine
end

