-- ==== Sys2Proof/Machine/Timers.lean ====
section
/-! DEFINITION. The expiries of the DT-8's timers, the end of the restart interval and of a lamp's phase. Each acts
when its timer is armed, whatever is left of it (log 3). -/

namespace Sys2Proof.Machine

/-! ## The end of the restart interval (R169) -/

/-- One stream (R49): a FEEDING one sends a PERMIT with feed 0; then its dynamic state is put at rest, its
configuration and accounts kept. -/
def restartStream (i : StreamIdx) (s : State) : State :=
  refreshLamps ((if (s.stream i).state = .feeding then sendPermit i false s else s).modStream i fun x =>
    { x with
      state := .idle, reasons := HoldSet.none, fromIdle := false, noBinLot := none, faulted := IdxSet.empty 64
      currentLot := none, activeRoute := none, last := none, fedAtLast := false, lastLookup := none, demand := false
      silence := none, permit := none, drain := none, suspect := none })

/-- One lot (R15). -/
def restartLot (i : LotIdx) (s : State) : State :=
  match s.lotAt i with
  | none => s
  | some l =>
    match l.state with
    | .discharging => s.putLot i (some { l with state := .opened, attached := IdxSet.empty 8 })
    | .closing => completionTest i (s.putLot i (some { l with attached := IdxSet.empty 8 }))
    | .planned | .opened => s

/-- The allocator (R128): queue emptied, staging records deleted without release. -/
def restartAllocator (s : State) : State :=
  { s with alloc := { s.alloc with queue := [], staging := Tbl.fill 8 none } }

/-- One bin (R144): polls begin again at once, misses 0. -/
def restartBin (b : BinIdx) (s : State) : State :=
  let x := s.bin b
  s.putBin b { x with pollOutstanding := false, replyTimer := none, misses := 0, pollTimer := x.period.map fun _ => 0 }

/-- Every block takes the end of the interval (R169; the order is log 30's). -/
def restartBlocks (s : State) : State :=
  let s1 := s.putMgmt { s.mgmt with restartLeft := none }
  let s2 := endUnlock .restart s1
  let s3 := forEach restartStream s2
  let s4 := forEach restartLot s3
  let s5 := restartAllocator s4
  let s6 := forEach restartBin s5
  let s7 := forEach restartSeg s6
  raise .restarted 0 s7

/-! ## The rows -/

/-- RESTART_INTERVAL_END (R169). -/
def execRestartIntervalEnd (s : State) : Host.Outcome State Fault Refusal :=
  .next (if s.restarting then event restartBlocks s else s)

/-- SILENCE_TIMER_EXPIRY (R41). -/
def execSilenceTimerExpiry (i : StreamIdx) (s : State) : Host.Outcome State Fault Refusal :=
  .next (event (silenceExpired i) s)

/-- PERMIT_TIMER_EXPIRY (R42). -/
def execPermitTimerExpiry (i : StreamIdx) (s : State) : Host.Outcome State Fault Refusal :=
  .next (event (permitExpired i) s)

/-- DRAIN_TIMER_EXPIRY (R38). -/
def execDrainTimerExpiry (i : StreamIdx) (s : State) : Host.Outcome State Fault Refusal :=
  .next (event (drainExpired i) s)

/-- UNLOCK_EXPIRY (R74). -/
def execUnlockExpiry (s : State) : Host.Outcome State Fault Refusal :=
  .next (event (endUnlock .unlockExpired) s)

/-- TRAVEL_TIMER_EXPIRY (R94). -/
def execTravelTimerExpiry (g : SegIdx) (s : State) : Host.Outcome State Fault Refusal :=
  .next (event (travelExpired g) s)

/-- FLUSH_TIMER_EXPIRY (R99). -/
def execFlushTimerExpiry (g : SegIdx) (s : State) : Host.Outcome State Fault Refusal :=
  .next (event (flushExpired g) s)

/-- POLL_TIMER_EXPIRY (R137, R138). -/
def execPollTimerExpiry (b : BinIdx) (s : State) : Host.Outcome State Fault Refusal :=
  .next (event (pollDue b) s)

/-- REPLY_TIMER_EXPIRY (R139). -/
def execReplyTimerExpiry (b : BinIdx) (s : State) : Host.Outcome State Fault Refusal :=
  .next (event (replyMissed b) s)

/-- LAMP_PHASE_END (R177). -/
def execLampPhaseEnd (n : LampIdx) (s : State) : Host.Outcome State Fault Refusal :=
  .next (s.putInd { s.ind with lamps := s.ind.lamps.set n ((s.ind.lamps.get n).nextPhase n) })

end Sys2Proof.Machine
end

