-- ==== Sys2Proof/Machine/Writes.lean ====
section
/-! DEFINITION. The WRITE requests (R166), each tested and taken by the owner of its table. -/

namespace Sys2Proof.Machine

/-- A value the write leaves out takes its default; one it gives is clamped. -/
def setting (default lo hi : Nat) (o : Option Nat) : Nat :=
  match o with
  | some n => clamp lo hi n
  | none => default

/-- Whether an optional identity lies at or above `n`. -/
def outOf (n : Nat) : Option Nat → Bool
  | some k => decide (n ≤ k)
  | none => false

/-! ## STREAM-CONFIG (R26, R27) -/

/-- Test 3 of R27. -/
def streamConfigBad (r : StreamConfigWrite) : Bool :=
  outOf 63 r.meter || outOf 63 r.unloader || outOf 64 r.intake ||
  (r.meter.isSome && (r.unloader.isNone || r.intake.isNone))

/-- The configuration stored: settings clamped, those left out at their reset values (R27). -/
def streamConfigStored (r : StreamConfigWrite) : StreamConfig :=
  { meter := r.meter, unloader := r.unloader, intake := r.intake.bind (idx? 64)
    gapLimit := setting 1000 300 4000 r.gapLimit
    silenceTime := setting 1500 250 8000 r.silenceTime
    unrouted := setting 50 0 65535 r.unrouted }

/-- Whether another stream than `i` meets `p`. -/
def otherStream (s : State) (i : StreamIdx) (p : Stream → Bool) : Bool :=
  (List.finRange 8).any fun j => decide (j ≠ i) && p (s.stream j)

/-- Test 4 of R27. -/
def streamDuplicate (s : State) (i : StreamIdx) (c : StreamConfig) : Bool :=
  (c.meter.isSome && otherStream s i fun x => decide (x.config.meter = c.meter)) ||
  (c.intake.isSome && otherStream s i fun x => x.config.meter.isSome && decide (x.config.intake = c.intake))

/-- Whether the route table holds a route of stream `i`. -/
def hasRoute (s : State) (i : StreamIdx) : Bool :=
  s.alloc.routes.items.any fun e => match e with | some r => decide (r.stream = i) | none => false

/-- Test 5 of R27. -/
def streamInUse (s : State) (i : StreamIdx) (c : StreamConfig) : Bool :=
  (decide ((s.stream i).config.intake ≠ c.intake) && hasRoute s i) ||
  (decide ((s.stream i).config.meter ≠ c.meter) && s.capturing i)

/-- The configuration is stored; with another meter address the stream becomes unprimed and forgets lookup and
demand (R27). -/
def storeStreamConfig (i : StreamIdx) (c : StreamConfig) (s : State) : State :=
  s.modStream i fun x =>
    if x.config.meter = c.meter then { x with config := c }
    else { x with config := c, last := none, lastLookup := none, demand := false }

/-- R27's tests and effect. -/
def ownStreamConfig (a : WriteArgs StreamConfigWrite) (s : State) : Answer :=
  indexed 8 a.index fun i =>
    if (s.stream i).state ≠ .idle then .refuse .badState
    else
      match a.entry with
      | none =>
        if streamInUse s i StreamConfig.reset then .refuse .inUse else .done (storeStreamConfig i StreamConfig.reset)
      | some r =>
        if streamConfigBad r then .refuse .badRecord
        else if streamDuplicate s i (streamConfigStored r) then .refuse .duplicate
        else if streamInUse s i (streamConfigStored r) then .refuse .inUse
        else .done (storeStreamConfig i (streamConfigStored r))

/-! ## CALIBRATION (R70, R75, R76) -/

/-- The record stored, when all five values are given, each clamped to its range (R75). -/
def calibrationStored (r : CalibrationWrite) : Option Calibration :=
  match r.span, r.zero, r.trim, r.ceiling, r.jump with
  | some k, some z, some t, some c, some j =>
    some { span := clamp 1 1000000 k, zero := min 65535 z, trim := clampInt (-2000) 2000 t
           ceiling := clamp 1 16000000 c, jump := min 16000000 j }
  | _, _, _, _, _ => none

/-- The record is replaced, the serial advances, and the unlock ends by use (R75, R76). -/
def storeCalibration (i : StreamIdx) (k : Option Calibration) (s : State) : State :=
  (s.modTally i fun t => { t with cal := k, serial := nextSerial t.serial }).putUnlock none

/-- R75's and R76's tests and effect. -/
def ownCalibration (a : WriteArgs CalibrationWrite) (s : State) : Answer :=
  indexed 8 a.index fun i =>
    if !s.mgmt.calen then .refuse .locked
    else if !s.unlockedFor i then .refuse .locked
    else if s.capturing i then .refuse .inUse
    else
      match a.entry with
      | none => .done (storeCalibration i none)
      | some r =>
        match calibrationStored r with
        | some k => .done (storeCalibration i (some k))
        | none => .refuse .badRecord

/-! ## HOLD-MAP (R1, R2) -/

/-- The entry stored, when its three fields are given and in range (R2). -/
def holdStored (r : HoldWrite) : Option HoldEntry :=
  match r.hold, r.layer, r.lot with
  | some h, some l, some n => if h ≤ 31 ∧ l ≤ 3 ∧ 1 ≤ n ∧ n ≤ 65535 then some ⟨h, l, n⟩ else none
  | _, _, _ => none

/-- Whether a present entry at another index holds the key (R2). -/
def holdDuplicate (s : State) (i : HoldIdx) (e : HoldEntry) : Bool :=
  (List.finRange 48).any fun j => decide (j ≠ i) &&
    (match s.lot.holdMap.get j with | some x => x.hold == e.hold && x.layer == e.layer | none => false)

/-- R2's tests and effect. -/
def ownHoldMap (a : WriteArgs HoldWrite) (s : State) : Answer :=
  indexed 48 a.index fun i =>
    match a.entry with
    | none => .done fun s => s.putHold i none
    | some r =>
      match holdStored r with
      | none => .refuse .badRecord
      | some e => if holdDuplicate s i e then .refuse .duplicate else .done fun s => s.putHold i (some e)

/-! ## LOT (R5, R6, R7) -/

/-- A LOT record that has passed R5's test 2, its settings clamped (R5). -/
structure LotRecord where
  number : Nat
  cls : Nat
  declared : Option Nat
  tolerance : Nat
  bins : List BinIdx
deriving DecidableEq, Repr

/-- The indices of a list, when every one lies below `n`. -/
def allIdx (n : Nat) : List Nat → Option (List (Fin n))
  | [] => some []
  | k :: l => match idx? n k, allIdx n l with
    | some i, some is => some (i :: is)
    | _, _ => none

/-- Whether no member appears twice. -/
def noRepeat {α : Type} [DecidableEq α] (l : List α) : Bool := decide l.Nodup

/-- R5's test 2, and the clamping of test 4. -/
def lotStored (r : LotWrite) : Option LotRecord :=
  match r.number, r.cls, r.bins with
  | some n, some c, some l =>
    match allIdx 40 l with
    | some bs =>
      if n ≠ 0 ∧ c ≤ 15 ∧ 1 ≤ bs.length ∧ bs.length ≤ 8 ∧ noRepeat bs then
        some { number := n, cls := c, declared := r.declared.map (clamp 1 4000000000)
               tolerance := setting 5 0 100 r.tolerance, bins := bs }
      else none
    | none => none
  | _, _, _ => none

/-- Whether lot number `n` stands in another lot table entry or in the out-turn list (R5). -/
def lotDuplicate (s : State) (i : LotIdx) (n : Nat) : Bool :=
  ((List.finRange 32).any fun j => decide (j ≠ i) &&
    (match s.lotAt j with | some l => l.number == n | none => false)) || s.inOutturn n

/-- Whether lot number `n` is the owner lot of a segment not FREE, or the lot of a suspect record (R5). -/
def lotNamed (s : State) (n : Nat) : Bool :=
  s.segs.items.any (fun x => decide (x.state ≠ .free) && decide (x.owner = some n)) ||
  s.streams.items.any (fun x => match x.suspect with | some r => decide (r.lot = some n) | none => false)

/-- The PLANNED record a write loads (R5). -/
def LotRecord.planned (r : LotRecord) : Lot :=
  { number := r.number, cls := r.cls, declared := r.declared, tolerance := r.tolerance, state := .planned
    closeKind := none, bins := r.bins.map fun b => ⟨b, 0⟩, current := none, certified := 0, uncertified := 0
    attached := IdxSet.empty 8, used := IdxSet.empty 8, overrunReported := false, outturnFullReported := false }

/-- Whether a write to a running lot keeps number, class and the held bins in order (R6). -/
def LotRecord.continues (r : LotRecord) (l : Lot) : Bool :=
  r.number == l.number && r.cls == l.cls && decide (r.bins.take l.bins.length = l.bins.map (·.bin))

/-- A running lot with a write taken into it: declaration and tolerance replaced, further bins appended (R6). -/
def LotRecord.extended (r : LotRecord) (l : Lot) : Lot :=
  { l with declared := r.declared, tolerance := r.tolerance
           bins := l.bins ++ (r.bins.drop l.bins.length).map fun b => ⟨b, 0⟩ }

/-- A write taken in OPEN or DISCHARGING: the overrun check when the declaration changes, and the choice of an absent
current bin (R6, R17, R21). DESIGN CHOICE (log 34): R6 orders neither first; the check is made before the choice. -/
def extendLot (i : LotIdx) (r : LotRecord) (s : State) : State :=
  match s.lotAt i with
  | none => s
  | some l =>
    let s1 := s.putLot i (some (r.extended l))
    let s2 := if l.declared = r.declared ∧ l.tolerance = r.tolerance then s1 else overrunAfterWrite i s1
    chooseCurrent i s2

/-- R5's, R6's and R7's tests and effects. -/
def ownLot (a : WriteArgs LotWrite) (s : State) : Answer :=
  indexed 32 a.index fun i =>
    match a.entry with
    | none =>
      match s.lotAt i with
      | none => .done id
      | some l =>
        match l.state with
        | .planned => .done fun s => s.putLot i none
        | .opened | .discharging => .refuse .inUse
        | .closing => .refuse .badState
    | some w =>
      match lotStored w with
      | none => .refuse .badRecord
      | some r =>
        match s.lotAt i with
        | none =>
          if lotDuplicate s i r.number then .refuse .duplicate
          else if lotNamed s r.number then .refuse .inUse
          else .done fun s => s.putLot i (some r.planned)
        | some l =>
          match l.state with
          | .planned =>
            if r.number ≠ l.number ∧ lotDuplicate s i r.number then .refuse .duplicate
            else if r.number ≠ l.number ∧ lotNamed s r.number then .refuse .inUse
            else .done fun s => s.putLot i (some r.planned)
          | .opened | .discharging => if r.continues l then .done (extendLot i r) else .refuse .inUse
          | .closing => .refuse .badState

/-! ## ROUTE (R106, R107) -/

/-- A step stored, when its segment is configured and its position fits the kind; `final` says it is the last step
(R107). DESIGN CHOICE (log 38): a GATE step that gives no position at all is refused like one at another position
than 1. -/
def stepStored (s : State) (bin : BinIdx) (final : Bool) (w : StepWrite) : Option Step :=
  match w.segment.bind (idx? 64) with
  | none => none
  | some g =>
    match (s.seg g).segKind with
    | none => none
    | some .conveyor => if final then none else some ⟨g, none⟩
    | some (.diverter _ _) =>
      match w.position with
      | some p => if final then none else if p ≤ 3 then some ⟨g, some p⟩ else none
      | none => none
    | some (.gate _ b) => if final && decide (b = bin) && decide (w.position = some 1) then some ⟨g, some 1⟩ else none

/-- The steps stored, in order (R107). -/
def storedSteps (s : State) (bin : BinIdx) : List StepWrite → Option (List Step)
  | [] => some []
  | w :: l =>
    match stepStored s bin l.isEmpty w, storedSteps s bin l with
    | some st, some sts => some (st :: sts)
    | _, _ => none

/-- The route stored, when the record passes test 4 of R107. -/
def routeStored (s : State) (w : RouteWrite) : Option Route :=
  match w.stream.bind (idx? 8), w.bin.bind (idx? 40), w.steps with
  | some i, some b, some l =>
    match storedSteps s b l with
    | some sts =>
      if 2 ≤ sts.length ∧ sts.length ≤ 10 ∧ noRepeat (sts.map (·.segment)) ∧
          (s.stream i).config.intake.isSome ∧ sts.head?.map (·.segment) = (s.stream i).config.intake then
        some ⟨i, b, sts⟩
      else none
    | none => none
  | _, _, _ => none

/-- Whether a present entry at another index holds the stream and bin (R107). -/
def routeDuplicate (s : State) (k : RouteIdx) (r : Route) : Bool :=
  (List.finRange 96).any fun j => decide (j ≠ k) &&
    (match s.routeAt j with | some x => decide (x.stream = r.stream) && decide (x.bin = r.bin) | none => false)

/-- R107's tests and effect. -/
def ownRoute (a : WriteArgs RouteWrite) (s : State) : Answer :=
  indexed 96 a.index fun k =>
    if s.referenced k then .refuse .inUse
    else
      match a.entry with
      | none => .done fun s => (s.putRoute k none).occasion
      | some w =>
        match routeStored s w with
        | none => .refuse .badRecord
        | some r =>
          if routeDuplicate s k r then .refuse .duplicate else .done fun s => (s.putRoute k (some r)).occasion

/-! ## SEGMENT-CONFIG (R84, R85) -/

/-- The kind stored, with the fields it requires (R85, test 3). -/
def segKindStored (w : SegConfigWrite) : Option SegKind :=
  match w.kind with
  | none => none
  | some .conveyor => some .conveyor
  | some .diverter =>
    match w.actuator with
    | some a => if a ≤ 62 then some (.diverter a (w.flowSwitch.getD false)) else none
    | none => none
  | some .gate =>
    match w.actuator, w.bin.bind (idx? 40) with
    | some a, some b => if a ≤ 62 then some (.gate a b) else none
    | _, _ => none

/-- The configuration stored, when the record passes test 3 of R85, its settings clamped. -/
def segConfigStored (w : SegConfigWrite) : Option SegConfig :=
  match segKindStored w, w.flushTime with
  | some k, some f =>
    some { kind := k, flushTime := min 6000 f, travelLimit := setting 12 1 60 w.travelLimit
           shareLimit := setting 1 1 4 w.shareLimit }
  | _, _ => none

/-- Whether another segment than `g` meets `p`. -/
def otherSegment (s : State) (g : SegIdx) (p : Segment → Bool) : Bool :=
  (List.finRange 64).any fun j => decide (j ≠ g) && p (s.seg j)

/-- Test 4 of R85. -/
def segmentDuplicate (s : State) (g : SegIdx) (k : SegKind) : Bool :=
  (k.actuator.isSome && otherSegment s g fun x => decide (x.actuator = k.actuator)) ||
  (k.bin.isSome && otherSegment s g fun x => decide (x.gateBin = k.bin))

/-- Whether the route table holds a route with a step on `g`. -/
def onRoute (s : State) (g : SegIdx) : Bool :=
  s.alloc.routes.items.any fun e => match e with | some r => r.steps.any (·.segment == g) | none => false

/-- Whether a record changes the kind of a segment, or the bin of a gate (R85, test 5). -/
def changesKind (x : Segment) (k : SegKind) : Bool :=
  decide (x.segKind.map SegKind.name ≠ some k.name) || decide (x.gateBin ≠ k.bin)

/-- A bin's inlet gate is set or cleared; both marks are clear (R132). -/
def setInlet (b : Option BinIdx) (g : Option SegIdx) (s : State) : State :=
  match b with
  | some b => s.putBin b { s.bin b with inletGate := g, gateCarrying := false, gateReserved := false }
  | none => s

/-- A FREE segment's configuration is replaced: another actuator forgets the reported position, the bins concerned
learn of their inlet gate, and the segment is reported FREE (R85). A CONVEYOR has no commanded position (log 19). -/
def storeSegConfig (g : SegIdx) (c : Option SegConfig) (s : State) : State :=
  let x := s.seg g
  let y := { x with config := c }
  let y1 := if x.actuator = y.actuator then y else { y with reported := none }
  let y2 := match y.actuator with | some _ => y1 | none => { y1 with commanded := none }
  let s1 := s.putSeg g y2
  let s2 := if x.gateBin = y.gateBin then s1 else setInlet y.gateBin (some g) (setInlet x.gateBin none s1)
  s2.occasion

/-- R85's tests and effect. -/
def ownSegConfig (a : WriteArgs SegConfigWrite) (s : State) : Answer :=
  indexed 64 a.index fun g =>
    if (s.seg g).state ≠ .free then .refuse .inUse
    else
      match a.entry with
      | none => if onRoute s g then .refuse .inUse else .done (storeSegConfig g none)
      | some w =>
        match segConfigStored w with
        | none => .refuse .badRecord
        | some c =>
          if segmentDuplicate s g c.kind then .refuse .duplicate
          else if onRoute s g && changesKind (s.seg g) c.kind then .refuse .inUse
          else .done (storeSegConfig g (some c))

/-! ## BIN-CONFIG (R129, R130) -/

/-- The configuration stored: capacity clamped, then the thresholds in R130's order. -/
def binConfigClamped (w : BinConfigWrite) (capacity : Nat) : BinConfig :=
  let high := setting 950 3 1000 w.high
  let preStage := clamp 2 high (w.preStage.getD 880)
  let resume := clamp 1 (preStage - 1) (w.resume.getD 800)
  let empty := clamp 0 (resume - 1) (w.empty.getD 5)
  { capacity := clamp 1 20000000 capacity, gauge := w.gauge, high := high, preStage := preStage, resume := resume
    empty := empty }

/-- The configuration stored, when the record passes test 2 of R130. -/
def binConfigStored (w : BinConfigWrite) : Option BinConfig :=
  match w.capacity with
  | some c => if outOf 63 w.gauge then none else some (binConfigClamped w c)
  | none => none

/-- Whether another configured bin has the gauge station (R130). -/
def gaugeDuplicate (s : State) (b : BinIdx) (gauge : Option Nat) : Bool :=
  gauge.isSome && (List.finRange 40).any fun j => decide (j ≠ b) &&
    (match (s.bin j).config with | some c => decide (c.gauge = gauge) | none => false)

/-- The gauge station of a bin. -/
def Bin.gauge (x : Bin) : Option Nat := x.config.bind (·.gauge)

/-- A taken record: stored, the gauge reset when its station changes, the bin judged, the change reported (R130). -/
def storeBinConfig (b : BinIdx) (c : BinConfig) (s : State) : State :=
  let x := s.bin b
  let y := { x with config := some c }
  (judgeBin b (s.putBin b (if x.gauge = c.gauge then y else y.resetGauge))).emit (.bin b)

/-- The absent marker taken (R130). -/
def clearBinConfig (b : BinIdx) (s : State) : State :=
  (s.putBin b { (s.bin b).resetGauge with
    config := none, state := .outOfService, pollTimer := none, nearFull := false, estimate := none
    judged := none }).emit (.bin b)

/-- Whether the bin's inlet gate is in any state but FREE (R130, test 4). -/
def gateNotFree (s : State) (b : BinIdx) : Bool :=
  match (s.bin b).inletGate with
  | some g => decide ((s.seg g).state ≠ .free)
  | none => false

/-- R130's tests and effect. -/
def ownBinConfig (a : WriteArgs BinConfigWrite) (s : State) : Answer :=
  indexed 40 a.index fun b =>
    match a.entry with
    | none => if gateNotFree s b then .refuse .inUse else .done (clearBinConfig b)
    | some w =>
      match binConfigStored w with
      | none => .refuse .badRecord
      | some c => if gaugeDuplicate s b c.gauge then .refuse .duplicate else .done (storeBinConfig b c)

/-! ## The eight rows -/

/-- WRITE_READ_ONLY_TABLE (R163, R166). -/
def execWriteReadOnlyTable (q : Requester) (table : ReadOnlyTable) (s : State) : Host.Outcome State Fault Refusal :=
  request (.writeReadOnlyTable q table) q (some ()) (fun _ _ => .refuse .badTable) s

/-- WRITE_STREAM_CONFIG (R27). -/
def execWriteStreamConfig (q : Requester) (a : Option (WriteArgs StreamConfigWrite)) (s : State) :
    Host.Outcome State Fault Refusal :=
  request (.writeStreamConfig q a) q a ownStreamConfig s

/-- WRITE_CALIBRATION (R75, R76). -/
def execWriteCalibration (q : Requester) (a : Option (WriteArgs CalibrationWrite)) (s : State) :
    Host.Outcome State Fault Refusal :=
  request (.writeCalibration q a) q a ownCalibration s

/-- WRITE_HOLD_MAP (R2). -/
def execWriteHoldMap (q : Requester) (a : Option (WriteArgs HoldWrite)) (s : State) :
    Host.Outcome State Fault Refusal :=
  request (.writeHoldMap q a) q a ownHoldMap s

/-- WRITE_LOT (R5, R6, R7). -/
def execWriteLot (q : Requester) (a : Option (WriteArgs LotWrite)) (s : State) : Host.Outcome State Fault Refusal :=
  request (.writeLot q a) q a ownLot s

/-- WRITE_ROUTE (R107). -/
def execWriteRoute (q : Requester) (a : Option (WriteArgs RouteWrite)) (s : State) :
    Host.Outcome State Fault Refusal :=
  request (.writeRoute q a) q a ownRoute s

/-- WRITE_SEGMENT_CONFIG (R85). -/
def execWriteSegmentConfig (q : Requester) (a : Option (WriteArgs SegConfigWrite)) (s : State) :
    Host.Outcome State Fault Refusal :=
  request (.writeSegmentConfig q a) q a ownSegConfig s

/-- WRITE_BIN_CONFIG (R130). -/
def execWriteBinConfig (q : Requester) (a : Option (WriteArgs BinConfigWrite)) (s : State) :
    Host.Outcome State Fault Refusal :=
  request (.writeBinConfig q a) q a ownBinConfig s

end Sys2Proof.Machine
end

