-- ==== Sys2Proof/Machine/Dispatch.lean ====
section
/-! DEFINITION. Each command's meaning, one arm per row of spec/opcode_table.json. -/

namespace Sys2Proof.Machine

def exec (i : Instr) (s : State) : Host.Outcome State Fault Refusal :=
  match i with
  | .reset straps calen => Sys2Proof.Machine.execReset straps calen s
  | .calenFall => Sys2Proof.Machine.execCalenFall s
  | .calenRise => Sys2Proof.Machine.execCalenRise s
  | .frameReceived chars => Sys2Proof.Machine.execFrameReceived chars s
  | .sample source fields => Sys2Proof.Machine.execSample source fields s
  | .level source value => Sys2Proof.Machine.execLevel source value s
  | .posrep source position => Sys2Proof.Machine.execPosrep source position s
  | .manage source tag code args => Sys2Proof.Machine.execManage source tag code args s
  | .unknownRequest q bad => Sys2Proof.Machine.execUnknownRequest q bad s
  | .writeReadOnlyTable q table => Sys2Proof.Machine.execWriteReadOnlyTable q table s
  | .readStreamConfig q a => Sys2Proof.Machine.execReadStreamConfig q a s
  | .readCalibration q a => Sys2Proof.Machine.execReadCalibration q a s
  | .readStreamStatus q a => Sys2Proof.Machine.execReadStreamStatus q a s
  | .readHoldMap q a => Sys2Proof.Machine.execReadHoldMap q a s
  | .readLot q a => Sys2Proof.Machine.execReadLot q a s
  | .readOutturn q a => Sys2Proof.Machine.execReadOutturn q a s
  | .readRoute q a => Sys2Proof.Machine.execReadRoute q a s
  | .readSegmentConfig q a => Sys2Proof.Machine.execReadSegmentConfig q a s
  | .readSegmentStatus q a => Sys2Proof.Machine.execReadSegmentStatus q a s
  | .readBinConfig q a => Sys2Proof.Machine.execReadBinConfig q a s
  | .readBinStatus q a => Sys2Proof.Machine.execReadBinStatus q a s
  | .readEvents q a => Sys2Proof.Machine.execReadEvents q a s
  | .readCounters q a => Sys2Proof.Machine.execReadCounters q a s
  | .writeStreamConfig q a => Sys2Proof.Machine.execWriteStreamConfig q a s
  | .writeCalibration q a => Sys2Proof.Machine.execWriteCalibration q a s
  | .writeHoldMap q a => Sys2Proof.Machine.execWriteHoldMap q a s
  | .writeLot q a => Sys2Proof.Machine.execWriteLot q a s
  | .writeRoute q a => Sys2Proof.Machine.execWriteRoute q a s
  | .writeSegmentConfig q a => Sys2Proof.Machine.execWriteSegmentConfig q a s
  | .writeBinConfig q a => Sys2Proof.Machine.execWriteBinConfig q a s
  | .openLot q lot => Sys2Proof.Machine.execOpenLot q lot s
  | .closeLot q lot => Sys2Proof.Machine.execCloseLot q lot s
  | .holdStream q stream => Sys2Proof.Machine.execHoldStream q stream s
  | .releaseStream q stream => Sys2Proof.Machine.execReleaseStream q stream s
  | .acceptSuspect q stream => Sys2Proof.Machine.execAcceptSuspect q stream s
  | .discardSuspect q stream => Sys2Proof.Machine.execDiscardSuspect q stream s
  | .binEmptied q bin => Sys2Proof.Machine.execBinEmptied q bin s
  | .binServiceOut q bin => Sys2Proof.Machine.execBinServiceOut q bin s
  | .binServiceIn q bin => Sys2Proof.Machine.execBinServiceIn q bin s
  | .clearSegmentFault q segment => Sys2Proof.Machine.execClearSegmentFault q segment s
  | .unlockCalibration q a => Sys2Proof.Machine.execUnlockCalibration q a s
  | .captureZero q a => Sys2Proof.Machine.execCaptureZero q a s
  | .releaseOutturn q lot => Sys2Proof.Machine.execReleaseOutturn q lot s
  | .clearEvents q pattern => Sys2Proof.Machine.execClearEvents q pattern s
  | .setMask q pattern => Sys2Proof.Machine.execSetMask q pattern s
  | .setLampMode q a => Sys2Proof.Machine.execSetLampMode q a s
  | .setLampForce q a => Sys2Proof.Machine.execSetLampForce q a s
  | .restart q a => Sys2Proof.Machine.execRestart q a s
  | .restartIntervalEnd => Sys2Proof.Machine.execRestartIntervalEnd s
  | .silenceTimerExpiry stream => Sys2Proof.Machine.execSilenceTimerExpiry stream s
  | .permitTimerExpiry stream => Sys2Proof.Machine.execPermitTimerExpiry stream s
  | .drainTimerExpiry stream => Sys2Proof.Machine.execDrainTimerExpiry stream s
  | .unlockExpiry => Sys2Proof.Machine.execUnlockExpiry s
  | .travelTimerExpiry segment => Sys2Proof.Machine.execTravelTimerExpiry segment s
  | .flushTimerExpiry segment => Sys2Proof.Machine.execFlushTimerExpiry segment s
  | .pollTimerExpiry bin => Sys2Proof.Machine.execPollTimerExpiry bin s
  | .replyTimerExpiry bin => Sys2Proof.Machine.execReplyTimerExpiry bin s
  | .transmitEnd => Sys2Proof.Machine.execTransmitEnd s
  | .lampPhaseEnd lamp => Sys2Proof.Machine.execLampPhaseEnd lamp s

end Sys2Proof.Machine
end

