-- ==== Sys2Proof/Machine/Idle.lean ====
section
/-! DEFINITION. What the DT-8 does of its own accord when no command waits (DESIGN CHOICE, log 4): reports left over,
the request in hand, the end of the frame being sent, timers that have run out, and else one character time. -/

namespace Sys2Proof.Machine

/-! ## Timers that have run out, as the commands they are -/

/-- The first due timer of a stream. -/
def dueOfStream (s : State) (i : StreamIdx) : Option Instr :=
  let x := s.stream i
  if timerDue x.silence then some (.silenceTimerExpiry i)
  else if timerDue x.permit then some (.permitTimerExpiry i)
  else if timerDue x.drain then some (.drainTimerExpiry i)
  else none

/-- The first due timer of a segment. -/
def dueOfSegment (s : State) (g : SegIdx) : Option Instr :=
  if timerDue (s.seg g).travel then some (.travelTimerExpiry g)
  else if timerDue (s.seg g).flush then some (.flushTimerExpiry g)
  else none

/-- The first due timer of a bin. -/
def dueOfBin (s : State) (b : BinIdx) : Option Instr :=
  if timerDue (s.bin b).pollTimer then some (.pollTimerExpiry b)
  else if timerDue (s.bin b).replyTimer then some (.replyTimerExpiry b)
  else none

/-- A lamp's phase that has run out. -/
def dueOfLamp (s : State) (n : LampIdx) : Option Instr :=
  match (s.ind.lamps.get n).shown with
  | some sh => if sh.pattern.phases ≠ 0 ∧ sh.left = 0 then some (.lampPhaseEnd n) else none
  | none => none

/-- The unlock's time run out (R74). -/
def dueOfUnlock (s : State) : Option Instr :=
  match s.mgmt.unlock with
  | some u => if u.left = 0 then some .unlockExpiry else none
  | none => none

/-- The first of a list of candidates. -/
def firstOf (l : List (Option Instr)) : Option Instr := l.findSome? id

/-- The command that time has brought about, if any, in a fixed order (log 4). -/
def nextDue (s : State) : Option Instr :=
  firstOf [
    (if s.loop.tx.isSome ∧ s.loop.txLeft = 0 then some .transmitEnd else none),
    (if timerDue s.mgmt.restartLeft then some .restartIntervalEnd else none),
    dueOfUnlock s,
    (List.finRange 8).findSome? (dueOfStream s),
    (List.finRange 64).findSome? (dueOfSegment s),
    (List.finRange 40).findSome? (dueOfBin s),
    (List.finRange 8).findSome? (dueOfLamp s)]

/-! ## Time -/

/-- A stream one millisecond later. -/
def Stream.tick (x : Stream) : Stream :=
  { x with silence := tickTimer x.silence, permit := tickTimer x.permit, drain := tickTimer x.drain }

/-- A segment one millisecond later. -/
def Segment.tick (x : Segment) : Segment := { x with flush := tickTimer x.flush, travel := tickTimer x.travel }

/-- A bin one millisecond later. -/
def Bin.tick (x : Bin) : Bin := { x with pollTimer := tickTimer x.pollTimer, replyTimer := tickTimer x.replyTimer }

/-- The Management unit one millisecond later. -/
def Management.tick (m : Management) : Management :=
  { m with restartLeft := tickTimer m.restartLeft, unlock := m.unlock.map fun u => { u with left := u.left - 1 } }

/-- A lamp one millisecond later. -/
def Lamp.tick (l : Lamp) : Lamp := { l with shown := l.shown.map fun sh => { sh with left := sh.left - 1 } }

/-- One millisecond of the DT-8's timebase (00_scope.md, Times). -/
def tickMs (s : State) : State :=
  { s with
    charTime := 0, streams := s.streams.map Stream.tick, segs := s.segs.map Segment.tick
    bins := s.bins.map Bin.tick, mgmt := s.mgmt.tick, ind := { s.ind with lamps := s.ind.lamps.map Lamp.tick } }

/-- One character time of 10 µs on the transmit pair (R146); a hundred are a millisecond. -/
def tickChar (s : State) : State :=
  let s1 := s.putLoop { s.loop with txLeft := s.loop.txLeft - 1 }
  if s1.charTime < 99 then { s1 with charTime := s1.charTime + 1 } else tickMs s1

/-- What the block does on an empty queue. -/
def idle (s : State) : Host.Outcome State Fault Refusal :=
  if s.agenda.isEmpty then
    match s.mgmt.inHand with
    | some f => exec (decodeRequest f) s
    | none =>
      match nextDue s with
      | some c => exec c s
      | none => .next (tickChar s)
  else .next (refreshLamps (settle reportBound s))

end Sys2Proof.Machine
end

