-- ==== Sys2Proof/Safety.lean ====
section
/-! DEFINITION. The laws a run of the DT-8 keeps, in the terms the statements use. -/

namespace Sys2Proof.Machine

/-- Nothing is left to be taken: the state between commands (log 5). -/
def State.quiet (s : State) : Bool := s.agenda.isEmpty && !s.passDue

/-! ## What the reports between blocks leave alone -/

/-- The fields of a stream that no report between blocks changes: its configuration, what its samples said and what
they were booked to. -/
structure StreamAccount where
  config : StreamConfig
  last : Option LastSample
  fedAtLast : Bool
  lastLookup : Option Lookup
  demand : Bool
  unassigned : Nat
  sinceRead : Nat
  unroutedReported : Bool
  certifiedSinceRead : Bool
  suspect : Option Suspect
  missed : Nat
  discarded : Nat
deriving DecidableEq, Repr

/-- A stream's account. -/
def Stream.account (x : Stream) : StreamAccount :=
  ⟨x.config, x.last, x.fedAtLast, x.lastLookup, x.demand, x.unassigned, x.sinceRead, x.unroutedReported,
    x.certifiedSinceRead, x.suspect, x.missed, x.discarded⟩

/-- The fields of the Tally engine's record of a stream that no report changes: all but the capture report. -/
structure TallyAccount where
  cal : Option Calibration
  serial : Nat
  residue : Nat
  overCount : Nat
  jumpCount : Nat
deriving DecidableEq, Repr

/-- A stream's tally account. -/
def Tally.account (t : Tally) : TallyAccount := ⟨t.cal, t.serial, t.residue, t.overCount, t.jumpCount⟩

/-- The fields of a lot that no report changes, with whether it is CLOSING and whether it is PLANNED. -/
structure LotAccount where
  number : Nat
  cls : Nat
  declared : Option Nat
  tolerance : Nat
  closing : Bool
  planned : Bool
  closeKind : Option CloseKind
  bins : List Delivery
  certified : Nat
  uncertified : Nat
  overrunReported : Bool
deriving DecidableEq, Repr

/-- A lot's account. -/
def Lot.account (l : Lot) : LotAccount :=
  ⟨l.number, l.cls, l.declared, l.tolerance, decide (l.state = .closing), decide (l.state = .planned), l.closeKind,
    l.bins, l.certified, l.uncertified, l.overrunReported⟩

/-- The fields of a segment that no report changes. -/
structure SegmentAccount where
  config : Option SegConfig
  reported : Option Nat
deriving DecidableEq, Repr

/-- A segment's account. -/
def Segment.account (x : Segment) : SegmentAccount := ⟨x.config, x.reported⟩

/-- The fields of a bin that no report changes. -/
structure BinAccount where
  config : Option BinConfig
  fill : Nat
  gaugeLevel : Option Nat
  gaugeState : GaugeState
  misses : Nat
  inletGate : Option SegIdx
deriving DecidableEq, Repr

/-- A bin's account. -/
def Bin.account (x : Bin) : BinAccount :=
  ⟨x.config, x.fill, x.gaugeLevel, x.gaugeState, x.misses, x.inletGate⟩

/-- A lot table entry that held `old` and now holds `new`, with the out-turn list as it now is: the same account, or a
CLOSING lot that has completed into the list. -/
def lotKept (outturn : List Outturn) : Option Lot → Option Lot → Prop
  | none, new => new = none
  | some l, some l' => l'.account = l.account
  | some l, none => l.state = .closing ∧ ∃ r ∈ outturn, r.number = l.number ∧ r.certified = l.certified ∧
      r.uncertified = l.uncertified ∧ r.deliveries = l.bins

/-- `t` differs from `s` by no more than the taking of reports and evaluation passes can change. -/
structure KeptByReports (s t : State) : Prop where
  pending : t.pending = s.pending
  charTime : t.charTime = s.charTime
  address : t.loop.address = s.loop.address
  crc : t.loop.crc = s.loop.crc
  fwdDrop : t.loop.fwdDrop = s.loop.fwdDrop
  mgmtDrop : t.loop.mgmtDrop = s.loop.mgmtDrop
  streams : ∀ i, (t.stream i).account = (s.stream i).account
  tallies : ∀ i, (t.tallyOf i).account = (s.tallyOf i).account
  holdMap : t.lot.holdMap = s.lot.holdMap
  outturn : s.lot.outturn <+: t.lot.outturn
  lots : ∀ k, lotKept t.lot.outturn (s.lotAt k) (t.lotAt k)
  segs : ∀ g, (t.seg g).account = (s.seg g).account
  routes : t.alloc.routes = s.alloc.routes
  bins : ∀ b, (t.bin b).account = (s.bin b).account
  input : t.mgmt.input = s.mgmt.input
  inHand : t.mgmt.inHand = s.mgmt.inHand
  lastSource : t.mgmt.lastSource = s.mgmt.lastSource
  restartLeft : t.mgmt.restartLeft = s.mgmt.restartLeft
  calen : t.mgmt.calen = s.mgmt.calen
  unlock : t.mgmt.unlock = s.mgmt.unlock ∨ t.mgmt.unlock = none
  masks : ∀ k, (t.ind.events.get k).mask = (s.ind.events.get k).mask
  modes : ∀ n, (t.ind.lamps.get n).mode = (s.ind.lamps.get n).mode
  assigned : ∀ n, (t.ind.lamps.get n).assigned = (s.ind.lamps.get n).assigned
  forceOff : t.ind.forceOff = s.ind.forceOff
  forceOn : t.ind.forceOn = s.ind.forceOn

/-! ## Requests, as the statements name them -/

/-- The outcome of request `c` of `q` answered DONE, its effect having made `u`: the reports of `u` are taken, the REPLY
is placed, and the Management unit is free (log 7). -/
abbrev answeredDone (c : Instr) (q : Requester) (u : State) : Host.Outcome State Fault Refusal :=
  .next (replied c q .done (settled u))

/-- The outcome of request `c` of `q` refused with `o`: the REPLY is placed, and nothing else is done (R163). -/
abbrev answeredWith (c : Instr) (q : Requester) (o : ReplyCode) (s : State) : Host.Outcome State Fault Refusal :=
  .next (replied c q o s)

/-- The outcome of a command that is no request, its effect having made `u`: the reports of `u` are taken. -/
abbrev happens (u : State) : Host.Outcome State Fault Refusal := .next (settled u)

/-- The requester of a request row. -/
def requester? : Instr → Option Requester
  | .unknownRequest q _ | .writeReadOnlyTable q _ | .readStreamConfig q _ | .readCalibration q _
  | .readStreamStatus q _ | .readHoldMap q _ | .readLot q _ | .readOutturn q _ | .readRoute q _
  | .readSegmentConfig q _ | .readSegmentStatus q _ | .readBinConfig q _ | .readBinStatus q _ | .readEvents q _
  | .readCounters q _ | .writeStreamConfig q _ | .writeCalibration q _ | .writeHoldMap q _ | .writeLot q _
  | .writeRoute q _ | .writeSegmentConfig q _ | .writeBinConfig q _ | .openLot q _ | .closeLot q _ | .holdStream q _
  | .releaseStream q _ | .acceptSuspect q _ | .discardSuspect q _ | .binEmptied q _ | .binServiceOut q _
  | .binServiceIn q _ | .clearSegmentFault q _ | .unlockCalibration q _ | .captureZero q _ | .releaseOutturn q _
  | .clearEvents q _ | .setMask q _ | .setLampMode q _ | .setLampForce q _ | .restart q _ => some q
  | .reset _ _ | .calenFall | .calenRise | .frameReceived _ | .sample _ _ | .level _ _ | .posrep _ _ | .manage _ _ _ _
  | .restartIntervalEnd | .silenceTimerExpiry _ | .permitTimerExpiry _ | .drainTimerExpiry _ | .unlockExpiry
  | .travelTimerExpiry _ | .flushTimerExpiry _ | .pollTimerExpiry _ | .replyTimerExpiry _ | .transmitEnd
  | .lampPhaseEnd _ => none

/-- A request whose argument bytes fail tests 4 and 5 of R163. -/
def malformed : Instr → Bool
  | .readStreamConfig _ a | .readCalibration _ a | .readStreamStatus _ a | .readHoldMap _ a | .readLot _ a
  | .readOutturn _ a | .readRoute _ a | .readSegmentConfig _ a | .readSegmentStatus _ a | .readBinConfig _ a
  | .readBinStatus _ a | .readEvents _ a | .readCounters _ a => a.isNone
  | .writeStreamConfig _ a => a.isNone
  | .writeCalibration _ a => a.isNone
  | .writeHoldMap _ a => a.isNone
  | .writeLot _ a => a.isNone
  | .writeRoute _ a => a.isNone
  | .writeSegmentConfig _ a => a.isNone
  | .writeBinConfig _ a => a.isNone
  | .openLot _ n | .closeLot _ n | .holdStream _ n | .releaseStream _ n | .acceptSuspect _ n | .discardSuspect _ n
  | .binEmptied _ n | .binServiceOut _ n | .binServiceIn _ n | .clearSegmentFault _ n | .releaseOutturn _ n => n.isNone
  | .unlockCalibration _ a => a.isNone
  | .captureZero _ a => a.isNone
  | .clearEvents _ p | .setMask _ p => p.isNone
  | .setLampMode _ a => a.isNone
  | .setLampForce _ a => a.isNone
  | .restart _ a => a.isNone
  | .unknownRequest _ _ | .writeReadOnlyTable _ _ => false
  | .reset _ _ | .calenFall | .calenRise | .frameReceived _ | .sample _ _ | .level _ _ | .posrep _ _ | .manage _ _ _ _
  | .restartIntervalEnd | .silenceTimerExpiry _ | .permitTimerExpiry _ | .drainTimerExpiry _ | .unlockExpiry
  | .travelTimerExpiry _ | .flushTimerExpiry _ | .pollTimerExpiry _ | .replyTimerExpiry _ | .transmitEnd
  | .lampPhaseEnd _ => false

/-- What the argument bytes of a WRITE of `table` spell, when `spells r bytes` says which bytes a record `r` has: index and
record after a presence byte 1, the absent marker after 0; anything else fails, bytes left over and missing among it (R163,
test 4; R166). -/
def WriteSpelled {α : Type} (table : Byte) (row : Requester → Option (WriteArgs α) → Instr)
    (spells : α → List Byte → Prop) : Prop :=
  ∀ (src : Byte) (tag : BitVec 16) (index : Byte) (bytes : List Byte),
    let written (l : List Byte) := decodeRequest ⟨src, tag, 2, table :: l⟩
    let taken (a : Option (WriteArgs α)) := row ⟨src, tag⟩ a
    written [index, 0] = taken (some ⟨index.toNat, none⟩) ∧
    (∀ r, spells r bytes → written (index :: 1 :: bytes) = taken (some ⟨index.toNat, some r⟩)) ∧
    ((∀ r, ¬spells r bytes) → written (index :: 1 :: bytes) = taken none) ∧
    (bytes ≠ [] → written (index :: 0 :: bytes) = taken none) ∧
    (∀ presence : Byte, 1 < presence.toNat → written (index :: presence :: bytes) = taken none) ∧
    written [] = taken none ∧ written [index] = taken none

/-- A READ with well-formed arguments: requester, arguments, table code, number of entries (09, Reading the
tables). -/
def readRow? : Instr → Option (Requester × ReadArgs × Nat × Nat)
  | .readStreamConfig q (some a) => some (q, a, 0, 8)
  | .readCalibration q (some a) => some (q, a, 1, 8)
  | .readStreamStatus q (some a) => some (q, a, 2, 8)
  | .readHoldMap q (some a) => some (q, a, 3, 48)
  | .readLot q (some a) => some (q, a, 4, 32)
  | .readOutturn q (some a) => some (q, a, 5, 16)
  | .readRoute q (some a) => some (q, a, 6, 96)
  | .readSegmentConfig q (some a) => some (q, a, 7, 64)
  | .readSegmentStatus q (some a) => some (q, a, 8, 64)
  | .readBinConfig q (some a) => some (q, a, 9, 40)
  | .readBinStatus q (some a) => some (q, a, 10, 40)
  | .readEvents q (some a) => some (q, a, 11, 18)
  | .readCounters q (some a) => some (q, a, 12, 9)
  | _ => none

/-- The bytes entry `k` of table `code` is returned with, `k` below the table's size. -/
def tableEntry (code : Nat) (s : State) (k : Nat) : List Byte :=
  match code with
  | 0 => ((idx? 8 k).map (streamConfigEntry s)).getD []
  | 1 => ((idx? 8 k).map (calibrationEntry s)).getD []
  | 2 => ((idx? 8 k).map (streamStatusEntry s)).getD []
  | 3 => ((idx? 48 k).map (holdMapEntry s)).getD []
  | 4 => ((idx? 32 k).map (lotEntry s)).getD []
  | 5 => ((idx? 16 k).map (outturnEntry s)).getD []
  | 6 => ((idx? 96 k).map (routeEntry s)).getD []
  | 7 => ((idx? 64 k).map (segConfigEntry s)).getD []
  | 8 => ((idx? 64 k).map (segStatusEntry s)).getD []
  | 9 => ((idx? 40 k).map (binConfigEntry s)).getD []
  | 10 => ((idx? 40 k).map (binStatusEntry s)).getD []
  | 11 => ((idx? 18 k).map (eventEntry s)).getD []
  | _ => ((idx? 9 k).map (counterEntry s)).getD []

/-- The data of a REPLY to a READ of table `code` with `size` entries (R164, R165): the code, start and count, then the
entries from `start` on, wrapping after the last. -/
def readReply (code size : Nat) (a : ReadArgs) (s : State) : List Byte :=
  bytesOf 1 code ++ bytesOf 1 a.start ++ bytesOf 1 a.count ++
    (List.range a.count).flatMap fun k => tableEntry code s ((a.start + k) % size)

/-- The read effect of entry `k` of table `code` (R165): STREAM-STATUS and COUNTERS have one, no other table. -/
def readEffect (code : Nat) (k : Nat) (s : State) : State :=
  match code with
  | 2 => match idx? 8 k with
    | some i => s.modStream i fun x => { x with certifiedSinceRead := true, sinceRead := 0, unroutedReported := false }
    | none => s
  | 12 => match idx? 8 k with
    | some i => (s.modStream i fun x => { x with missed := 0, discarded := 0 }).modTally i
        fun t => { t with overCount := 0, jumpCount := 0 }
    | none => s.putLoop { s.loop with crc := 0, fwdDrop := 0, ownDrop := 0, mgmtDrop := 0 }
  | _ => s

/-! ## Laws -/

/-- The Loop interface's bounds (R152, R153, R154, R157, R149), and an idle transmitter has nothing waiting (R156). -/
structure LoopLaw (s : State) : Prop where
  forward : s.loop.forward.length ≤ forwardRoom
  own : s.loop.own.length ≤ ownRoom
  permits : (s.loop.own.filterMap OwnFrame.permitStream).Nodup
  crc : s.loop.crc ≤ 255
  fwdDrop : s.loop.fwdDrop ≤ 255
  ownDrop : s.loop.ownDrop ≤ 255
  mgmtDrop : s.loop.mgmtDrop ≤ 255
  address : s.loop.address ≤ 62
  idle : s.loop.tx = none → s.loop.forward = [] ∧ s.loop.own = []

/-- The bounds of the accounts and counters (R59, R70, R50, R44, R31, R20, R133, R131, R22, R159, R171), and a free
Management unit has no frame waiting (R161). -/
structure AccountLaw (s : State) : Prop where
  residue : ∀ i, (s.tallyOf i).residue < 102400000000000
  serial : ∀ i, (s.tallyOf i).serial ≤ 65535
  overCount : ∀ i, (s.tallyOf i).overCount ≤ 255
  jumpCount : ∀ i, (s.tallyOf i).jumpCount ≤ 255
  unassigned : ∀ i, (s.stream i).unassigned ≤ maxGrams
  sinceRead : ∀ i, (s.stream i).sinceRead ≤ maxGrams
  missed : ∀ i, (s.stream i).missed ≤ 255
  discarded : ∀ i, (s.stream i).discarded ≤ 255
  certified : ∀ k l, s.lotAt k = some l → l.certified ≤ maxGrams
  uncertified : ∀ k l, s.lotAt k = some l → l.uncertified ≤ maxGrams
  delivered : ∀ k l, s.lotAt k = some l → ∀ d ∈ l.bins, d.grams ≤ maxGrams
  outturn : s.lot.outturn.length ≤ outturnRoom
  fill : ∀ b, (s.bin b).fill ≤ maxGrams
  misses : ∀ b, (s.bin b).misses ≤ 3
  input : s.mgmt.input.length ≤ inputRoom
  inHand : s.mgmt.inHand = none → s.mgmt.input = []
  events : ∀ k, (s.ind.events.get k).count ≤ 255

/-- The alert output is active exactly while a kind has both flag and mask bit set (R174). -/
def AlertLaw (s : State) : Prop :=
  s.ind.alert = true ↔ ∃ k, (s.ind.events.get k).flag = true ∧ (s.ind.events.get k).mask = true

/-- The order of every configured bin's thresholds (R129). -/
def BinLaw (s : State) : Prop :=
  ∀ b c, (s.bin b).config = some c →
    c.empty < c.resume ∧ c.resume < c.preStage ∧ c.preStage ≤ c.high ∧ c.high ≤ 1000

/-- A segment's record in the terms of R84, R86 and R87: a configuration whenever it is not FREE, its settings in their
ranges; an owner lot exactly when it is not FREE; no reservation kind, holders, feeders or under-flow mark in FREE,
FLUSHING, CLOSING and FAULT; a kind in SETTING, READY and CARRYING; a feeder exactly in CARRYING and in
SETTING-under-flow, and then the kind ACTIVE; the feeders among the holders; neither more than the share limit; one holder
of a STAGED segment; the under-flow mark in SETTING alone. -/
structure Segment.Law (x : Segment) : Prop where
  configured : x.state ≠ .free → x.config ≠ none
  settings : ∀ c, x.config = some c →
    c.flushTime ≤ 6000 ∧ 1 ≤ c.travelLimit ∧ c.travelLimit ≤ 60 ∧ 1 ≤ c.shareLimit ∧ c.shareLimit ≤ 4
  owner : x.state = .free ↔ x.owner = none
  atRest : x.state = .free ∨ x.state = .flushing ∨ x.state = .closing ∨ x.state = .fault →
    x.kind = none ∧ x.holders.isEmpty = true
  kind : x.state = .setting ∨ x.state = .ready ∨ x.state = .carrying → x.kind ≠ none
  feeders : x.feeders.isEmpty = false ↔ x.state = .carrying ∨ (x.state = .setting ∧ x.underFlow = true)
  active : x.feeders.isEmpty = false → x.kind = some .active
  subset : ∀ i, x.feeders.has i = true → x.holders.has i = true
  share : x.holders.card ≤ x.shareLimit ∧ x.feedingCount ≤ x.shareLimit
  staged : x.kind = some .staged → x.holders.card = 1
  underFlow : x.underFlow = true → x.state = .setting

/-- Every segment meets `Segment.Law`. -/
def SegmentLaw (s : State) : Prop := ∀ g, (s.seg g).Law

/-- A bin knows the GATE segment that feeds it and that gate's state, and is FILLING exactly as R131 says of it: a
FILLING bin's gate is CARRYING, an AVAILABLE bin's gate is not (R84, R131, R132). -/
structure GateLaw (s : State) : Prop where
  gate : ∀ g b, (s.seg g).gateBin = some b → (s.bin b).inletGate = some g
  inlet : ∀ b g, (s.bin b).inletGate = some g → (s.seg g).gateBin = some b ∧
    ((s.bin b).gateCarrying = true ↔ (s.seg g).state = .carrying) ∧
    ((s.bin b).gateReserved = true ↔ (s.seg g).state ≠ .free)
  none : ∀ b, (s.bin b).inletGate = none → (s.bin b).gateCarrying = false ∧ (s.bin b).gateReserved = false
  filling : ∀ b, (s.bin b).state = .filling → (s.bin b).gateCarrying = true
  available : ∀ b, (s.bin b).state = .available → (s.bin b).gateCarrying = false

/-- A stream's record in the terms of R28: what is present, armed or set in each state. -/
structure Stream.Law (x : Stream) : Prop where
  held : x.state = .held → x.reasons ≠ HoldSet.none
  free : x.state = .idle ∨ x.state = .waiting ∨ x.state = .feeding → x.reasons = HoldSet.none
  lot : x.currentLot.isSome = true ↔ x.state = .waiting ∨ x.state = .feeding ∨ x.state = .draining
  route : x.activeRoute.isSome = true ↔ x.state = .feeding ∨ x.state = .draining
  mark : x.fromIdle = true → x.state = .held
  noBin : x.noBinLot.isSome = x.reasons.noBin
  faulted : x.reasons.segment = !x.faulted.isEmpty
  meter : x.suspect.isSome = x.reasons.meter
  silence : x.silence.isSome = true → x.state = .waiting ∨ x.state = .feeding ∨ x.state = .draining
  permit : x.permit.isSome = true ↔ x.state = .feeding
  drain : x.drain.isSome = true → x.state = .draining

/-- Every stream meets `Stream.Law`. -/
def StreamLaw (s : State) : Prop := ∀ i, (s.stream i).Law

/-- Requests, unlock and zero capture (R71, R72, R74, R78, R109, R111): one request a stream, of a WAITING stream;
an unlock only with CALEN high and for an IDLE stream; a capture exactly with the unlock it holds. -/
structure ControlLaw (s : State) : Prop where
  once : (s.alloc.queue.map (·.stream)).Nodup
  waiting : ∀ q ∈ s.alloc.queue, (s.stream q.stream).state = .waiting
  unlock : ∀ u, s.mgmt.unlock = some u → s.mgmt.calen = true ∧ (s.stream u.stream).state = .idle
  held : ∀ u, s.mgmt.unlock = some u → u.held = true → ∃ c, s.tally.capture = some c ∧ c.stream = u.stream
  capture : ∀ c, s.tally.capture = some c → ∃ u, s.mgmt.unlock = some u ∧ u.stream = c.stream ∧ u.held = true

/-- A lot number is held at most once across the lot table and the out-turn list (R5, R22). -/
structure LotLaw (s : State) : Prop where
  table : ∀ i j l m, s.lotAt i = some l → s.lotAt j = some m → l.number = m.number → i = j
  apart : ∀ i l, s.lotAt i = some l → ∀ r ∈ s.lot.outturn, r.number ≠ l.number
  list : (s.lot.outturn.map (·.number)).Nodup

/-- A lot's bin list names no bin twice, and its delivery entries sum to its certified and uncertified grams together
(R4, R20). -/
def DeliveryLaw (s : State) : Prop :=
  ∀ k l, s.lotAt k = some l →
    (l.bins.map (·.bin)).Nodup ∧ (l.bins.map (·.grams)).sum = l.certified + l.uncertified

/-- No gram sum of a lot of the table has reached its saturation (R20). -/
def Unsaturated (s : State) : Prop :=
  ∀ k l, s.lotAt k = some l →
    l.certified < maxGrams ∧ l.uncertified < maxGrams ∧ ∀ d ∈ l.bins, d.grams < maxGrams

/-! ## Sums of grams -/

/-- The grams every lot of the table holds, certified and uncertified together. -/
def lotGrams (s : State) : Nat :=
  ((List.finRange 32).map fun k => match s.lotAt k with | some l => l.certified + l.uncertified | none => 0).sum

/-- The grams delivered to bins by every lot of the table. -/
def deliveredGrams (s : State) : Nat :=
  ((List.finRange 32).map fun k => match s.lotAt k with | some l => (l.bins.map (·.grams)).sum | none => 0).sum

/-- The unassigned grams of every stream. -/
def unassignedGrams (s : State) : Nat := ((List.finRange 8).map fun i => (s.stream i).unassigned).sum

/-- The fills of every bin. -/
def binGrams (s : State) : Nat := ((List.finRange 40).map fun b => (s.bin b).fill).sum

/-- `g` grams more fit every sum they could enter (R20, R44, R133). -/
structure HasRoomFor (g : Nat) (s : State) : Prop where
  lots : ∀ k l, s.lotAt k = some l → l.certified + g ≤ maxGrams ∧ l.uncertified + g ≤ maxGrams
  delivered : ∀ k l, s.lotAt k = some l → ∀ d ∈ l.bins, d.grams + g ≤ maxGrams
  bins : ∀ b, (s.bin b).fill + g ≤ maxGrams
  streams : ∀ i, (s.stream i).unassigned + g ≤ maxGrams

end Sys2Proof.Machine
end

