-- ==== Sys2Proof/Certificates/Slice0/Obligations.lean ====
section
/-! DEFINITION. The statements about the model, for the provers: each says which rules of spec/ it formalises, or
that it is the model's choice. Two abbreviations stand in many of them: `happens u` takes the reports of `u`
(log 5), and `answeredDone c q u` then places the REPLY (log 7, which follows R161 and R174). -/

open Sys2Proof Sys2Proof.Machine

/-! ## The machine: steps, reset, what every step keeps -/

/-- A step takes the command at the front of the queue and runs it with the rest of the queue. -/
def Obligations.StepRunsFrontCommand : Prop :=
  ∀ (c : Instr) (rest : List Instr) (s : State), s.pending = c :: rest → step s = exec c { s with pending := rest }

/-- Every command, well-formed or not, answers a next state in every state: nothing a station sends stops the block. That
no command of any kind is stopped is the model's deduction from the rules (log 24). -/
def Obligations.EveryCommandAnswersNext : Prop := ∀ (c : Instr) (s : State), ∃ t, exec c s = .next t

/-- What a reset leaves, block by block (the Reset columns of 01 to 10; the straps of R149 and CALEN of R71 as the
command carries them; R171's POWER-UP). -/
def Obligations.ResetLeavesResetValues : Prop :=
  ∀ (straps : BitVec 6) (calen : Bool) (s : State), ∃ t, exec (.reset straps calen) s = .next t ∧
    t.loop = { address := if straps = 63 then 62 else straps.toNat, forward := [], own := [], tx := none, txLeft := 0
               crc := 0, fwdDrop := 0, ownDrop := 0, mgmtDrop := 0 } ∧
    (∀ i, (t.stream i).config = ⟨none, none, none, 1000, 1500, 50⟩ ∧ (t.stream i).state = .idle ∧
      (t.stream i).reasons = HoldSet.none ∧ (t.stream i).fromIdle = false ∧ (t.stream i).noBinLot = none ∧
      (t.stream i).faulted = IdxSet.empty 64 ∧ (t.stream i).currentLot = none ∧ (t.stream i).activeRoute = none ∧
      (t.stream i).last = none ∧ (t.stream i).fedAtLast = false ∧ (t.stream i).lastLookup = none ∧
      (t.stream i).demand = false ∧ (t.stream i).silence = none ∧ (t.stream i).permit = none ∧
      (t.stream i).drain = none ∧ (t.stream i).unassigned = 0 ∧ (t.stream i).sinceRead = 0 ∧
      (t.stream i).unroutedReported = false ∧ (t.stream i).certifiedSinceRead = true ∧
      (t.stream i).suspect = none ∧ (t.stream i).missed = 0 ∧ (t.stream i).discarded = 0) ∧
    (∀ i, t.tallyOf i = ⟨none, 0, 0, 0, 0, none⟩) ∧ t.tally.capture = none ∧
    (∀ k, t.lot.holdMap.get k = none) ∧ (∀ k, t.lotAt k = none) ∧ t.lot.outturn = [] ∧
    (∀ g, t.seg g = ⟨none, .free, false, none, none, IdxSet.empty 8, IdxSet.empty 8, none, none, false, none, none⟩) ∧
    (∀ r, t.routeAt r = none) ∧ t.alloc.queue = [] ∧ (∀ i, t.stagingOf i = none) ∧
    (∀ b, t.bin b = ⟨none, .outOfService, none, 0, none, none, .ok, 0, false, none, none, none, false, none, false,
      false⟩) ∧
    t.mgmt = ⟨[], none, none, none, none, calen⟩ ∧
    (∀ k, t.ind.events.get k = if k = 0 then ⟨true, 1, 0, false⟩ else ⟨false, 0, 0, false⟩) ∧
    t.ind.alert = false ∧ t.ind.forceOff = false ∧ t.ind.forceOn = false ∧
    (∀ n, (t.ind.lamps.get n).mode = .stream ∧ (t.ind.lamps.get n).assigned = n)

/-- The state after any reset meets every law that the steps keep; State.reset is the one that finds the straps 0 and CALEN
low, which is the model's choice (log 1). -/
def Obligations.ResetMeetsEveryLaw : Prop :=
  State.reset = State.resetWith 0 false [] ∧
  ∀ (straps : BitVec 6) (calen : Bool) (waiting : List Instr),
    let t := State.resetWith straps.toNat calen waiting
    LoopLaw t ∧ AccountLaw t ∧ AlertLaw t ∧ BinLaw t ∧ SegmentLaw t ∧ GateLaw t ∧ ControlLaw t ∧ StreamLaw t ∧
      LotLaw t ∧ DeliveryLaw t

/-- Every step keeps the Loop interface's bounds and order (R149, R152, R153, R154, R156, R157). -/
def Obligations.LoopLawKept : Prop := ∀ s t, LoopLaw s → step s = .next t → LoopLaw t

/-- Every step keeps the bounds of residues, serials, counters, gram sums and buffers (R20, R22, R31, R44, R50, R59,
R70, R131, R133, R159, R161, R171). -/
def Obligations.AccountLawKept : Prop := ∀ s t, AccountLaw s → step s = .next t → AccountLaw t

/-- Every step keeps the alert output active exactly while a kind has both its flag and its mask bit set (R174). -/
def Obligations.AlertLawKept : Prop := ∀ s t, AlertLaw s → step s = .next t → AlertLaw t

/-- Every step keeps every configured bin's thresholds in their order (R129). -/
def Obligations.BinThresholdOrderKept : Prop := ∀ s t, BinLaw s → step s = .next t → BinLaw t

/-- Every step keeps the segments' configurations, owners, kinds, holders, feeders and under-flow marks as their states
require: the settings in their ranges, the feeders among the holders, holders and feeding count within the share limit, one
holder of a STAGED segment (R84, R86, R87; log 21 for activation and for the taking of staged segments). -/
def Obligations.SegmentLawKept : Prop := ∀ s t, SegmentLaw s → step s = .next t → SegmentLaw t

/-- Every step keeps each bin's inlet gate and gate marks true of the gate, and FILLING and AVAILABLE true of the marks
(R84, R131, R132). -/
def Obligations.GateLawKept : Prop := ∀ s t, GateLaw s → step s = .next t → GateLaw t

/-- Every step keeps the control laws: one request a stream, and of a WAITING stream (R109, R111); an unlock only with
CALEN high and for an IDLE stream (R71, R73, R74); a zero capture exactly with the unlock it holds (R78, R80, R81). -/
def Obligations.ControlLawKept : Prop := ∀ s t, ControlLaw s → step s = .next t → ControlLaw t

/-- Every step keeps the streams' records as their states require (R28, R41, R42); the requests are taken to be of
WAITING streams (`ControlLaw`). -/
def Obligations.StreamLawKept : Prop := ∀ s t, ControlLaw s → StreamLaw s → step s = .next t → StreamLaw t

/-- Every step keeps each lot number held at most once across the lot table and the out-turn list together (R5,
R22). -/
def Obligations.LotNumbersStayUnique : Prop := ∀ s t, LotLaw s → step s = .next t → LotLaw t

/-- Every step keeps, for every lot in the table, the sum of its delivery entries equal to its certified grams plus its
uncertified grams, while none of those sums has saturated (R20). -/
def Obligations.DeliverySumsKept : Prop :=
  ∀ s t, DeliveryLaw s → step s = .next t → Unsaturated t → DeliveryLaw t

/-- A stream's calibration record or serial changes by no command but a reset, unless CALEN is high, an unlock for
that stream is in force and the stream is IDLE; and every such change advances the serial by one, modulo 65,536
(R75). -/
def Obligations.CalibrationChangesOnlyUnlocked : Prop :=
  ∀ (c : Instr) (s t : State) (i : StreamIdx), ControlLaw s → (∀ straps calen, c ≠ .reset straps calen) →
    exec c s = .next t →
    ((t.tallyOf i).cal ≠ (s.tallyOf i).cal ∨ (t.tallyOf i).serial ≠ (s.tallyOf i).serial) →
    s.mgmt.calen = true ∧ (∃ u, s.mgmt.unlock = some u ∧ u.stream = i) ∧ (s.stream i).state = .idle ∧
      (t.tallyOf i).serial = ((s.tallyOf i).serial + 1) % 65536

/-- What the taking of reports leaves alone, after any command, and that a state with no report and no occasion for a pass
settles to itself, but for the choice of the lamps' patterns. That all reports are taken within the command is the model's
reading (logs 5 and 16). -/
def Obligations.SettlementFrame : Prop :=
  (∀ s, KeptByReports s (settled s)) ∧ (∀ s : State, s.quiet = true → settled s = refreshLamps s)

/-! ## The loop (08) -/

/-- A received run of data characters is a good frame exactly when it is a frame's bytes, CRC included, with a payload of
48 bytes or fewer; the frame read is then that frame (R147, R148). -/
def Obligations.GoodFramesAreFrameBytes : Prop :=
  ∀ (chars : List Byte) (f : Frame), judgeFrame chars = some f ↔ f.payload.length ≤ 48 ∧ chars = f.bytes

/-- FRAME_RECEIVED: a bad frame is dropped and counted, the sixteenth raising LOOP-ERROR (R147, R157); a good one is
stripped, consumed by its kind and length, examined, or forwarded, by the first case of R150 that applies (R150,
R151). -/
def Obligations.FrameReceivedDisposition : Prop :=
  ∀ (chars : List Byte) (s : State),
    (judgeFrame chars = none →
      let counted := s.putLoop { s.loop with crc := min 255 (s.loop.crc + 1) }
      (s.loop.crc = 15 → exec (.frameReceived chars) s = happens (raise .loopError 0 counted)) ∧
      (s.loop.crc ≠ 15 → exec (.frameReceived chars) s = happens counted)) ∧
    ∀ f, judgeFrame chars = some f →
      (f.src.toNat = s.loop.address → exec (.frameReceived chars) s = happens s) ∧
      (f.src.toNat ≠ s.loop.address → f.dst.toNat = s.loop.address →
        (∀ a b, f.kind = 2 → f.payload = [a, b] → exec (.frameReceived chars) s = exec (.level f.src (a ++ b)) s) ∧
        (∀ p, f.kind = 5 → f.payload = [p] → exec (.frameReceived chars) s = exec (.posrep f.src p) s) ∧
        (∀ a b c args, f.kind = 7 → f.payload = a :: b :: c :: args →
          exec (.frameReceived chars) s = exec (.manage f.src (a ++ b) c args) s) ∧
        (¬(f.kind = 2 ∧ f.payload.length = 2) → ¬(f.kind = 5 ∧ f.payload.length = 1) →
          ¬(f.kind = 7 ∧ 3 ≤ f.payload.length) → exec (.frameReceived chars) s = happens s)) ∧
      (f.src.toNat ≠ s.loop.address → f.dst.toNat ≠ s.loop.address →
        (∀ a t u c d e h l g, f.dst = 63 → f.kind = 1 → f.payload = [a, t, u, c, d, e, h, l, g] →
          exec (.frameReceived chars) s = exec (.sample f.src ⟨a, t ++ u, c ++ d ++ e, h, l, g⟩) s) ∧
        (¬(f.dst = 63 ∧ f.kind = 1 ∧ f.payload.length = 9) →
          exec (.frameReceived chars) s = happens (s.forward f)))

/-- A frame placed in the own-frame queue: a PERMIT takes the place of its stream's unsent one, whatever the queue's
length; any other frame joins the end, or with 24 waiting is dropped and counted; an idle transmitter begins to send it
(R153, R154, R156). TRANSMIT_END: the frame being sent is finished and the forward buffer's oldest frame is sent, else the
own-frame queue's oldest, source and kind as R149 and the layouts give, else IDLE; with no frame being sent nothing happens.
A frame forwarded joins the buffer behind the others, or with 4 waiting is dropped and counted, and an idle transmitter
sends it at once. Nothing else changes (R152, R156). TRANSMIT_END acts whatever is left of the frame (log 3), and an idle
transmitter takes a frame as it is placed (log 26). -/
def Obligations.FramePlacement : Prop :=
  (∀ (s : State) (f : OwnFrame),
    (∀ g i, s.loop.tx = some g → f.permitStream = some i → (∃ o ∈ s.loop.own, o.permitStream = some i) →
      s.place f = { s with loop := { s.loop with
        own := s.loop.own.map fun o => if o.permitStream = some i then f else o } }) ∧
    (∀ g, s.loop.tx = some g → (∀ o ∈ s.loop.own, o.permitStream = none ∨ o.permitStream ≠ f.permitStream) →
      (s.loop.own.length < 24 → s.place f = { s with loop := { s.loop with own := s.loop.own ++ [f] } }) ∧
      (24 ≤ s.loop.own.length →
        s.place f = { s with loop := { s.loop with ownDrop := min 255 (s.loop.ownDrop + 1) } })) ∧
    (s.loop.tx = none → s.loop.forward = [] → s.loop.own = [] →
      s.place f = { s with loop := { s.loop with
        tx := some (f.toFrame s.loop.address), txLeft := (f.toFrame s.loop.address).payload.length + 9 } })) ∧
  ((∀ s : State, (s.loop.tx = none → exec .transmitEnd s = .next s) ∧
    ∀ g, s.loop.tx = some g →
      (∀ f r, s.loop.forward = f :: r → exec .transmitEnd s = .next { s with loop := { s.loop with
        forward := r, tx := some f, txLeft := f.payload.length + 9 } }) ∧
      (∀ o r, s.loop.forward = [] → s.loop.own = o :: r → ∃ f, exec .transmitEnd s = .next { s with loop := { s.loop with
          own := r, tx := some f, txLeft := f.payload.length + 9 } } ∧
        f = o.toFrame s.loop.address ∧ f.src = BitVec.ofNat 8 s.loop.address) ∧
      (s.loop.forward = [] → s.loop.own = [] →
        exec .transmitEnd s = .next { s with loop := { s.loop with tx := none, txLeft := 0 } })) ∧
  (∀ (s : State) (f : Frame),
    (∀ g, s.loop.tx = some g → s.loop.forward.length < 4 →
      s.forward f = { s with loop := { s.loop with forward := s.loop.forward ++ [f] } }) ∧
    (∀ g, s.loop.tx = some g → 4 ≤ s.loop.forward.length →
      s.forward f = { s with loop := { s.loop with fwdDrop := min 255 (s.loop.fwdDrop + 1) } }) ∧
    (s.loop.tx = none → s.loop.forward = [] → s.forward f = { s with loop := { s.loop with
      tx := some f, txLeft := f.payload.length + 9 } })))

/-- A REPLY's data is cut into parts of 44 bytes, the last one marked and holding what remains; the parts join the
own-frame queue together, or with too little room are dropped together, OWN-DROP counted for each; an idle transmitter
sends the first part at once (R156; log 26), and nothing but the queue, its counter and an idle transmitter changes (R155,
R164); and a reply without data then leaves the Management unit
free to take its oldest frame when the request was the one in hand (R161; log 8). That data of an exact multiple of 44 bytes
has no empty last part is the model's choice (log 44). -/
def Obligations.ReplyPlacement : Prop :=
  ∀ (c : Instr) (q : Requester) (o : ReplyCode) (data : List Byte) (s : State),
    (∃ pieces : List (List Byte), pieces ≠ [] ∧ pieces.flatten = data ∧ (∀ d ∈ pieces.dropLast, d.length = 44) ∧
      (∀ d ∈ pieces, d.length ≤ 44) ∧ (data ≠ [] → [] ∉ pieces) ∧ (data = [] → pieces = [[]]) ∧
      replyParts q o data = pieces.mapIdx fun k d => .reply q.source q.tag o k (k + 1 == pieces.length) d) ∧
    (∀ g, s.loop.tx = some g →
      (s.loop.own.length + (replyParts q o data).length ≤ 24 →
        s.placeReply q o data = { s with loop := { s.loop with own := s.loop.own ++ replyParts q o data } }) ∧
      (24 < s.loop.own.length + (replyParts q o data).length →
        s.placeReply q o data = { s with loop := { s.loop with
          ownDrop := min 255 (s.loop.ownDrop + (replyParts q o data).length) } })) ∧
    (s.loop.tx = none → s.loop.forward = [] → s.loop.own = [] →
      (∀ first rest, replyParts q o data = first :: rest → rest.length < 24 →
        s.placeReply q o data = { s with loop := { s.loop with
          own := rest, tx := some (first.toFrame s.loop.address)
          txLeft := (first.toFrame s.loop.address).payload.length + 9 } }) ∧
      (24 < (replyParts q o data).length → s.placeReply q o data = { s with loop := { s.loop with
        ownDrop := min 255 (s.loop.ownDrop + (replyParts q o data).length) } })) ∧
    (∃ l, s.placeReply q o data = { s with loop := l } ∧ l.address = s.loop.address ∧ l.crc = s.loop.crc ∧
      l.fwdDrop = s.loop.fwdDrop ∧ l.mgmtDrop = s.loop.mgmtDrop) ∧
    ((∃ f, s.mgmt.inHand = some f ∧ decodeRequest f = c) → replied c q o s = { s.placeReply q o [] with
      mgmt := { s.mgmt with input := s.mgmt.input.tail, inHand := s.mgmt.input.head? } }) ∧
    (¬(∃ f, s.mgmt.inHand = some f ∧ decodeRequest f = c) → replied c q o s = s.placeReply q o [])

/-! ## Samples and the tally (02, 03) -/

/-- SAMPLE, left alone or discarded: one from the station's own address is stripped; any other is forwarded, and is not
handed on while the restart interval runs, nor taken by a stream when no meter has its source; a sample of a primed stream
that repeats or precedes the last one, or whose meter time has not moved, is discarded and DISCARDED counted, the stream
otherwise untouched (R29, R31, R32, R150, R151); that
the forwarding comes first is the model's choice (log 12). -/
def Obligations.SampleLeftAloneOrDiscarded : Prop :=
  ∀ (s : State) (src : Byte) (f : SampleFields),
    (src.toNat = s.loop.address → exec (.sample src f) s = happens s) ∧
    (src.toNat ≠ s.loop.address →
      let s1 := s.forward ⟨63, src, 1, samplePayload f⟩
      (s.mgmt.restartLeft ≠ none → exec (.sample src f) s = happens s1) ∧
      ((∀ i, (s.stream i).config.meter ≠ some src.toNat) → exec (.sample src f) s = happens s1) ∧
      (∀ i l, s.mgmt.restartLeft = none → (s.stream i).config.meter = some src.toNat →
        (∀ j, (s.stream j).config.meter = some src.toNat → j = i) → (s.stream i).last = some l →
        f.flags.getLsbD 2 = false →
        (let d := ((f.seq.toNat : Int) - l.seq) % 256
         d = 0 ∨ 128 < d ∨ ((f.time.toNat : Int) - l.time) % 65536 = 0) →
        exec (.sample src f) s = happens (s1.putStream i
          { s.stream i with discarded := min 255 ((s.stream i).discarded + 1) })))

/-- SAMPLE of an IDLE stream with demand 0 on which no zero capture runs: a priming sample sets the last sample and
clears r₀ and the fed-at-last flag; one accepted by a stream without a calibration record counts MISSED and advances the
last sample with its rate; both take demand and lookup, and nothing else of the stream changes (R30, R31, R32, R34). And the
IDLE rule for any demand and lookup, the lookup held before the sample being `before`: with demand 0, or with a lot that
qualifies but no calibration record, nothing happens; with demand 1 and no lot that qualifies NO-LOT is raised when the
lookup has changed; else the stream starts: an unlock for it ends, a zero capture holding it aborting with LEFT-IDLE, the
stream attaches, and goes to WAITING with a request queued, or, the lot having no current bin, to HELD with NO-BIN,
detached again (R10, R34, R74, R81). That the sample is forwarded before it is examined is the model's choice (log 12). -/
def Obligations.IdleSamplePrimesOrAdvances : Prop :=
  (∀ (s : State) (src : Byte) (f : SampleFields) (i : StreamIdx),
    src.toNat ≠ s.loop.address → s.mgmt.restartLeft = none → (s.stream i).config.meter = some src.toNat →
    (∀ j, (s.stream j).config.meter = some src.toNat → j = i) → (s.stream i).state = .idle → (s.stream i).Law →
    (∀ c, s.tally.capture = some c → c.stream ≠ i) → f.flags.getLsbD 0 = false →
    let s1 := s.forward ⟨63, src, 1, samplePayload f⟩
    let x := { s.stream i with lastLookup := some (s.lookup f.hold.toNat f.layer.toNat), demand := false
                               fedAtLast := false }
    (((s.stream i).last = none ∨ f.flags.getLsbD 2 = true) →
      exec (.sample src f) s = happens (s1.putStream i
        { x with last := some ⟨f.seq.toNat, f.time.toNat, f.count.toNat, 0⟩ })) ∧
    (∀ l, (s.stream i).last = some l → f.flags.getLsbD 2 = false → (s.tallyOf i).cal = none →
      let d := ((f.seq.toNat : Int) - l.seq) % 256
      let dt := ((f.time.toNat : Int) - l.time) % 65536
      let dc := ((f.count.toNat : Int) - l.count) % 16777216
      1 ≤ d → d ≤ 128 → dt ≠ 0 →
      exec (.sample src f) s = happens (s1.putStream i
        { x with missed := min 255 ((s.stream i).missed + d.toNat - 1)
                 last := some ⟨f.seq.toNat, f.time.toNat, f.count.toNat, (dc * 1000 / dt).toNat⟩ }))) ∧
  (∀ (s : State) (i : StreamIdx) (before : Option Lookup),
    let x := s.stream i
    let v := idleRule i before s
    let asks (n : Nat) := x.demand = true ∧ x.lastLookup = some (.lot n) ∧
      (s.standing n = some (.inTable .opened) ∨ s.standing n = some (.inTable .discharging))
    (x.demand = false → v = s) ∧
    (x.demand = true → (∀ n, ¬asks n) →
      (before = x.lastLookup → v = s) ∧ (before ≠ x.lastLookup → v = raise .noLot i.val s)) ∧
    (∀ n, asks n → (s.tallyOf i).cal = none → v = s) ∧
    (∀ n, asks n → (s.tallyOf i).cal ≠ none → x.currentLot = none →
      (∀ j, j ≠ i → v.stream j = s.stream j) ∧
      (∀ b, s.currentBinOf n = some b →
        v.stream i = { x with state := .waiting, currentLot := some n, activeRoute := none, fromIdle := false
                              silence := some x.config.silenceTime } ∧
        v.alloc = { s.alloc with queue := s.alloc.queue ++ [⟨i, n, b, s.routeFor i b, false⟩] } ∧
        v.passDue = true ∧ v.lot = (attach n i s).lot) ∧
      (s.currentBinOf n = none →
        v.stream i = { x with state := .held, reasons := { x.reasons with noBin := true }, noBinLot := some n
                              currentLot := none, activeRoute := none, fromIdle := false, silence := none } ∧
        v.alloc = s.alloc ∧ v.lot = (detach n i (attach n i s)).lot) ∧
      ((∀ u, s.mgmt.unlock = some u → u.stream ≠ i) →
        v.mgmt = s.mgmt ∧ v.tally = s.tally ∧ v.ind.events = s.ind.events) ∧
      (∀ u, s.mgmt.unlock = some u → u.stream = i → u.held = false →
        v.mgmt = { s.mgmt with unlock := none } ∧ v.tally = s.tally ∧ v.ind.events = s.ind.events) ∧
      (∀ u c, s.mgmt.unlock = some u → u.stream = i → u.held = true → s.tally.capture = some c →
        let w := endCapture (.aborted .leftIdle) s
        v.mgmt = w.mgmt ∧ v.tally = w.tally ∧ v.ind.events = w.ind.events)))

/-- SAMPLE accepted by a FEEDING stream, with demand 1 and its own lot again: MISSED is counted, demand and lookup are
taken, the silence timer starts afresh, the sample is tallied and booked with the stream still FEEDING, and the
fed-at-last flag is set when it still is (R31, R32, R36, R41). In any state: a capture on the stream aborts by the sample's
cause before the sample's steps (R81; before all of them is the model's choice, log 37), a priming sample then becomes the
last one, and the steps are made, which for an accepted sample end with the tally and the fed-at-last flag (R30, R32). The
steps take lookup and demand, clear SILENT, and NO-BIN by demand 0 or another lookup, and then by state: IDLE follows the
IDLE rule; WAITING stays with its own lot, or loses its request and becomes IDLE, following the IDLE rule at once with
demand 1; FEEDING stays with its own lot, or enters DRAINING, a PERMIT with feed 0 sent, its route released in step order
and its staging record dropped; DRAINING stays; HELD, its set emptied, leaves HELD, to IDLE with the held-from-idle mark
and else by the exit test; in WAITING, FEEDING and DRAINING the silence timer starts afresh (R34 to R36, R39, R41, R118).
That the forwarding comes first is the model's choice (log 12), and that the fed-at-last flag is formed before the reports
of the booking act is its reading (log 6). -/
def Obligations.FeedingSampleIsTallied : Prop :=
  (∀ (s : State) (src : Byte) (f : SampleFields) (i : StreamIdx) (l : LastSample) (n : Nat),
    src.toNat ≠ s.loop.address → s.mgmt.restartLeft = none → (s.stream i).config.meter = some src.toNat →
    (∀ j, (s.stream j).config.meter = some src.toNat → j = i) → (s.stream i).state = .feeding → (s.stream i).Law →
    (∀ c, s.tally.capture = some c → c.stream ≠ i) → (s.stream i).last = some l → f.flags.getLsbD 0 = true →
    f.flags.getLsbD 2 = false → (s.stream i).currentLot = some n →
    s.lookup f.hold.toNat f.layer.toNat = .lot n →
    let d := ((f.seq.toNat : Int) - l.seq) % 256
    1 ≤ d → d ≤ 128 → ((f.time.toNat : Int) - l.time) % 65536 ≠ 0 →
    let s1 := (s.forward ⟨63, src, 1, samplePayload f⟩).putStream i
      { s.stream i with missed := min 255 ((s.stream i).missed + d.toNat - 1), lastLookup := some (.lot n)
                        demand := true, silence := some (s.stream i).config.silenceTime }
    let s2 := tallyStep i f (measure l f) s1
    exec (.sample src f) s = happens (s2.putStream i
      { s2.stream i with fedAtLast := decide ((s2.stream i).state = .feeding) })) ∧
  (∀ (s : State) (src : Byte) (f : SampleFields) (i : StreamIdx),
    src.toNat ≠ s.loop.address → s.mgmt.restartLeft = none → (s.stream i).config.meter = some src.toNat →
    (∀ j, (s.stream j).config.meter = some src.toNat → j = i) →
    let s0 := s.forward ⟨63, src, 1, samplePayload f⟩
    (((s.stream i).last = none ∨ f.flags.getLsbD 2 = true) →
      let u := captureCause i (some .meterRestart) s0
      exec (.sample src f) s = happens (examineSteps i f (u.putStream i { u.stream i with
        last := some ⟨f.seq.toNat, f.time.toNat, f.count.toNat, 0⟩, fedAtLast := false }))) ∧
    (∀ l, (s.stream i).last = some l → f.flags.getLsbD 2 = false →
      let d := ((f.seq.toNat : Int) - l.seq) % 256
      1 ≤ d → d ≤ 128 → ((f.time.toNat : Int) - l.time) % 65536 ≠ 0 →
      let u := captureCause i (sampleCause s i f (measure l f)) (s0.putStream i
        { s.stream i with missed := min 255 ((s.stream i).missed + d.toNat - 1) })
      let t := tallyStep i f (measure l f) (examineSteps i f u)
      exec (.sample src f) s = happens (t.putStream i
        { t.stream i with fedAtLast := decide ((t.stream i).state = .feeding) }))) ∧
  (∀ (u : State) (i : StreamIdx) (cause : Option AbortCause),
    (∀ c z, cause = some c → u.tally.capture = some z → z.stream = i →
      captureCause i cause u = endCapture (.aborted c) u) ∧
    (cause = none ∨ (∀ z, u.tally.capture = some z → z.stream ≠ i) → captureCause i cause u = u)) ∧
  (∀ (u : State) (i : StreamIdx) (f : SampleFields),
    let x := u.stream i
    let demand := f.flags.getLsbD 0
    let found := u.lookup f.hold.toNat f.layer.toNat
    let own := demand = true ∧ ∃ n, x.currentLot = some n ∧ found = .lot n
    ∀ y : Stream,
      (∀ n, x.noBinLot = some n → ¬(demand = true ∧ found = .lot n) → y = { x with
        lastLookup := some found, demand := demand
        reasons := { x.reasons with silent := false, noBin := false }, noBinLot := none }) →
      (x.noBinLot = none ∨ (∃ n, x.noBinLot = some n ∧ demand = true ∧ found = .lot n) → y = { x with
        lastLookup := some found, demand := demand, reasons := { x.reasons with silent := false } }) →
      let w := u.putStream i y
      let timed := u.putStream i { y with silence := some x.config.silenceTime }
      (x.state = .idle → examineSteps i f u = restartSilence i (idleRule i x.lastLookup w)) ∧
      (x.state = .waiting →
        (own → examineSteps i f u = timed) ∧
        (demand = false → examineSteps i f u = becomeIdle i (removeRequest i timed)) ∧
        (demand = true → ¬own → examineSteps i f u =
          restartSilence i (idleRule i x.lastLookup (becomeIdle i (removeRequest i timed))))) ∧
      (x.state = .feeding →
        (own → examineSteps i f u = timed) ∧
        (¬own → examineSteps i f u = restartSilence i (enterDraining i timed))) ∧
      (x.state = .draining → examineSteps i f u = timed) ∧
      (x.state = .held →
        (x.reasons ≠ HoldSet.none → y.reasons = HoldSet.none → x.fromIdle = true →
          examineSteps i f u = becomeIdle i w) ∧
        (x.reasons ≠ HoldSet.none → y.reasons = HoldSet.none → x.fromIdle = false →
          examineSteps i f u = restartSilence i (exitTest i w)) ∧
        (x.reasons = HoldSet.none ∨ y.reasons ≠ HoldSet.none → examineSteps i f u = w))) ∧
  (∀ (u : State) (i : StreamIdx),
    let x := u.stream i
    let v := becomeIdle i u
    (x.state = .waiting ∨ x.state = .feeding ∨ x.state = .draining →
      restartSilence i u = u.putStream i { x with silence := some x.config.silenceTime }) ∧
    (x.state = .idle ∨ x.state = .held → restartSilence i u = u) ∧
    (v.stream i = { x with state := .idle, currentLot := none, activeRoute := none, silence := none
                           fromIdle := false } ∧
      (∀ j, j ≠ i → v.stream j = u.stream j) ∧ v.alloc = u.alloc ∧
      (∀ n, x.currentLot = some n → v.lot = (detach n i u).lot) ∧ (x.currentLot = none → v.lot = u.lot)) ∧
    (∀ r route a n, x.activeRoute = some r → u.routeAt r = some route → x.config.unloader = some a →
      x.currentLot = some n →
      let y := { x with state := .draining }
      let stopped := ((refreshLamps (u.putStream i y)).place (.permit a i false route.bin n)).putStream i
        { y with permit := none }
      enterDraining i u =
        (dropStaging i (route.steps.foldl (fun v st => releaseSeg i st.segment v) stopped)).occasion))

/-- Every quantity of the tally of an accepted sample, by its formula, exactly, and within its range; the greatest
numerator is reached and divides exactly to 17,112,759,300; and every sum the grams enter saturates (R67, with the
formulas of R52, R53 and R55 to R58). -/
def Obligations.TallyQuantitiesInRange : Prop :=
  (∀ (k : Calibration) (l : LastSample) (f : SampleFields) (r : Nat),
    1 ≤ k.span → k.span ≤ 1000000 → k.zero ≤ 65535 → -2000 ≤ k.trim → k.trim ≤ 2000 → r < 102400000000000 →
    (measure l f).time ≠ 0 →
    let m := measure l f
    let n := netCount k m.counts m.time
    let total := numerator k m.counts m.time + r
    (m.counts : Int) = ((f.count.toNat : Int) - l.count) % 16777216 ∧ m.counts ≤ 16777215 ∧
    (m.time : Int) = ((f.time.toNat : Int) - l.time) % 65536 ∧ 1 ≤ m.time ∧ m.time ≤ 65535 ∧
    m.rate = m.counts * 1000 / m.time ∧ m.rate ≤ 16777215000 ∧
    1 ≤ min m.time 4000 ∧ min m.time 4000 ≤ 4000 ∧ k.zero * min m.time 4000 ≤ 262140000 ∧
    (n : Int) = max 0 ((m.counts : Int) * 1024000 - k.zero * min m.time 4000) ∧ n ≤ 17179868160000 ∧
    98000 ≤ k.span * (100000 + k.trim) ∧ k.span * (100000 + k.trim) ≤ 102000000000 ∧
    (numerator k m.counts m.time : Int) = n * k.span * (100000 + k.trim) ∧
    numerator k m.counts m.time ≤ 1752346552320000000000000 ∧
    total ≤ 1752346552422399999999999 ∧
    gramsOf k r m.counts m.time = total / 102400000000000 ∧ gramsOf k r m.counts m.time ≤ 17112759300 ∧
    residueAfter k r m.counts m.time + gramsOf k r m.counts m.time * 102400000000000 = total ∧
    residueAfter k r m.counts m.time ≤ 102399999999999) ∧
  (let k : Calibration := ⟨1000000, 0, 2000, 16000000, 0⟩
   numerator k 16777215 65535 = 1752346552320000000000000 ∧
   1752346552320000000000000 = 17112759300 * 102400000000000 ∧
   gramsOf k 102399999999999 16777215 65535 = 17112759300 ∧
   rateOf 16777215 65535 = 256003) ∧
  (1752346552422399999999999 < 2 ^ 81) ∧
  (∀ a g : Nat, satAdd a g = min 18446744073709551615 (a + g))

/-- The grams of a sample come from one exact division of numerator and residue; over any run of samples of one stream,
under whatever calibrations, the grams add up to the quotient of the summed numerators and the residue before the first,
and the last residue is that division's remainder; and no total, of a sample or of a suspect record, passes 128 bits
(R58). -/
def Obligations.DivisionLosesNothing : Prop :=
  (∀ (k : Calibration) (r counts time : Nat),
    let total := numerator k counts time + r
    gramsOf k r counts time = total / 102400000000000 ∧
    residueAfter k r counts time = total - gramsOf k r counts time * 102400000000000) ∧
  (∀ (run : List (Calibration × Nat × Nat)) (r : Nat), r < 102400000000000 →
    let total := (run.map fun x => numerator x.1 x.2.1 x.2.2).sum + r
    run.foldl (fun (p : Nat × Nat) x => (p.1 + gramsOf x.1 p.2 x.2.1 x.2.2, residueAfter x.1 p.2 x.2.1 x.2.2)) (0, r) =
      (total / 102400000000000, total % 102400000000000)) ∧
  (∀ (k : Calibration) (r counts time : Nat), 1 ≤ k.span → k.span ≤ 1000000 → -2000 ≤ k.trim → k.trim ≤ 2000 →
    r < 102400000000000 → counts ≤ 18446744073709551615 → numerator k counts time + r < 2 ^ 122)

/-- The tally of a sample on a calibrated stream. A gross sample, of a rate above four times the ceiling: no grams, residue
and counters as they stood; the last sample advances with r₀ = 0; the suspect record is made, or its sums, saturating, and
its last sequence are extended; METER is added and METER-SUSPECT raised (R45, R54). A sample that is not gross is over-range
above the ceiling, a rate jump when the stream fed before and feeds now and the rate has moved by more than a threshold above
0, a gap above the gap limit, a meter fault with meter-ok 0; it is certified when none of the four holds; counters, events,
residue and last sample follow; its grams and verdict go to booking (R58, R60 to R64). That the four conditions alone make
a rate jump, whatever the stream did since the last accepted sample, is the model's choice (log 36), and so is that a
running capture takes the sample in before its grams are booked (log 42). -/
def Obligations.TallyOfSample : Prop :=
  (∀ (s : State) (i : StreamIdx) (k : Calibration) (f : SampleFields) (m : Measured),
    (s.tallyOf i).cal = some k → 4 * k.ceiling < m.rate →
    let x := s.stream i
    let after (r : Suspect) := raise .meterSuspect i.val (addReason i .meter (s.putStream i
      { x with last := some ⟨f.seq.toNat, f.time.toNat, f.count.toNat, 0⟩, suspect := some r }))
    (x.suspect = none → x.state = .feeding ∨ x.state = .draining →
      tallyStep i f m s = after ⟨m.counts, f.seq.toNat, f.seq.toNat, m.time, x.currentLot, s.activeBin i⟩) ∧
    (x.suspect = none → ¬(x.state = .feeding ∨ x.state = .draining) →
      tallyStep i f m s = after ⟨m.counts, f.seq.toNat, f.seq.toNat, m.time, x.currentLot, none⟩) ∧
    (∀ r, x.suspect = some r →
      tallyStep i f m s = after { r with counts := min 18446744073709551615 (r.counts + m.counts)
                                         time := min 18446744073709551615 (r.time + m.time)
                                         lastSeq := f.seq.toNat })) ∧
  (∀ (s : State) (i : StreamIdx) (k : Calibration) (f : SampleFields) (m : Measured) (l : LastSample),
    (s.tallyOf i).cal = some k → (s.stream i).last = some l → m.rate ≤ 4 * k.ceiling →
    let x := s.stream i
    let t := s.tallyOf i
    let fast := k.ceiling < m.rate
    let jump := 0 < k.jump ∧ x.fedAtLast = true ∧ x.state = .feeding ∧ (k.jump : Int) < |(m.rate : Int) - l.rate|
    let gap := x.config.gapLimit < m.time
    let fault := f.flags.getLsbD 1 = false
    ∃ (s3 : State) (certified : Bool),
      (certified = true ↔ ¬(fast ∨ jump ∨ gap ∨ fault)) ∧
      tallyStep i f m s = bookSample i (gramsOf k t.residue m.counts m.time) certified (captureSample i m s3) ∧
      s3.stream i = { x with last := some ⟨f.seq.toNat, f.time.toNat, f.count.toNat, m.rate⟩ } ∧
      (∀ j, j ≠ i → s3.stream j = s.stream j ∧ s3.tallyOf j = s.tallyOf j) ∧
      (s3.tallyOf i).residue = residueAfter k t.residue m.counts m.time ∧ (s3.tallyOf i).cal = some k ∧
      (s3.tallyOf i).serial = t.serial ∧
      (fast → (s3.tallyOf i).overCount = min 255 (t.overCount + 1) ∧ (s3.ind.events.get 4).flag = true ∧
        (s3.ind.events.get 4).source = i.val) ∧
      (¬fast → (s3.tallyOf i).overCount = t.overCount ∧ s3.ind.events.get 4 = s.ind.events.get 4) ∧
      (jump → (s3.tallyOf i).jumpCount = min 255 (t.jumpCount + 1) ∧ (s3.ind.events.get 5).flag = true ∧
        (s3.ind.events.get 5).source = i.val) ∧
      (¬jump → (s3.tallyOf i).jumpCount = t.jumpCount ∧ s3.ind.events.get 5 = s.ind.events.get 5) ∧
      s3.lot = s.lot ∧ s3.bins = s.bins ∧ s3.segs = s.segs ∧ s3.alloc = s.alloc ∧ s3.tally.capture = s.tally.capture)

/-- The grams of a tally computation are added to exactly one place: a lot's certified grams, its uncertified grams, or
the stream's unassigned grams; and those that go to a lot are added to one bin's fill and to one delivery entry as well
(R43; R20, R44, R133), while no sum saturates. Where: in IDLE, WAITING and HELD to unassigned mass; in FEEDING and DRAINING
to the current lot, its active route's bin and that bin's delivery entry, certified grams to certified and others to
uncertified, when the lot is DISCHARGING or CLOSING and its list holds the bin, the overrun check following; and to
unassigned mass when it is not. An uncertified sample clears certified-since-read (R20, R21, R43, R44, R133). -/
def Obligations.BookingConservesGrams : Prop :=
  (∀ (s : State) (i : StreamIdx) (g : Nat) (certified : Bool), HasRoomFor g s →
    (∀ k l, s.lotAt k = some l → (l.bins.map (·.bin)).Nodup) →
    let t := bookSample i g certified s
    (lotGrams t = lotGrams s + g ∧ deliveredGrams t = deliveredGrams s + g ∧ binGrams t = binGrams s + g ∧
        unassignedGrams t = unassignedGrams s ∧
        ((s.stream i).state = .feeding ∨ (s.stream i).state = .draining)) ∨
      (lotGrams t = lotGrams s ∧ deliveredGrams t = deliveredGrams s ∧ binGrams t = binGrams s ∧
        unassignedGrams t = unassignedGrams s + g ∧
        (t.stream i).unassigned = (s.stream i).unassigned + g)) ∧
  (∀ (s : State) (i : StreamIdx) (g : Nat) (certified : Bool),
    let x := s.stream i
    let s1 := s.putStream i { x with certifiedSinceRead := x.certifiedSinceRead && certified }
    let books := x.state = .feeding ∨ x.state = .draining
    (¬books → bookSample i g certified s = addUnassigned i g s1) ∧
    ∀ n r route, books → x.currentLot = some n → x.activeRoute = some r → s.routeAt r = some route →
      let takes (l : Lot) := l.number = n ∧ (l.state = .discharging ∨ l.state = .closing) ∧
        ∃ d ∈ l.bins, d.bin = route.bin
      ((∀ k l, s.lotAt k = some l → ¬takes l) → bookSample i g certified s = addUnassigned i g s1) ∧
      (∀ k l, LotLaw s → s.lotAt k = some l → takes l →
        let booked := { l with
          certified := if certified = true then min 18446744073709551615 (l.certified + g) else l.certified
          uncertified := if certified = true then l.uncertified else min 18446744073709551615 (l.uncertified + g)
          bins := l.bins.map fun d =>
            if d.bin = route.bin then ⟨d.bin, min 18446744073709551615 (d.grams + g)⟩ else d }
        bookSample i g certified s =
          addFill route.bin g (overrunAfterBooking k (s1.putLot k (some booked))))) ∧
  (∀ (s : State) (i : StreamIdx) (k : LotIdx) (l : Lot) (b : BinIdx) (g : Nat),
    let x := s.stream i
    let y := { x with unassigned := min 18446744073709551615 (x.unassigned + g)
                      sinceRead := min 18446744073709551615 (x.sinceRead + g) }
    let passed := x.unroutedReported = false ∧ x.config.unrouted * 1000 < y.sinceRead
    let tooMuch := ∃ m, l.declared = some m ∧ m * (1000 + l.tolerance) < l.certified + l.uncertified
    (passed → addUnassigned i g s = raise .unrouted i.val (s.putStream i { y with unroutedReported := true })) ∧
    (¬passed → addUnassigned i g s = s.putStream i y) ∧
    (s.lotAt k = some l →
      (tooMuch → l.overrunReported = false →
        overrunAfterBooking k s = raise .lotOverrun k.val (s.putLot k (some { l with overrunReported := true }))) ∧
      (¬tooMuch ∨ l.overrunReported = true → overrunAfterBooking k s = s)) ∧
    addFill b 0 s = s ∧
    (g ≠ 0 → addFill b g s = judgeBin b (s.putBin b { s.bin b with
      fill := min 18446744073709551615 ((s.bin b).fill + g) })))

/-- DISCARD_SUSPECT and ACCEPT_SUSPECT: BAD-INDEX outside 0..7, NOT-FOUND without a record; DISCARD drops the record,
ACCEPT tallies its sums uncertified with the calibration and residue as they stand, 0 g without a calibration record, and
books the grams to the recorded lot and bin when both are present and the lot takes them, else to unassigned mass; then the
record is deleted and METER leaves the set (R46, R68). -/
def Obligations.SuspectRecordsResolved : Prop :=
  ∀ (q : Requester) (s : State), s.mgmt.restartLeft = none →
    (∀ n, 8 ≤ n → exec (.acceptSuspect q (some n)) s = answeredWith (.acceptSuspect q (some n)) q .badIndex s ∧
      exec (.discardSuspect q (some n)) s = answeredWith (.discardSuspect q (some n)) q .badIndex s) ∧
    ∀ i : StreamIdx,
      let ca := Instr.acceptSuspect q (some i.val)
      let cd := Instr.discardSuspect q (some i.val)
      let gone (u : State) := removeReason i .meter (u.putStream i { u.stream i with suspect := none })
      ((s.stream i).suspect = none →
        exec ca s = answeredWith ca q .notFound s ∧ exec cd s = answeredWith cd q .notFound s) ∧
      ∀ r, (s.stream i).suspect = some r →
        exec cd s = answeredDone cd q (gone s) ∧
        ∃ (g : Nat) (residue : Nat),
          ((s.tallyOf i).cal = none → g = 0 ∧ residue = (s.tallyOf i).residue) ∧
          (∀ k, (s.tallyOf i).cal = some k → -100000 ≤ k.trim →
            let n := max 0 ((r.counts : Int) * 1024000 - k.zero * min r.time 4000)
            let total := n * k.span * (100000 + k.trim) + (s.tallyOf i).residue
            (g : Int) = min 18446744073709551615 (total / 102400000000000) ∧
            (residue : Int) = total % 102400000000000) ∧
          let s1 := (s.putTally i { s.tallyOf i with residue := residue }).putStream i
            { s.stream i with certifiedSinceRead := false }
          (∀ n b k, r.lot = some n → r.bin = some b → bookingLot s n b = some k →
            exec ca s = answeredDone ca q (gone (addFill b g (bookLot k b g false s1)))) ∧
          ((∀ n b, r.lot = some n → r.bin = some b → bookingLot s n b = none) →
            exec ca s = answeredDone ca q (gone (addUnassigned i g s1)))

/-! ## Calibration and zero capture (04) -/

/-- A zero capture takes an accepted sample's differences into its sums; the sample that takes the summed Δt to the window
completes it: z becomes the lesser of 65,535 and floor(ΣΔc × 1,024,000 / E), the serial advances, the unlock and the
capture are gone, the report says DONE, and CAPTURE-END is raised. An abort leaves z and serial, drops the sums, and
reports its cause with the sums as they stood (R79 to R82). -/
def Obligations.CaptureTakesSamplesAndEnds : Prop :=
  (∀ (s : State) (c : Capture) (m : Measured), s.tally.capture = some c →
    let i := c.stream
    let t := captureSample i m s
    let counts := min 18446744073709551615 (c.counts + m.counts)
    let time := c.time + m.time
    (time < c.window → t = s.putCapture (some ⟨i, c.window, counts, time⟩)) ∧
    (c.window ≤ time →
      let z := min 65535 (counts * 1024000 / time)
      t.tally.capture = none ∧ t.mgmt.unlock = none ∧
      (t.tallyOf i).cal = (s.tallyOf i).cal.map (fun k => { k with zero := z }) ∧
      (t.tallyOf i).serial = ((s.tallyOf i).serial + 1) % 65536 ∧
      (t.tallyOf i).residue = (s.tallyOf i).residue ∧
      (t.tallyOf i).report = some ⟨.done z, c.window, counts, time, ((s.tallyOf i).serial + 1) % 65536⟩ ∧
      (t.ind.events.get 16).flag = true ∧ (t.ind.events.get 16).source = i.val ∧
      (t.ind.events.get 16).count = min 255 ((s.ind.events.get 16).count + 1) ∧
      (∀ j, j ≠ i → t.tallyOf j = s.tallyOf j) ∧ t.streams = s.streams ∧ t.lot = s.lot)) ∧
  (∀ (s : State) (c : Capture) (cause : AbortCause), s.tally.capture = some c →
    let t := endCapture (.aborted cause) s
    t.tally.capture = none ∧ t.mgmt.unlock = none ∧
    t.tallyOf c.stream = { s.tallyOf c.stream with
      report := some ⟨.aborted cause, c.window, c.counts, c.time, (s.tallyOf c.stream).serial⟩ } ∧
    (∀ j, j ≠ c.stream → t.tallyOf j = s.tallyOf j) ∧
    (t.ind.events.get 16).flag = true ∧ (t.ind.events.get 16).source = c.stream.val ∧
    t.streams = s.streams ∧ t.lot = s.lot) ∧
  (∀ (s : State) (i : StreamIdx) (f : SampleFields) (m : Measured) (k : Calibration),
    (s.tallyOf i).cal = some k →
    (f.flags.getLsbD 0 = true → sampleCause s i f m = some .demand) ∧
    (f.flags.getLsbD 0 = false → f.flags.getLsbD 1 = false → sampleCause s i f m = some .meterFault) ∧
    (f.flags.getLsbD 0 = false → f.flags.getLsbD 1 = true → (s.stream i).config.gapLimit < m.time →
      sampleCause s i f m = some .gap) ∧
    (f.flags.getLsbD 0 = false → f.flags.getLsbD 1 = true → m.time ≤ (s.stream i).config.gapLimit →
      (4 * k.ceiling < m.rate → sampleCause s i f m = some .gross) ∧
      (m.rate ≤ 4 * k.ceiling → sampleCause s i f m = none)))

/-- CALEN_FALL ends any unlock in force, and aborts the zero capture that holds it with cause ENABLE-LOW; CALEN_RISE
grants nothing (R71, R74, R81). A level that is already there changes nothing (log 22). -/
def Obligations.CalenEdges : Prop :=
  ∀ s : State,
    exec .calenRise s = .next { s with mgmt := { s.mgmt with calen := true } } ∧
    (s.mgmt.calen = false → exec .calenFall s = .next s) ∧
    (s.mgmt.calen = true → s.mgmt.unlock = none →
      exec .calenFall s = happens { s with mgmt := { s.mgmt with calen := false } }) ∧
    (∀ u, s.mgmt.calen = true → s.mgmt.unlock = some u → u.held = false →
      exec .calenFall s = happens { s with mgmt := { s.mgmt with calen := false, unlock := none } }) ∧
    (∀ u c, s.mgmt.calen = true → s.mgmt.unlock = some u → u.held = true → s.tally.capture = some c → ∃ v,
      exec .calenFall s = happens v ∧ v.mgmt.calen = false ∧ v.mgmt.unlock = none ∧ v.tally.capture = none ∧
      v.tallyOf c.stream = { s.tallyOf c.stream with
        report := some ⟨.aborted .enableLow, c.window, c.counts, c.time, (s.tallyOf c.stream).serial⟩ } ∧
      (v.ind.events.get 16).flag = true ∧ (v.ind.events.get 16).source = c.stream.val)

/-- UNLOCK_CALIBRATION's tests in their order and the unlock of 10,000 ms it grants, any other ending by replacement;
CAPTURE_ZERO's tests in their order, its window in 10..300 s, 60 when none is given, and the unlock it then holds; the
unlock's expiry (R73, R74, R78, R81). The expiry acts whatever time is left, and does nothing without an unlock, which
is the model's reading (log 3). -/
def Obligations.UnlockAndCaptureCommands : Prop :=
  (∀ (q : Requester) (a : UnlockArgs) (s : State), s.mgmt.restartLeft = none →
    let c := Instr.unlockCalibration q (some a)
    (8 ≤ a.stream → exec c s = answeredWith c q .badIndex s) ∧
    ∀ i : StreamIdx, i.val = a.stream →
      (s.mgmt.calen = false → exec c s = answeredWith c q .locked s) ∧
      (s.mgmt.calen = true → (s.stream i).state ≠ .idle → exec c s = answeredWith c q .badState s) ∧
      (s.mgmt.calen = true → (s.stream i).state = .idle → a.serial ≠ (s.tallyOf i).serial →
        exec c s = answeredWith c q .badRecord s) ∧
      (s.mgmt.calen = true → (s.stream i).state = .idle → a.serial = (s.tallyOf i).serial →
        (∀ u, s.mgmt.unlock = some u → u.held = false) →
        exec c s = answeredDone c q { s with mgmt := { s.mgmt with unlock := some ⟨i, 10000, false⟩ } }) ∧
      (∀ u, s.mgmt.calen = true → (s.stream i).state = .idle → a.serial = (s.tallyOf i).serial →
        s.mgmt.unlock = some u → u.held = true →
        exec c s = answeredDone c q
          ((endCapture (.aborted .unlockReplaced) s).putUnlock (some ⟨i, 10000, false⟩)))) ∧
  (∀ (q : Requester) (a : CaptureArgs) (s : State), s.mgmt.restartLeft = none →
    let c := Instr.captureZero q (some a)
    (8 ≤ a.stream → exec c s = answeredWith c q .badIndex s) ∧
    ∀ i : StreamIdx, i.val = a.stream →
      let runs := ∃ z, s.tally.capture = some z ∧ z.stream = i
      let unlocked := ∃ u, s.mgmt.unlock = some u ∧ u.stream = i
      let ready := (s.stream i).state = .idle ∧ (s.stream i).last ≠ none ∧ (s.tallyOf i).cal ≠ none
      let w := match a.window with | none => 60 | some n => max 10 (min 300 n)
      (s.mgmt.calen = false → exec c s = answeredWith c q .locked s) ∧
      (s.mgmt.calen = true → runs → exec c s = answeredWith c q .inUse s) ∧
      (s.mgmt.calen = true → ¬runs → ¬unlocked → exec c s = answeredWith c q .locked s) ∧
      (s.mgmt.calen = true → ¬runs → unlocked → ¬ready → exec c s = answeredWith c q .badState s) ∧
      (s.mgmt.calen = true → ¬runs → unlocked → ready → exec c s = answeredDone c q { s with
        tally := { s.tally with capture := some ⟨i, w * 1000, 0, 0⟩ }
        mgmt := { s.mgmt with unlock := some ⟨i, w * 1000 + 10000, true⟩ } })) ∧
  (∀ s : State,
    (∀ u, s.mgmt.unlock = some u → u.held = false →
      exec .unlockExpiry s = happens { s with mgmt := { s.mgmt with unlock := none } }) ∧
    (∀ u c, s.mgmt.unlock = some u → u.held = true → s.tally.capture = some c →
      exec .unlockExpiry s = happens (endCapture (.aborted .unlockExpired) s)) ∧
    (s.mgmt.unlock = none → exec .unlockExpiry s = happens s))

/-- WRITE_CALIBRATION: refused BAD-INDEX, LOCKED, IN-USE or BAD-RECORD by R75's tests in their order; else the five
values, each clamped to its range, or the absent marker's absence, replace the record, the serial advances modulo 65,536
and the unlock ends; residue, counters and report stand (R75, R76). -/
def Obligations.CalibrationWriteTaken : Prop :=
  ∀ (q : Requester) (a : WriteArgs CalibrationWrite) (s : State), s.mgmt.restartLeft = none →
    let c := Instr.writeCalibration q (some a)
    (8 ≤ a.index → exec c s = answeredWith c q .badIndex s) ∧
    ∀ i : StreamIdx, i.val = a.index →
      let unlocked := ∃ u, s.mgmt.unlock = some u ∧ u.stream = i
      let runs := ∃ z, s.tally.capture = some z ∧ z.stream = i
      let stored (k : Option Calibration) : State :=
        { s.putTally i { s.tallyOf i with cal := k, serial := ((s.tallyOf i).serial + 1) % 65536 } with
          mgmt := { s.mgmt with unlock := none } }
      (s.mgmt.calen = false → exec c s = answeredWith c q .locked s) ∧
      (s.mgmt.calen = true → ¬unlocked → exec c s = answeredWith c q .locked s) ∧
      (s.mgmt.calen = true → unlocked → runs → exec c s = answeredWith c q .inUse s) ∧
      (s.mgmt.calen = true → unlocked → ¬runs → a.entry = none → exec c s = answeredDone c q (stored none)) ∧
      (∀ r, s.mgmt.calen = true → unlocked → ¬runs → a.entry = some r →
        ((r.span = none ∨ r.zero = none ∨ r.trim = none ∨ r.ceiling = none ∨ r.jump = none) →
          exec c s = answeredWith c q .badRecord s) ∧
        (∀ k z t l j, r = ⟨some k, some z, some t, some l, some j⟩ →
          exec c s = answeredDone c q (stored (some ⟨max 1 (min 1000000 k), min 65535 z, max (-2000) (min 2000 t),
            max 1 (min 16000000 l), min 16000000 j⟩))))

/-! ## Requests (09) -/

/-- The READs, outside the restart interval: BAD-INDEX for a start outside the table, BAD-RECORD for a count outside
1..8, FULL when the own-frame queue has room for fewer parts than the reply needs; else the entries from the start on,
wrapping, as they stand, then the owners' read effects, and the REPLY with table code, start, count and entries
(R163 to R165; R47 and R175 for the effects). A refused READ has no read effect. And the bytes of an entry of each of the
thirteen tables, field by field: a presence byte, an absent record being that byte alone, then the fields in the order of
the owning rule, numbers most significant byte first, an optional field behind a presence byte of its own, a list behind a
count byte, named values by their place in the list that names them, sets as their bits (R1, R4, R8, R22, R25, R26, R45,
R47, R70, R77, R82, R84, R105, R106, R108, R129, R145, R158, R164, R175). The order of the fields and their presence bytes
are the model's reading (log 13), and where the encodings name no form, its choice (log 40); that the parts a reply needs
are its length over 44, rounded up, is log 44's. -/
def Obligations.ReadsAnswered : Prop :=
  (∀ (c : Instr) (q : Requester) (a : ReadArgs) (code size : Nat) (s : State),
    readRow? c = some (q, a, code, size) → s.mgmt.restartLeft = none →
    let data := readReply code size a s
    let room := 24 - s.loop.own.length
    (size ≤ a.start → exec c s = answeredWith c q .badIndex s) ∧
    (a.start < size → a.count = 0 ∨ 8 < a.count → exec c s = answeredWith c q .badRecord s) ∧
    (a.start < size → 1 ≤ a.count → a.count ≤ 8 → room < (data.length + 43) / 44 →
      exec c s = answeredWith c q .full s) ∧
    (a.start < size → 1 ≤ a.count → a.count ≤ 8 → (data.length + 43) / 44 ≤ room →
      exec c s = .next (finishRequest c
        (((List.range a.count).foldl (fun u k => readEffect code ((a.start + k) % size) u) s).placeReply q .done data)))) ∧
  ((∀ k n : Nat, (bytesOf k n).length = k ∧ natOfBytes (bytesOf k n) = n % 256 ^ k) ∧
    (∀ n : Nat, bytesOf 1 n = [BitVec.ofNat 8 n] ∧ bytesOf 2 n = [BitVec.ofNat 8 (n / 256), BitVec.ofNat 8 n]) ∧
    (∀ (α : Type) (enc : α → List Byte) (x : α) (l : List α),
      optBytes enc none = [0] ∧ optBytes enc (some x) = 1 :: enc x ∧
      listBytes enc l = BitVec.ofNat 8 l.length :: (l.map enc).flatten) ∧
    (∀ t : Int, trimBytes t = bytesOf 2 (t % 65536).toNat) ∧
    (∀ S : IdxSet 8, ∃ b, streamSetByte S = [b] ∧ ∀ i : Fin 8, b.getLsbD i.val = S.has i) ∧
    (∀ S : IdxSet 64, (segSetBytes S).length = 8 ∧ ∀ (j i : Fin 8) (g : Fin 64), g.val = 8 * j.val + i.val →
      ∃ b, (segSetBytes S)[j.val]? = some b ∧ b.getLsbD i.val = S.has g) ∧
    (∀ h : HoldSet, ∃ b, holdSetByte h = [b] ∧ b.toNat < 32 ∧ b.getLsbD 0 = h.operator ∧ b.getLsbD 1 = h.silent ∧
      b.getLsbD 2 = h.meter ∧ b.getLsbD 3 = h.noBin ∧ b.getLsbD 4 = h.segment)) ∧
  (∀ s : State,
    let flag (b : Bool) : List Byte := [if b = true then 1 else 0]
    let number (k : Nat) (o : Option Nat) := optBytes (bytesOf k) o
    let deliveries (l : List Delivery) := listBytes (fun d => bytesOf 1 d.bin.val ++ bytesOf 8 d.grams) l
    (∀ i : StreamIdx,
      let c := (s.stream i).config
      tableEntry 0 s i.val = [1] ++ number 1 c.meter ++ number 1 c.unloader ++ number 1 (c.intake.map (·.val)) ++
        bytesOf 2 c.gapLimit ++ bytesOf 2 c.silenceTime ++ bytesOf 2 c.unrouted) ∧
    (∀ i : StreamIdx,
      let t := s.tallyOf i
      let record (k : Calibration) := bytesOf 4 k.span ++ bytesOf 2 k.zero ++ trimBytes k.trim ++ bytesOf 4 k.ceiling ++
        bytesOf 4 k.jump
      let causes : List AbortCause := [.meterRestart, .demand, .meterFault, .gap, .gross, .leftIdle, .unlockExpired,
        .unlockReplaced, .enableLow, .restart]
      let report (r : CaptureReport) : List Byte :=
        (match r.outcome with | .done _ => [0, 0] | .aborted c => [1, 1] ++ bytesOf 1 (causes.idxOf c)) ++
        bytesOf 4 r.window ++ bytesOf 8 r.counts ++ bytesOf 4 r.time ++
        (match r.outcome with | .done z => [1] ++ bytesOf 2 z | .aborted _ => [0]) ++ bytesOf 2 r.serial
      ∀ unlock capture : List Byte,
        (∀ u, s.mgmt.unlock = some u → u.stream = i → unlock = [1] ++ bytesOf 4 u.left ++ flag u.held) →
        ((∀ u, s.mgmt.unlock = some u → u.stream ≠ i) → unlock = [0]) →
        (∀ z, s.tally.capture = some z → z.stream = i →
          capture = [1] ++ bytesOf 4 z.window ++ bytesOf 8 z.counts ++ bytesOf 4 z.time) →
        ((∀ z, s.tally.capture = some z → z.stream ≠ i) → capture = [0]) →
        tableEntry 1 s i.val = [1] ++ optBytes record t.cal ++ bytesOf 2 t.serial ++ bytesOf 8 t.residue ++
          flag s.mgmt.calen ++ unlock ++ capture ++ optBytes report t.report) ∧
    (∀ i : StreamIdx,
      let x := s.stream i
      let states : List StreamState := [.idle, .waiting, .feeding, .draining, .held]
      let last (l : LastSample) := bytesOf 1 l.seq ++ bytesOf 2 l.time ++ bytesOf 4 l.count ++ bytesOf 8 l.rate
      let lookup (k : Lookup) : List Byte := match k with | .noLot => [0] | .lot n => [1] ++ bytesOf 2 n
      let suspect (r : Suspect) := bytesOf 8 r.counts ++ bytesOf 1 r.firstSeq ++ bytesOf 1 r.lastSeq ++
        bytesOf 8 r.time ++ number 2 r.lot ++ number 1 (r.bin.map (·.val))
      ∀ active : List Byte,
        (∀ r y, x.activeRoute = some r → s.routeAt r = some y → active = [1] ++ bytesOf 1 r.val ++ bytesOf 1 y.bin.val) →
        ((∀ r, x.activeRoute = some r → s.routeAt r = none) → active = [0]) →
        tableEntry 2 s i.val = [1] ++ bytesOf 1 (states.idxOf x.state) ++ holdSetByte x.reasons ++ number 2 x.noBinLot ++
          segSetBytes x.faulted ++ number 2 x.currentLot ++ active ++ optBytes last x.last ++ flag x.fedAtLast ++
          optBytes lookup x.lastLookup ++ flag x.demand ++ flag x.silence.isSome ++ bytesOf 8 x.unassigned ++
          bytesOf 8 x.sinceRead ++ flag x.certifiedSinceRead ++ optBytes suspect x.suspect) ∧
    (∀ k : HoldIdx, tableEntry 3 s k.val = optBytes (fun e : HoldEntry =>
      bytesOf 1 e.hold ++ bytesOf 1 e.layer ++ bytesOf 2 e.lot) (s.lot.holdMap.get k)) ∧
    (∀ k : LotIdx,
      let states : List LotState := [.planned, .opened, .discharging, .closing]
      let closes : List CloseKind := [.requested, .plannedClose]
      (s.lotAt k = none → tableEntry 4 s k.val = [0]) ∧
      (∀ (l : Lot) (current : List Byte), s.lotAt k = some l →
        (∀ p d, l.current = some p → l.bins[p]? = some d → current = [1] ++ bytesOf 1 p ++ bytesOf 1 d.bin.val) →
        ((∀ p, l.current = some p → l.bins[p]? = none) → current = [0]) →
        tableEntry 4 s k.val = [1] ++ bytesOf 2 l.number ++ bytesOf 1 l.cls ++ number 4 l.declared ++
          bytesOf 1 l.tolerance ++ bytesOf 1 (states.idxOf l.state) ++ number 1 (l.closeKind.map closes.idxOf) ++
          deliveries l.bins ++ current ++ bytesOf 8 l.certified ++ bytesOf 8 l.uncertified ++
          streamSetByte l.attached ++ streamSetByte l.used ++ flag l.overrunReported ++ flag l.outturnFullReported)) ∧
    (∀ k : Fin 16,
      let closes : List CloseKind := [.requested, .plannedClose]
      tableEntry 5 s k.val = optBytes (fun r : Outturn => bytesOf 2 r.number ++ bytesOf 1 r.cls ++ number 4 r.declared ++
        bytesOf 8 r.certified ++ bytesOf 8 r.uncertified ++ streamSetByte r.used ++ deliveries r.deliveries ++
        bytesOf 1 (closes.idxOf r.closeKind)) s.lot.outturn[k.val]?) ∧
    (∀ k : RouteIdx,
      (s.routeAt k = none → tableEntry 6 s k.val = [0]) ∧
      (∀ (r : Route) (request active staging : List Byte), s.routeAt k = some r →
        (∀ before q after, s.alloc.queue = before ++ q :: after → q.route = some k → (∀ y ∈ before, y.route ≠ some k) →
          request = [1] ++ bytesOf 1 q.stream.val ++ flag q.granted) →
        ((∀ q ∈ s.alloc.queue, q.route ≠ some k) → request = [0]) →
        (∀ i, (s.stream i).activeRoute = some k → (∀ j < i, (s.stream j).activeRoute ≠ some k) →
          active = [1] ++ bytesOf 1 i.val) →
        ((∀ i, (s.stream i).activeRoute ≠ some k) → active = [0]) →
        (∀ i x, s.stagingOf i = some x → x.route = some k → (∀ j < i, ∀ y, s.stagingOf j = some y → y.route ≠ some k) →
          staging = [1] ++ bytesOf 1 i.val) →
        ((∀ i x, s.stagingOf i = some x → x.route ≠ some k) → staging = [0]) →
        tableEntry 6 s k.val = [1] ++ bytesOf 1 r.stream.val ++ bytesOf 1 r.bin.val ++
          listBytes (fun st : Step => bytesOf 1 st.segment.val ++ number 1 st.position) r.steps ++
          request ++ active ++ staging)) ∧
    (∀ g : SegIdx, tableEntry 7 s g.val = optBytes (fun c : SegConfig =>
      (match c.kind with
        | .conveyor => [0, 0, 0]
        | .diverter a _ => [1, 1] ++ bytesOf 1 a ++ [0]
        | .gate a b => [2, 1] ++ bytesOf 1 a ++ [1] ++ bytesOf 1 b.val) ++
      bytesOf 2 c.flushTime ++ bytesOf 1 c.travelLimit ++ bytesOf 1 c.shareLimit ++
      flag (match c.kind with | .diverter _ f => f | _ => false)) (s.seg g).config) ∧
    (∀ g : SegIdx,
      let x := s.seg g
      let states : List SegState := [.free, .setting, .ready, .carrying, .flushing, .closing, .fault]
      let kinds : List ResKind := [.active, .staged]
      tableEntry 8 s g.val = [1] ++ bytesOf 1 (states.idxOf x.state) ++ flag x.underFlow ++ number 2 x.owner ++
        number 1 (x.kind.map kinds.idxOf) ++ streamSetByte x.holders ++ streamSetByte x.feeders ++
        bytesOf 1 x.feeders.card ++ number 1 x.commanded ++ number 1 x.reported ++ flag x.unflushed ++
        number 4 x.flush ++ number 2 x.travel) ∧
    (∀ b : BinIdx, tableEntry 9 s b.val = optBytes (fun c : BinConfig =>
      bytesOf 4 c.capacity ++ number 1 c.gauge ++ bytesOf 2 c.high ++ bytesOf 2 c.preStage ++ bytesOf 2 c.resume ++
      bytesOf 2 c.empty) (s.bin b).config) ∧
    (∀ b : BinIdx,
      let x := s.bin b
      let states : List BinState := [.outOfService, .available, .filling, .full]
      let gauges : List GaugeState := [.ok, .lost]
      tableEntry 10 s b.val = [1] ++ bytesOf 1 (states.idxOf x.state) ++ number 1 x.cls ++ bytesOf 8 x.fill ++
        number 2 x.estimate ++ number 2 x.gaugeLevel ++ number 2 x.judged ++ bytesOf 1 (gauges.idxOf x.gaugeState) ++
        bytesOf 1 x.misses ++ flag x.pollOutstanding ++ number 2 x.pollTimer ++ flag x.nearFull ++
        number 1 (x.inletGate.map (·.val)) ++ flag x.gateCarrying ++ flag x.gateReserved) ∧
    (∀ k : Fin 18,
      let r := s.ind.events.get k
      tableEntry 11 s k.val = [1] ++ flag r.flag ++ bytesOf 1 r.count ++ bytesOf 1 r.source ++ flag r.mask) ∧
    (∀ i : StreamIdx, tableEntry 12 s i.val = [1] ++ bytesOf 1 (s.stream i).missed ++ bytesOf 1 (s.stream i).discarded ++
      bytesOf 1 (s.tallyOf i).overCount ++ bytesOf 1 (s.tallyOf i).jumpCount) ∧
    tableEntry 12 s 8 = [1] ++ bytesOf 1 s.loop.crc ++ bytesOf 1 s.loop.fwdDrop ++ bytesOf 1 s.loop.ownDrop ++
      bytesOf 1 s.loop.mgmtDrop)

/-- Every request is answered RESTARTING while the interval runs, RESTART too; outside it, arguments that do not fill the
request's fields, or a named value beyond its list, give BAD-RECORD, an unknown request code UNKNOWN, an unknown table
code, or a WRITE of a read-only table, BAD-TABLE; a refused request has no further effect (R163, R168). And what the bytes
of a request spell, for each request code: unknown request and table codes, the read-only tables; the numbers, patterns and
optional fields of a command's arguments; start and count of a READ; index and entry of a WRITE, the absent marker or a
record of the table, each of its fields behind a presence byte; bytes missing, bytes left over, a presence byte above 1, a
segment kind above 2 and a direction above 1 spell arguments that fail (R163, R164, R166, R167). Which row stands for a
request whose arguments fail is the model's choice (log 9), and so is the refusal of a flag byte above 1 (log 39). -/
def Obligations.RequestsRefusedBeforeTheirOwner : Prop :=
  (∀ (c : Instr) (q : Requester) (s : State), requester? c = some q → s.mgmt.restartLeft ≠ none →
    exec c s = answeredWith c q .restarting s) ∧
  (∀ (c : Instr) (q : Requester) (s : State), requester? c = some q → s.mgmt.restartLeft = none →
    malformed c = true → exec c s = answeredWith c q .badRecord s) ∧
  (∀ (q : Requester) (code : Byte) (table : ReadOnlyTable) (s : State), s.mgmt.restartLeft = none →
    exec (.unknownRequest q (.request code)) s = answeredWith (.unknownRequest q (.request code)) q .unknown s ∧
    exec (.unknownRequest q (.table code)) s = answeredWith (.unknownRequest q (.table code)) q .badTable s ∧
    exec (.writeReadOnlyTable q table) s = answeredWith (.writeReadOnlyTable q table) q .badTable s) ∧
  (∀ (src : Byte) (tag : BitVec 16) (args : List Byte),
    let q : Requester := ⟨src, tag⟩
    let d (code : Byte) (l : List Byte) := decodeRequest ⟨src, tag, code, l⟩
    (∀ code : Byte, code = 0 ∨ 18 < code.toNat → d code args = .unknownRequest q (.request code)) ∧
    (∀ table : Byte, 12 < table.toNat → d 1 (table :: args) = .unknownRequest q (.table table) ∧
      d 2 (table :: args) = .unknownRequest q (.table table)) ∧
    (d 2 (2 :: args) = .writeReadOnlyTable q .streamStatus ∧ d 2 (5 :: args) = .writeReadOnlyTable q .outturn ∧
      d 2 (8 :: args) = .writeReadOnlyTable q .segmentStatus ∧ d 2 (10 :: args) = .writeReadOnlyTable q .binStatus ∧
      d 2 (11 :: args) = .writeReadOnlyTable q .events ∧ d 2 (12 :: args) = .writeReadOnlyTable q .counters) ∧
    (d 1 [] = .readStreamConfig q none ∧ d 2 [] = .writeStreamConfig q none) ∧
    (let reads (a : Option ReadArgs) : List Instr := [.readStreamConfig q a, .readCalibration q a, .readStreamStatus q a,
        .readHoldMap q a, .readLot q a, .readOutturn q a, .readRoute q a, .readSegmentConfig q a,
        .readSegmentStatus q a, .readBinConfig q a, .readBinStatus q a, .readEvents q a, .readCounters q a]
      ∀ table : Fin 13,
        (∀ start count : Byte, (reads (some ⟨start.toNat, count.toNat⟩))[table.val]? =
          some (d 1 [BitVec.ofNat 8 table.val, start, count])) ∧
        (args.length ≠ 2 → (reads none)[table.val]? = some (d 1 (BitVec.ofNat 8 table.val :: args)))) ∧
    (∀ a b : Byte,
      let n := some (256 * a.toNat + b.toNat)
      d 3 [a, b] = .openLot q n ∧ d 4 [a, b] = .closeLot q n ∧ d 14 [a, b] = .releaseOutturn q n) ∧
    (args.length ≠ 2 → d 3 args = .openLot q none ∧ d 4 args = .closeLot q none ∧ d 14 args = .releaseOutturn q none) ∧
    (∀ a : Byte,
      let n := some a.toNat
      d 5 [a] = .holdStream q n ∧ d 6 [a] = .releaseStream q n ∧ d 7 [a] = .acceptSuspect q n ∧
      d 8 [a] = .discardSuspect q n ∧ d 9 [a] = .binEmptied q n ∧ d 11 [a] = .clearSegmentFault q n ∧
      d 10 [a, 0] = .binServiceOut q n ∧ d 10 [a, 1] = .binServiceIn q n) ∧
    (args.length ≠ 1 → d 5 args = .holdStream q none ∧ d 6 args = .releaseStream q none ∧
      d 7 args = .acceptSuspect q none ∧ d 8 args = .discardSuspect q none ∧ d 9 args = .binEmptied q none ∧
      d 11 args = .clearSegmentFault q none) ∧
    ((∀ a, args ≠ [a, 0] ∧ args ≠ [a, 1]) → d 10 args = .binServiceOut q none) ∧
    (∀ i a b : Byte, d 12 [i, a, b] = .unlockCalibration q (some ⟨i.toNat, 256 * a.toNat + b.toNat⟩)) ∧
    (args.length ≠ 3 → d 12 args = .unlockCalibration q none) ∧
    (∀ i a b : Byte, d 13 [i, 0] = .captureZero q (some ⟨i.toNat, none⟩) ∧
      d 13 [i, 1, a, b] = .captureZero q (some ⟨i.toNat, some (256 * a.toNat + b.toNat)⟩)) ∧
    ((∀ i a b, args ≠ [i, 0] ∧ args ≠ [i, 1, a, b]) → d 13 args = .captureZero q none) ∧
    (∀ a b c : Byte, d 15 [a, b, c] = .clearEvents q (some (a ++ b ++ c)) ∧
      d 16 [a, b, c] = .setMask q (some (a ++ b ++ c))) ∧
    (args.length ≠ 3 → d 15 args = .clearEvents q none ∧ d 16 args = .setMask q none) ∧
    (∀ (t m i : Byte),
      (t = 8 → d 17 [t, m, 0] = .setLampForce q (some ⟨false, m.toNat⟩) ∧
        d 17 [t, m, 1, i] = .setLampForce q (some ⟨false, m.toNat⟩)) ∧
      (t = 9 → d 17 [t, m, 0] = .setLampForce q (some ⟨true, m.toNat⟩) ∧
        d 17 [t, m, 1, i] = .setLampForce q (some ⟨true, m.toNat⟩)) ∧
      (t ≠ 8 → t ≠ 9 → d 17 [t, m, 0] = .setLampMode q (some ⟨t.toNat, m.toNat, none⟩) ∧
        d 17 [t, m, 1, i] = .setLampMode q (some ⟨t.toNat, m.toNat, some i.toNat⟩))) ∧
    ((∀ t m i, args ≠ [t, m, 0] ∧ args ≠ [t, m, 1, i]) → d 17 args = .setLampMode q none) ∧
    (d 18 [] = .restart q (some ())) ∧ (args ≠ [] → d 18 args = .restart q none)) ∧
  (let number (k : Nat) (o : Option Nat) := optBytes (bytesOf k) o
    let fits (k : Nat) (o : Option Nat) := ∀ n, o = some n → n < 256 ^ k
    WriteSpelled 0 .writeStreamConfig (fun r bytes =>
      fits 1 r.meter ∧ fits 1 r.unloader ∧ fits 1 r.intake ∧ fits 2 r.gapLimit ∧ fits 2 r.silenceTime ∧
      fits 2 r.unrouted ∧ bytes = number 1 r.meter ++ number 1 r.unloader ++ number 1 r.intake ++ number 2 r.gapLimit ++
        number 2 r.silenceTime ++ number 2 r.unrouted) ∧
    WriteSpelled 1 .writeCalibration (fun r bytes =>
      fits 4 r.span ∧ fits 2 r.zero ∧ fits 4 r.ceiling ∧ fits 4 r.jump ∧
      (∀ t, r.trim = some t → -32768 ≤ t ∧ t ≤ 32767) ∧
      bytes = number 4 r.span ++ number 2 r.zero ++ optBytes trimBytes r.trim ++ number 4 r.ceiling ++ number 4 r.jump) ∧
    WriteSpelled 3 .writeHoldMap (fun r bytes =>
      fits 1 r.hold ∧ fits 1 r.layer ∧ fits 2 r.lot ∧
      bytes = number 1 r.hold ++ number 1 r.layer ++ number 2 r.lot) ∧
    WriteSpelled 4 .writeLot (fun r bytes =>
      fits 2 r.number ∧ fits 1 r.cls ∧ fits 4 r.declared ∧ fits 1 r.tolerance ∧
      (∀ l, r.bins = some l → l.length < 256 ∧ ∀ n ∈ l, n < 256) ∧
      bytes = number 2 r.number ++ number 1 r.cls ++ number 4 r.declared ++ number 1 r.tolerance ++
        optBytes (listBytes (bytesOf 1)) r.bins) ∧
    WriteSpelled 6 .writeRoute (fun r bytes =>
      fits 1 r.stream ∧ fits 1 r.bin ∧
      (∀ l, r.steps = some l → l.length < 256 ∧ ∀ st ∈ l, (∃ g, st.segment = some g ∧ g < 256) ∧ fits 1 st.position) ∧
      bytes = number 1 r.stream ++ number 1 r.bin ++ optBytes (listBytes fun st : StepWrite =>
        bytesOf 1 (st.segment.getD 0) ++ number 1 st.position) r.steps) ∧
    WriteSpelled 7 .writeSegmentConfig (fun r bytes =>
      fits 1 r.actuator ∧ fits 1 r.bin ∧ fits 2 r.flushTime ∧ fits 1 r.travelLimit ∧ fits 1 r.shareLimit ∧
      bytes = optBytes (fun k : KindName => [match k with | .conveyor => 0 | .diverter => 1 | .gate => 2]) r.kind ++
        number 1 r.actuator ++ number 1 r.bin ++ number 2 r.flushTime ++ number 1 r.travelLimit ++
        number 1 r.shareLimit ++ optBytes (fun b : Bool => [if b = true then 1 else 0]) r.flowSwitch) ∧
    WriteSpelled 9 .writeBinConfig (fun r bytes =>
      fits 4 r.capacity ∧ fits 1 r.gauge ∧ fits 2 r.high ∧ fits 2 r.preStage ∧ fits 2 r.resume ∧ fits 2 r.empty ∧
      bytes = number 4 r.capacity ++ number 1 r.gauge ++ number 2 r.high ++ number 2 r.preStage ++ number 2 r.resume ++
        number 2 r.empty))

/-- MANAGE: the last MANAGE source is set; the frame joins the input buffer, a free unit taking the oldest in hand, or
with 4 waiting is dropped and MGMT-DROP counted; one from the station's own address is stripped (R150, R160, R161). And
what a step does with no command waiting, which is the model's choice (log 4) but for the processing of the request in hand
(R161): it takes reports left over; else it processes the frame in hand as the request its bytes spell; else it runs the
first command that time has brought about, a frame sent whole, an interval, an unlock or an armed timer with nothing left, in
a fixed order; else a character time passes: one character fewer of the frame being sent is left, and every hundredth time
each armed timer of a stream, a segment, a bin, the interval and the unlock, and each lamp's phase, has one millisecond
less. -/
def Obligations.ManageFramesTaken : Prop :=
  (∀ (src : Byte) (tag : BitVec 16) (code : Byte) (args : List Byte) (s : State),
      let c := Instr.manage src tag code args
      let f : MFrame := ⟨src, tag, code, args⟩
      let m := { s.mgmt with lastSource := some src }
      (src.toNat = s.loop.address → exec c s = happens s) ∧
      (src.toNat ≠ s.loop.address →
        (s.mgmt.input.length < 4 → s.mgmt.inHand ≠ none →
          exec c s = happens { s with mgmt := { m with input := s.mgmt.input ++ [f] } }) ∧
        (s.mgmt.input = [] → s.mgmt.inHand = none → exec c s = happens { s with mgmt := { m with inHand := some f } }) ∧
        (4 ≤ s.mgmt.input.length → exec c s = happens { s with
          mgmt := m, loop := { s.loop with mgmtDrop := min 255 (s.loop.mgmtDrop + 1) } }))) ∧
  (∀ s : State, s.pending = [] →
    let due (c : Instr) := match c with
      | .transmitEnd => s.loop.tx ≠ none ∧ s.loop.txLeft = 0
      | .restartIntervalEnd => s.mgmt.restartLeft = some 0
      | .unlockExpiry => ∃ u, s.mgmt.unlock = some u ∧ u.left = 0
      | .silenceTimerExpiry i => (s.stream i).silence = some 0
      | .permitTimerExpiry i => (s.stream i).permit = some 0
      | .drainTimerExpiry i => (s.stream i).drain = some 0
      | .travelTimerExpiry g => (s.seg g).travel = some 0
      | .flushTimerExpiry g => (s.seg g).flush = some 0
      | .pollTimerExpiry b => (s.bin b).pollTimer = some 0
      | .replyTimerExpiry b => (s.bin b).replyTimer = some 0
      | .lampPhaseEnd n => ∃ sh, (s.ind.lamps.get n).shown = some sh ∧ sh.pattern ≠ .off ∧ sh.pattern ≠ .steady ∧
          sh.left = 0
      | _ => False
    let rank (c : Instr) : Nat := match c with
      | .transmitEnd => 0
      | .restartIntervalEnd => 1
      | .unlockExpiry => 2
      | .silenceTimerExpiry i => 3 + 3 * i.val
      | .permitTimerExpiry i => 4 + 3 * i.val
      | .drainTimerExpiry i => 5 + 3 * i.val
      | .travelTimerExpiry g => 27 + 2 * g.val
      | .flushTimerExpiry g => 28 + 2 * g.val
      | .pollTimerExpiry b => 155 + 2 * b.val
      | .replyTimerExpiry b => 156 + 2 * b.val
      | .lampPhaseEnd n => 235 + n.val
      | _ => 243
    let sent := { s.loop with txLeft := s.loop.txLeft - 1 }
    let less (o : Option Nat) := o.map (· - 1)
    (s.agenda ≠ [] → step s = .next (refreshLamps (settle reportBound s))) ∧
    (∀ f, s.agenda = [] → s.mgmt.inHand = some f → step s = exec (decodeRequest f) s) ∧
    (s.agenda = [] → s.mgmt.inHand = none →
      (∀ c, due c → (∀ d, due d → rank c ≤ rank d) → step s = exec c s) ∧
      ((∀ c, ¬due c) → s.charTime < 99 → step s = .next { s with charTime := s.charTime + 1, loop := sent }) ∧
      ((∀ c, ¬due c) → 99 ≤ s.charTime → ∃ t, step s = .next t ∧
        (∀ i, t.stream i = { s.stream i with
          silence := less (s.stream i).silence, permit := less (s.stream i).permit, drain := less (s.stream i).drain }) ∧
        (∀ g, t.seg g = { s.seg g with flush := less (s.seg g).flush, travel := less (s.seg g).travel }) ∧
        (∀ b, t.bin b = { s.bin b with
          pollTimer := less (s.bin b).pollTimer, replyTimer := less (s.bin b).replyTimer }) ∧
        (∀ n, t.ind.lamps.get n = { s.ind.lamps.get n with
          shown := (s.ind.lamps.get n).shown.map fun sh => { sh with left := sh.left - 1 } }) ∧
        t = { s with
          charTime := 0, loop := sent, streams := t.streams, segs := t.segs, bins := t.bins
          mgmt := { s.mgmt with restartLeft := less s.mgmt.restartLeft
                                unlock := s.mgmt.unlock.map fun u => { u with left := u.left - 1 } }
          ind := { s.ind with lamps := t.ind.lamps } })))

/-! ## Table writes (01, 02, 05, 06, 07) -/

/-- WRITE_STREAM_CONFIG: R27's tests in their order; a taken record has its settings clamped, or at their reset values
where left out; another meter address makes the stream unprimed and forgets its lookup and demand; the absent marker is a
write of the reset values (R26, R27). -/
def Obligations.StreamConfigWriteTaken : Prop :=
  ∀ (q : Requester) (a : WriteArgs StreamConfigWrite) (s : State), s.mgmt.restartLeft = none →
    let c := Instr.writeStreamConfig q (some a)
    (8 ≤ a.index → exec c s = answeredWith c q .badIndex s) ∧
    ∀ i : StreamIdx, i.val = a.index →
      let x := s.stream i
      let inUse (k : StreamConfig) :=
        (x.config.intake ≠ k.intake ∧ ∃ r y, s.routeAt r = some y ∧ y.stream = i) ∨
        (x.config.meter ≠ k.meter ∧ ∃ z, s.tally.capture = some z ∧ z.stream = i)
      let taken (k : StreamConfig) :=
        (inUse k → exec c s = answeredWith c q .inUse s) ∧
        (¬inUse k → x.config.meter = k.meter → exec c s = answeredDone c q (s.putStream i { x with config := k })) ∧
        (¬inUse k → x.config.meter ≠ k.meter → exec c s = answeredDone c q (s.putStream i
          { x with config := k, last := none, lastLookup := none, demand := false }))
      (x.state ≠ .idle → exec c s = answeredWith c q .badState s) ∧
      (x.state = .idle → a.entry = none → taken ⟨none, none, none, 1000, 1500, 50⟩) ∧
      (∀ r, x.state = .idle → a.entry = some r →
        let bad := (∃ n, r.meter = some n ∧ 62 < n) ∨ (∃ n, r.unloader = some n ∧ 62 < n) ∨
          (∃ n, r.intake = some n ∧ 63 < n) ∨ (r.meter ≠ none ∧ (r.unloader = none ∨ r.intake = none))
        let duplicate := (∃ n j, r.meter = some n ∧ j ≠ i ∧ (s.stream j).config.meter = some n) ∨
          (∃ n j g, r.intake = some n ∧ g.val = n ∧ j ≠ i ∧ (s.stream j).config.meter ≠ none ∧
            (s.stream j).config.intake = some g)
        (bad → exec c s = answeredWith c q .badRecord s) ∧
        (¬bad → duplicate → exec c s = answeredWith c q .duplicate s) ∧
        (¬bad → ¬duplicate → ∀ k : StreamConfig, k.meter = r.meter → k.unloader = r.unloader →
          k.intake.map (·.val) = r.intake →
          k.gapLimit = (r.gapLimit.map fun n => max 300 (min 4000 n)).getD 1000 →
          k.silenceTime = (r.silenceTime.map fun n => max 250 (min 8000 n)).getD 1500 →
          k.unrouted = (r.unrouted.map fun n => min 65535 n).getD 50 → taken k))

/-- WRITE_HOLD_MAP: an index outside 0..47 is BAD-INDEX; a record that lacks a field, or has one outside its range,
BAD-RECORD; one whose key a present entry at another index has, DUPLICATE; else it replaces whatever stood at the index,
and the absent marker makes the entry absent, in every state of every stream and lot, no stream, lot or route changing
(R2). -/
def Obligations.HoldMapWriteTaken : Prop :=
  ∀ (q : Requester) (a : WriteArgs HoldWrite) (s : State), s.mgmt.restartLeft = none →
    let c := Instr.writeHoldMap q (some a)
    (48 ≤ a.index → exec c s = answeredWith c q .badIndex s) ∧
    ∀ i : HoldIdx, i.val = a.index →
      (a.entry = none → exec c s = answeredDone c q
        { s with lot := { s.lot with holdMap := s.lot.holdMap.set i none } }) ∧
      (∀ r, a.entry = some r →
        (¬(∃ h l n, r = ⟨some h, some l, some n⟩ ∧ h ≤ 31 ∧ l ≤ 3 ∧ 1 ≤ n ∧ n ≤ 65535) →
          exec c s = answeredWith c q .badRecord s) ∧
        (∀ h l n, r = ⟨some h, some l, some n⟩ → h ≤ 31 → l ≤ 3 → 1 ≤ n → n ≤ 65535 →
          ((∃ j e, j ≠ i ∧ s.lot.holdMap.get j = some e ∧ e.hold = h ∧ e.layer = l) →
            exec c s = answeredWith c q .duplicate s) ∧
          ((∀ j e, j ≠ i → s.lot.holdMap.get j = some e → ¬(e.hold = h ∧ e.layer = l)) →
            exec c s = answeredDone c q
              { s with lot := { s.lot with holdMap := s.lot.holdMap.set i (some ⟨h, l, n⟩) } })))

/-- WRITE_LOT: R5's tests in their order for an absent entry; R6's for a PLANNED, OPEN, DISCHARGING or CLOSING one; R7's
answers to the absent marker. A loaded record is PLANNED with its grams 0, its sets empty and its flags clear, mass and
tolerance clamped; a running lot takes the declaration and the appended bins, the overrun check when the declaration
changes, and the choice of an absent current bin, in that order, which is the model's choice (log 34; R5, R6, R7, R17,
R21). -/
def Obligations.LotWriteTaken : Prop :=
  ∀ (q : Requester) (a : WriteArgs LotWrite) (s : State), s.mgmt.restartLeft = none →
    let c := Instr.writeLot q (some a)
    (32 ≤ a.index → exec c s = answeredWith c q .badIndex s) ∧
    ∀ i : LotIdx, i.val = a.index →
      (a.entry = none →
        (s.lotAt i = none → exec c s = answeredDone c q s) ∧
        (∀ l, s.lotAt i = some l →
          (l.state = .planned → exec c s = answeredDone c q (s.putLot i none)) ∧
          (l.state = .opened ∨ l.state = .discharging → exec c s = answeredWith c q .inUse s) ∧
          (l.state = .closing → exec c s = answeredWith c q .badState s))) ∧
      (∀ w, a.entry = some w →
        let sound (n k : Nat) (bins : List BinIdx) := w.number = some n ∧ n ≠ 0 ∧ w.cls = some k ∧ k ≤ 15 ∧
          w.bins = some (bins.map (·.val)) ∧ 1 ≤ bins.length ∧ bins.length ≤ 8 ∧ bins.Nodup
        (¬(∃ n k bins, sound n k bins) → exec c s = answeredWith c q .badRecord s) ∧
        ∀ n k bins, sound n k bins →
          let declared := w.declared.map fun m => max 1 (min 4000000000 m)
          let tolerance := (w.tolerance.map fun m => min 100 m).getD 5
          let held := (∃ j l, j ≠ i ∧ s.lotAt j = some l ∧ l.number = n) ∨ (∃ r ∈ s.lot.outturn, r.number = n)
          let named := (∃ g, (s.seg g).state ≠ .free ∧ (s.seg g).owner = some n) ∨
            (∃ j r, (s.stream j).suspect = some r ∧ r.lot = some n)
          let loaded := s.putLot i (some
            { number := n, cls := k, declared := declared, tolerance := tolerance, state := .planned
              closeKind := none, bins := bins.map fun b => ⟨b, 0⟩, current := none, certified := 0, uncertified := 0
              attached := IdxSet.empty 8, used := IdxSet.empty 8, overrunReported := false
              outturnFullReported := false })
          (s.lotAt i = none →
            (held → exec c s = answeredWith c q .duplicate s) ∧
            (¬held → named → exec c s = answeredWith c q .inUse s) ∧
            (¬held → ¬named → exec c s = answeredDone c q loaded)) ∧
          (∀ l, s.lotAt i = some l →
            (l.state = .planned →
              (n ≠ l.number → held → exec c s = answeredWith c q .duplicate s) ∧
              (n ≠ l.number → ¬held → named → exec c s = answeredWith c q .inUse s) ∧
              (n = l.number ∨ (¬held ∧ ¬named) → exec c s = answeredDone c q loaded)) ∧
            (l.state = .closing → exec c s = answeredWith c q .badState s) ∧
            (l.state = .opened ∨ l.state = .discharging →
              let follows := n = l.number ∧ k = l.cls ∧ l.bins.map (·.bin) <+: bins
              let extended := s.putLot i (some { l with
                declared := declared, tolerance := tolerance
                bins := l.bins ++ (bins.drop l.bins.length).map fun b => ⟨b, 0⟩ })
              (¬follows → exec c s = answeredWith c q .inUse s) ∧
              (follows → l.declared = declared → l.tolerance = tolerance →
                exec c s = answeredDone c q (chooseCurrent i extended)) ∧
              (follows → ¬(l.declared = declared ∧ l.tolerance = tolerance) →
                exec c s = answeredDone c q (chooseCurrent i (overrunAfterWrite i extended))))))

/-- WRITE_ROUTE: R107's tests in their order; the route stored has the record's stream and bin, starts at the stream's
intake segment, ends at the bin's inlet gate, and names configured segments, none twice, each at a position its kind takes;
a taken write is an occasion for an evaluation pass (R106, R107, R115). That a GATE step without a position is refused is
the model's choice (log 38). -/
def Obligations.RouteWriteTaken : Prop :=
  ∀ (q : Requester) (a : WriteArgs RouteWrite) (s : State), s.mgmt.restartLeft = none →
    let c := Instr.writeRoute q (some a)
    (96 ≤ a.index → exec c s = answeredWith c q .badIndex s) ∧
    ∀ k : RouteIdx, k.val = a.index →
      let referenced := (∃ r ∈ s.alloc.queue, r.route = some k) ∨ (∃ i, (s.stream i).activeRoute = some k) ∨
        (∃ i x, s.stagingOf i = some x ∧ x.route = some k)
      (referenced → exec c s = answeredWith c q .inUse s) ∧
      (¬referenced → a.entry = none → exec c s = answeredDone c q ((s.putRoute k none).occasion)) ∧
      (∀ w, ¬referenced → a.entry = some w →
        let sound (r : Route) (l : List StepWrite) :=
          w.stream = some r.stream.val ∧ w.bin = some r.bin.val ∧ w.steps = some l ∧
          2 ≤ r.steps.length ∧ r.steps.length ≤ 10 ∧ l.map (·.segment) = r.steps.map (fun st => some st.segment.val) ∧
          (r.steps.map (·.segment)).Nodup ∧
          (∃ g, (s.stream r.stream).config.intake = some g ∧ r.steps.head?.map (·.segment) = some g) ∧
          (∃ st act, r.steps.getLast? = some st ∧ (s.seg st.segment).segKind = some (.gate act r.bin)) ∧
          ∀ (j : Nat) (st : Step) (x : StepWrite), r.steps[j]? = some st → l[j]? = some x →
            ((s.seg st.segment).segKind = some .conveyor ∧ st.position = none) ∨
            (∃ act fl p, (s.seg st.segment).segKind = some (.diverter act fl) ∧ x.position = some p ∧ p ≤ 3 ∧
              st.position = some p) ∨
            (∃ act b, (s.seg st.segment).segKind = some (.gate act b) ∧ j + 1 = r.steps.length ∧
              x.position = some 1 ∧ st.position = some 1)
        ((¬∃ r l, sound r l) → exec c s = answeredWith c q .badRecord s) ∧
        (∀ r l, sound r l →
          let duplicate := ∃ j y, j ≠ k ∧ s.routeAt j = some y ∧ y.stream = r.stream ∧ y.bin = r.bin
          (duplicate → exec c s = answeredWith c q .duplicate s) ∧
          (¬duplicate → exec c s = answeredDone c q ((s.putRoute k (some r)).occasion))))

/-- WRITE_SEGMENT_CONFIG: R85's tests in their order; a stored record has its settings clamped, or at their defaults where
left out, fields its kind has not disregarded; another actuator station makes the reported position absent, and the bins
whose inlet gate the segment becomes or ceases to be learn of it (R84, R85, R132). A segment left without an actuator has
no commanded position (log 19). -/
def Obligations.SegmentConfigWriteTaken : Prop :=
  ∀ (q : Requester) (a : WriteArgs SegConfigWrite) (s : State), s.mgmt.restartLeft = none →
    let c := Instr.writeSegmentConfig q (some a)
    (64 ≤ a.index → exec c s = answeredWith c q .badIndex s) ∧
    ∀ g : SegIdx, g.val = a.index →
      let x := s.seg g
      let onRoute := ∃ r y st, s.routeAt r = some y ∧ st ∈ y.steps ∧ st.segment = g
      let marked (b : BinIdx) (v : Option SegIdx) (u : State) :=
        u.putBin b { u.bin b with inletGate := v, gateCarrying := false, gateReserved := false }
      let taken (k : Option SegConfig) (actuator : Option Nat) (bin : Option BinIdx) :=
        let y := { x with config := k, reported := if x.actuator = actuator then x.reported else none
                          commanded := if actuator = none then none else x.commanded }
        let s1 := s.putSeg g y
        let s2 := match x.gateBin with | some b => marked b none s1 | none => s1
        let s3 := match bin with | some b => marked b (some g) s2 | none => s2
        exec c s = answeredDone c q (if x.gateBin = bin then s1 else s3).occasion
      (x.state ≠ .free → exec c s = answeredWith c q .inUse s) ∧
      (x.state = .free → a.entry = none → onRoute → exec c s = answeredWith c q .inUse s) ∧
      (x.state = .free → a.entry = none → ¬onRoute → taken none none none) ∧
      (∀ w, x.state = .free → a.entry = some w →
        let limit := (w.travelLimit.map fun n => max 1 (min 60 n)).getD 12
        let share := (w.shareLimit.map fun n => max 1 (min 4 n)).getD 1
        let bad := w.kind = none ∨ w.flushTime = none ∨
          ((w.kind = some .diverter ∨ w.kind = some .gate) ∧ ∀ n, w.actuator = some n → 62 < n) ∨
          (w.kind = some .gate ∧ ∀ n, w.bin = some n → 39 < n)
        (bad → exec c s = answeredWith c q .badRecord s) ∧
        (∀ (kind : SegKind) (f : Nat), ¬bad → w.flushTime = some f →
          (w.kind = some .conveyor ∧ kind = .conveyor ∨
            (∃ n, w.kind = some .diverter ∧ w.actuator = some n ∧ kind = .diverter n (w.flowSwitch.getD false)) ∨
            (∃ n b, w.kind = some .gate ∧ w.actuator = some n ∧ w.bin = some b.val ∧ kind = .gate n b)) →
          let duplicate := (∃ n j, kind.actuator = some n ∧ j ≠ g ∧ (s.seg j).actuator = some n) ∨
            (∃ b j, kind.bin = some b ∧ j ≠ g ∧ (s.seg j).gateBin = some b)
          let changed := (s.seg g).segKind.map SegKind.name ≠ some kind.name ∨ x.gateBin ≠ kind.bin
          (duplicate → exec c s = answeredWith c q .duplicate s) ∧
          (¬duplicate → onRoute → changed → exec c s = answeredWith c q .inUse s) ∧
          (¬duplicate → ¬(onRoute ∧ changed) →
            taken (some ⟨kind, min 6000 f, limit, share⟩) kind.actuator kind.bin)))

/-- WRITE_BIN_CONFIG: R130's tests in their order; the capacity, then high, pre-stage, resume and empty, each clamped
within the one before it; another gauge station resets the gauge and polls afresh; the bin is judged; the absent marker
makes the bin OUT-OF-SERVICE with its levels absent, fill and class standing; every taken write is reported (R129, R130,
R137). -/
def Obligations.BinConfigWriteTaken : Prop :=
  ∀ (q : Requester) (a : WriteArgs BinConfigWrite) (s : State), s.mgmt.restartLeft = none →
    let c := Instr.writeBinConfig q (some a)
    (40 ≤ a.index → exec c s = answeredWith c q .badIndex s) ∧
    ∀ b : BinIdx, b.val = a.index →
      let x := s.bin b
      let gateHeld := ∃ g, x.inletGate = some g ∧ (s.seg g).state ≠ .free
      let fresh := { x with gaugeLevel := none, gaugeState := .ok, misses := 0, pollOutstanding := false
                            replyTimer := none }
      (a.entry = none → gateHeld → exec c s = answeredWith c q .inUse s) ∧
      (a.entry = none → ¬gateHeld → exec c s = answeredDone c q ((s.putBin b
        { fresh with config := none, state := .outOfService, pollTimer := none, nearFull := false, estimate := none
                     judged := none }).emit (.bin b))) ∧
      (∀ w, a.entry = some w →
        let bad := w.capacity = none ∨ ∃ n, w.gauge = some n ∧ 62 < n
        let duplicate := ∃ n j k, w.gauge = some n ∧ j ≠ b ∧ (s.bin j).config = some k ∧ k.gauge = some n
        (bad → exec c s = answeredWith c q .badRecord s) ∧
        (¬bad → duplicate → exec c s = answeredWith c q .duplicate s) ∧
        (∀ n, ¬bad → ¬duplicate → w.capacity = some n →
          let high := max 3 (min 1000 (w.high.getD 950))
          let preStage := max 2 (min high (w.preStage.getD 880))
          let resume := max 1 (min (preStage - 1) (w.resume.getD 800))
          let empty := min (resume - 1) (w.empty.getD 5)
          let k : BinConfig := ⟨max 1 (min 20000000 n), w.gauge, high, preStage, resume, empty⟩
          let polled := w.gauge ≠ none ∧ x.state ≠ .outOfService
          (x.config.bind (·.gauge) = w.gauge →
            exec c s = answeredDone c q ((judgeBin b (s.putBin b { x with config := some k })).emit (.bin b))) ∧
          (x.config.bind (·.gauge) ≠ w.gauge →
            (polled → exec c s = answeredDone c q ((judgeBin b (s.putBin b
              { fresh with config := some k, pollTimer := some 0 })).emit (.bin b))) ∧
            (¬polled → exec c s = answeredDone c q ((judgeBin b (s.putBin b
              { fresh with config := some k, pollTimer := none })).emit (.bin b))))))

/-! ## Lots and streams (01, 02) -/

/-- The current bin of a lot is chosen as the first entry usable for it, a configured bin AVAILABLE or FILLING and of class
EMPTY or the lot's, in list order from the start; advanced to the first usable entry from the one after it on, wrapping and
trying it last; and the next bin for staging is found by the same search without the current entry itself (R16 to R18,
R120). The report of a bin is an occasion for a pass and has the lots examined from table index 0 on: the lowest OPEN or
DISCHARGING one whose current bin it is and which can use it no longer advances, and one without a current bin whose list
holds it and which can now use it chooses; the change is reported ahead of the examination that goes on behind that lot, and
with no such lot nothing happens (R16 to R19, R115). -/
def Obligations.CurrentBinSearch : Prop :=
  (∀ (s : State) (l : Lot),
      let good (p : Nat) := ∃ d c, l.bins[p]? = some d ∧ (s.bin d.bin).config = some c ∧
        ((s.bin d.bin).state = .available ∨ (s.bin d.bin).state = .filling) ∧
        ((s.bin d.bin).cls = none ∨ (s.bin d.bin).cls = some l.cls)
      (∀ p, firstUsable s l = some p ↔ p < l.bins.length ∧ good p ∧ ∀ j < p, ¬good j) ∧
      (firstUsable s l = none ↔ ∀ p < l.bins.length, ¬good p) ∧
      (∀ p r, p < l.bins.length → (nextUsable s l p = some r ↔
        ∃ k < l.bins.length, r = (p + 1 + k) % l.bins.length ∧ good r ∧
          ∀ j < k, ¬good ((p + 1 + j) % l.bins.length))) ∧
      (∀ p, p < l.bins.length → (nextUsable s l p = none ↔ ∀ j < l.bins.length, ¬good j)) ∧
      (∀ p b, p < l.bins.length → l.current = some p → (l.nextBin s = some b ↔
        ∃ k d, k + 1 < l.bins.length ∧ l.bins[(p + 1 + k) % l.bins.length]? = some d ∧ d.bin = b ∧
          good ((p + 1 + k) % l.bins.length) ∧ ∀ j < k, ¬good ((p + 1 + j) % l.bins.length)))) ∧
  (∀ (s : State) (b : BinIdx) (i : Nat),
    let usable (l : Lot) := ∃ c, (s.bin b).config = some c ∧
      ((s.bin b).state = .available ∨ (s.bin b).state = .filling) ∧
      ((s.bin b).cls = none ∨ (s.bin b).cls = some l.cls)
    let concerned (k : LotIdx) := i ≤ k.val ∧ ∃ l, s.lotAt k = some l ∧ (l.state = .opened ∨ l.state = .discharging) ∧
      ((∃ p d, l.current = some p ∧ l.bins[p]? = some d ∧ d.bin = b ∧ ¬usable l) ∨
        (l.current = none ∧ (∃ d ∈ l.bins, d.bin = b) ∧ usable l))
    let moved (k : LotIdx) (l : Lot) (new : Option Nat) :=
      let bin := new.bind fun p => l.bins[p]?.map (·.bin)
      ((s.putLot k (some { l with current := new })).emit (.currentBin l.number bin)).emit (.examineLots b (k.val + 1))
    takeReport (.bin b) s = s.occasion.emit (.examineLots b 0) ∧
    ((∀ k, ¬concerned k) → takeReport (.examineLots b i) s = s) ∧
    (∀ k l, concerned k → (∀ j < k, ¬concerned j) → s.lotAt k = some l →
      (∀ p, l.current = some p → takeReport (.examineLots b i) s = moved k l (nextUsable s l p)) ∧
      (l.current = none → ∃ p, firstUsable s l = some p ∧ takeReport (.examineLots b i) s = moved k l (some p))))

/-- OPEN_LOT: NOT-FOUND for a number not in the lot table, BAD-STATE for a lot not PLANNED; a PLANNED lot becomes OPEN with
the first usable bin of its list as its current bin, reported, or without one when none is usable (R9, R17, R19). -/
def Obligations.OpenLotTaken : Prop :=
  ∀ (q : Requester) (n : Nat) (s : State), s.mgmt.restartLeft = none →
    let c := Instr.openLot q (some n)
    ((∀ i l, s.lotAt i = some l → l.number ≠ n) → exec c s = answeredWith c q .notFound s) ∧
    ∀ i l, LotLaw s → s.lotAt i = some l → l.number = n →
      (l.state ≠ .planned → exec c s = answeredWith c q .badState s) ∧
      (l.state = .planned → l.current = none →
        (∀ p, firstUsable s l = some p → exec c s = answeredDone c q
          ((s.putLot i (some { l with state := .opened, current := some p })).emit
            (.currentBin n (l.bins[p]?.map (·.bin))))) ∧
        (firstUsable s l = none → exec c s = answeredDone c q (s.putLot i (some { l with state := .opened }))))

/-- CLOSE_LOT: NOT-FOUND for a number not in the lot table, BAD-STATE for a lot already CLOSING; an OPEN or PLANNED lot
without streams, queued requests or streams held for it enters CLOSING, by request or as PLANNED-CLOSE, and completes at
once into a free out-turn slot, OUTTURN-READY naming the slot, or waits, OUTTURN-FULL naming the lot's index (R12 to R14).
Any lot closed has its queued requests removed; its FEEDING streams enter DRAINING and its WAITING ones become IDLE,
DRAINING ones go on, in ascending stream number, with the lot already CLOSING, and NO-BIN leaves the streams held for it
(R12, R39, R127). The ascending order of the streams is the model's choice (log 32). -/
def Obligations.CloseLotTaken : Prop :=
  (∀ (q : Requester) (n : Nat) (s : State), s.mgmt.restartLeft = none →
    let c := Instr.closeLot q (some n)
    ((∀ i l, s.lotAt i = some l → l.number ≠ n) → exec c s = answeredWith c q .notFound s) ∧
    ∀ i l, LotLaw s → s.lotAt i = some l → l.number = n →
      (l.state = .closing → exec c s = answeredWith c q .badState s) ∧
      (l.state ≠ .closing → l.attached.isEmpty = true → (∀ r ∈ s.alloc.queue, r.lot ≠ n) →
        (∀ j, (s.stream j).currentLot ≠ some n ∧ (s.stream j).noBinLot ≠ some n) →
        let kind := if l.state = .planned then CloseKind.plannedClose else .requested
        (s.lot.outturn.length < 16 → exec c s = answeredDone c q
          (raise .outturnReady s.lot.outturn.length ((s.putOutturn (s.lot.outturn ++
            [⟨n, l.cls, l.declared, l.certified, l.uncertified, l.used, l.bins, kind⟩])).putLot i none))) ∧
        (16 ≤ s.lot.outturn.length → exec c s = answeredDone c q
          (raise .outturnFull i.val (s.putLot i (some
            { l with state := .closing, closeKind := some kind, outturnFullReported := true })))))) ∧
  (∀ (q : Requester) (n : Nat) (s : State) (i : LotIdx) (l : Lot), s.mgmt.restartLeft = none → LotLaw s →
    s.lotAt i = some l → l.number = n → l.state ≠ .closing →
    let c := Instr.closeLot q (some n)
    let kind := if l.state = .planned then CloseKind.plannedClose else .requested
    let closed := s.putLot i (some { l with state := .closing, closeKind := some kind, outturnFullReported := false })
    let entered := if l.attached.isEmpty = true then completionTest i closed else closed
    let cleared := (s.alloc.queue.filter fun r => r.lot == n).foldl (fun u r => removeRequest r.stream u) entered
    exec c s = answeredDone c q ((List.finRange 8).foldl (fun u j => freeHeldFor n j u)
      ((List.finRange 8).foldl (fun u j => closeStream n j u) cleared)) ∧
    (∀ j u, ((u.stream j).currentLot ≠ some n → closeStream n j u = u) ∧
      ((u.stream j).currentLot = some n →
        ((u.stream j).state = .feeding → closeStream n j u = enterDraining j u) ∧
        ((u.stream j).state = .waiting → closeStream n j u = becomeIdle j (removeRequest j u)) ∧
        ((u.stream j).state = .draining → closeStream n j u = u))) ∧
    (∀ j u, ((u.stream j).noBinLot ≠ some n → freeHeldFor n j u = u) ∧
      ((u.stream j).noBinLot = some n → freeHeldFor n j u = removeReason j (.noBin n) u)))

/-- RELEASE_OUTTURN: NOT-FOUND for a number not in the out-turn list; else its record is removed, the records behind it
closing up, and the waiting CLOSING lot at the lowest index, if any, completes into the freed slot (R23, R24). -/
def Obligations.ReleaseOutturnTaken : Prop :=
  ∀ (q : Requester) (n : Nat) (s : State), s.mgmt.restartLeft = none →
    let c := Instr.releaseOutturn q (some n)
    ((∀ r ∈ s.lot.outturn, r.number ≠ n) → exec c s = answeredWith c q .notFound s) ∧
    (∀ before r after, s.lot.outturn = before ++ r :: after → r.number = n →
      (∀ x ∈ before ++ after, x.number ≠ n) →
      let waits (k : LotIdx) := ∃ l, s.lotAt k = some l ∧ l.state = .closing ∧ l.attached.isEmpty = true
      let rest := before ++ after
      ((∀ k, ¬waits k) → exec c s = answeredDone c q (s.putOutturn rest)) ∧
      (∀ k l, s.lotAt k = some l → l.state = .closing → l.attached.isEmpty = true → (∀ j < k, ¬waits j) →
        rest.length < 16 → exec c s = answeredDone c q
          (raise .outturnReady rest.length ((s.putOutturn (rest ++
            [⟨l.number, l.cls, l.declared, l.certified, l.uncertified, l.used, l.bins,
              l.closeKind.getD .requested⟩])).putLot k none))))

/-- HOLD_STREAM adds OPERATOR to the stream's set and RELEASE_STREAM removes it; each is BAD-INDEX outside 0..7 and DONE
otherwise; a hold of a stream already holding OPERATOR, and a release of one that does not hold it, change nothing; and an
unused stream, IDLE without reasons, goes to HELD on hold, and returns to IDLE on release (R40). -/
def Obligations.HoldAndReleaseStream : Prop :=
  ∀ (q : Requester) (s : State), s.mgmt.restartLeft = none →
    (∀ n, 8 ≤ n → exec (.holdStream q (some n)) s = answeredWith (.holdStream q (some n)) q .badIndex s ∧
      exec (.releaseStream q (some n)) s = answeredWith (.releaseStream q (some n)) q .badIndex s) ∧
    ∀ i : StreamIdx,
      let ch := Instr.holdStream q (some i.val)
      let cr := Instr.releaseStream q (some i.val)
      let x := s.stream i
      (x.reasons.operator = true → exec ch s = answeredDone ch q s) ∧
      (x.reasons.operator = false → exec ch s = answeredDone ch q (addReason i .operator s)) ∧
      (x.reasons.operator = false → exec cr s = answeredDone cr q s) ∧
      (x.reasons.operator = true → exec cr s = answeredDone cr q (removeReason i .operator s)) ∧
      (x.config.meter = none → x.state = .idle → x.reasons = HoldSet.none → x.currentLot = none →
        (∀ u, s.mgmt.unlock = some u → u.stream ≠ i) →
        exec ch s = answeredDone ch q (refreshLamps (s.putStream i { x with
          state := .held, reasons := { HoldSet.none with operator := true }, fromIdle := true, silence := none
          activeRoute := none }))) ∧
      (x.config.meter = none → x.state = .held → x.reasons = { HoldSet.none with operator := true } →
        x.fromIdle = true → x.currentLot = none →
        exec cr s = answeredDone cr q (refreshLamps (s.putStream i { x with
          state := .idle, reasons := HoldSet.none, fromIdle := false, silence := none, activeRoute := none })))

/-- A hold reason that is added joins the set and acts by the stream's state: IDLE, any unlock for it ending, goes to HELD
with the held-from-idle mark, clear for NO-BIN; WAITING loses its request, is detached and goes to HELD with the mark clear;
FEEDING enters DRAINING; DRAINING and HELD stay, all three attached to their lot as before. A segment joins the
faulted-segment set whether or not SEGMENT was there (R11, R37). A reason that is removed leaves the set, NO-BIN with its
lot, and SEGMENT with the last of its segments; a HELD stream whose set thereby becomes empty leaves HELD, to IDLE with the
held-from-idle mark and else by the exit test; in any other state, DRAINING among them, and while reasons remain, the stream
stays; and the removal of a reason that is not in the set changes nothing (R39). -/
def Obligations.AddedReasonActsByState : Prop :=
  (∀ (s : State) (i : StreamIdx) (r : HoldReason),
      let x := s.stream i
      let joined := s.putStream i (x.withReason r)
      ((x.withReason r).reasons = (match r with
        | .operator => { x.reasons with operator := true }
        | .silent => { x.reasons with silent := true }
        | .meter => { x.reasons with meter := true }
        | .noBin _ => { x.reasons with noBin := true }
        | .segment _ => { x.reasons with segment := true })) ∧
      (∀ g h, r = .segment g → ((x.withReason r).faulted.has h = true ↔ h = g ∨ x.faulted.has h = true)) ∧
      (x.state = .idle →
        ((addReason i r s).stream i).state = .held ∧ ((addReason i r s).stream i).reasons = (x.withReason r).reasons ∧
        (((addReason i r s).stream i).fromIdle = true ↔ ∀ n, r ≠ .noBin n) ∧
        ((addReason i r s).stream i).currentLot = none ∧ ((addReason i r s).stream i).silence = none ∧
        (∀ u, s.mgmt.unlock = some u → u.stream = i → (addReason i r s).mgmt.unlock = none)) ∧
      (x.state = .waiting →
        ((addReason i r s).stream i).state = .held ∧ ((addReason i r s).stream i).reasons = (x.withReason r).reasons ∧
        ((addReason i r s).stream i).fromIdle = false ∧ ((addReason i r s).stream i).currentLot = none ∧
        ((addReason i r s).stream i).silence = none ∧
        (∀ y ∈ (addReason i r s).alloc.queue, y.stream ≠ i) ∧
        (∀ n, x.currentLot = some n → (addReason i r s).lot = (detach n i s).lot) ∧
        (x.currentLot = none → (addReason i r s).lot = s.lot)) ∧
      (x.state = .feeding →
        addReason i r s = enterDraining i joined ∧
        ((addReason i r s).stream i).state = .draining ∧ ((addReason i r s).stream i).permit = none ∧
        ((addReason i r s).stream i).currentLot = x.currentLot ∧
        ((addReason i r s).stream i).activeRoute = x.activeRoute ∧ (addReason i r s).stagingOf i = none ∧
        (addReason i r s).lot = s.lot) ∧
      (x.state = .draining ∨ x.state = .held → addReason i r s = joined)) ∧
  (∀ (s : State) (i : StreamIdx) (r : HoldReason),
    let x := s.stream i
    let y := x.withoutReason r
    let left := s.putStream i y
    (y = { x with reasons := y.reasons, faulted := y.faulted, noBinLot := y.noBinLot } ∧
      (r = .operator → y = { x with reasons := { x.reasons with operator := false } }) ∧
      (r = .silent → y = { x with reasons := { x.reasons with silent := false } }) ∧
      (r = .meter → y = { x with reasons := { x.reasons with meter := false } }) ∧
      (∀ n, r = .noBin n → y = { x with reasons := { x.reasons with noBin := false }, noBinLot := none }) ∧
      (∀ g, r = .segment g → y.noBinLot = x.noBinLot ∧
        (∀ h, y.faulted.has h = true ↔ x.faulted.has h = true ∧ h ≠ g) ∧
        ((∃ h, x.faulted.has h = true ∧ h ≠ g) → y.reasons = x.reasons) ∧
        ((∀ h, x.faulted.has h = true → h = g) → y.reasons = { x.reasons with segment := false }))) ∧
    (x.state = .held → x.reasons ≠ HoldSet.none → y.reasons = HoldSet.none →
      (x.fromIdle = true → removeReason i r s = becomeIdle i left) ∧
      (x.fromIdle = false → removeReason i r s = exitTest i left)) ∧
    (x.state ≠ .held ∨ x.reasons = HoldSet.none ∨ y.reasons ≠ HoldSet.none → removeReason i r s = left) ∧
    (x.Law → (match r with
        | .operator => x.reasons.operator = false
        | .silent => x.reasons.silent = false
        | .meter => x.reasons.meter = false
        | .noBin _ => x.reasons.noBin = false
        | .segment g => x.faulted.has g = false) → removeReason i r s = s))

/-- The exit test: with reasons, HELD; else with demand 1, a lookup that qualifies, a calibration record and a current bin
of the lot, WAITING for it with a request queued, staying attached to the same lot, or detached from its old lot and
attached to the new one; without that bin HELD with NO-BIN naming the lot; else IDLE; in every case but WAITING, detached
(R33). Attaching puts the stream in the attached and the used set of a lot OPEN or DISCHARGING, which is DISCHARGING from
then on; detaching takes it from the attached set, and the last one makes a DISCHARGING lot OPEN, and completes a CLOSING
one into a free out-turn slot, OUTTURN-READY naming the slot, or leaves it waiting, OUTTURN-FULL naming the lot's index once
(R10, R11, R14, R22). -/
def Obligations.ExitTestPlacesStream : Prop :=
  (∀ (s : State) (i : StreamIdx),
    let x := s.stream i
    let y := (exitTest i s).stream i
    let parted := match x.currentLot with | some m => detach m i s | none => s
    let wants (n : Nat) := x.demand = true ∧ x.lastLookup = some (.lot n) ∧
      (s.standing n = some (.inTable .opened) ∨ s.standing n = some (.inTable .discharging)) ∧ (s.tallyOf i).cal ≠ none
    (x.reasons ≠ HoldSet.none → y.state = .held ∧ y.reasons = x.reasons ∧ y.currentLot = none ∧ y.fromIdle = false ∧
      y.activeRoute = none ∧ (exitTest i s).alloc = s.alloc ∧ (exitTest i s).lot = parted.lot) ∧
    (∀ n b, x.reasons = HoldSet.none → wants n → s.currentBinOf n = some b →
      y.state = .waiting ∧ y.currentLot = some n ∧ y.silence = some x.config.silenceTime ∧ y.fromIdle = false ∧
      (exitTest i s).alloc.queue = s.alloc.queue ++ [⟨i, n, b, s.routeFor i b, false⟩] ∧
      (x.currentLot = some n → (exitTest i s).lot = s.lot) ∧
      (x.currentLot ≠ some n → (exitTest i s).lot = (attach n i parted).lot)) ∧
    (∀ n, x.reasons = HoldSet.none → wants n → s.currentBinOf n = none →
      y.state = .held ∧ y.reasons = { HoldSet.none with noBin := true } ∧ y.noBinLot = some n ∧ y.fromIdle = false ∧
      y.currentLot = none ∧ (exitTest i s).alloc = s.alloc ∧ (exitTest i s).lot = parted.lot) ∧
    (x.reasons = HoldSet.none → (∀ n, ¬wants n) →
      y.state = .idle ∧ y.currentLot = none ∧ y.activeRoute = none ∧ y.silence = none ∧
      (exitTest i s).alloc = s.alloc ∧ (exitTest i s).lot = parted.lot)) ∧
  (∀ (s : State) (n : Nat) (i : StreamIdx),
    ((∀ k l, s.lotAt k = some l → l.number ≠ n) → attach n i s = s ∧ detach n i s = s) ∧
    ∀ k l, LotLaw s → s.lotAt k = some l → l.number = n →
      (l.state = .opened ∨ l.state = .discharging → attach n i s = s.putLot k (some { l with
        attached := l.attached.insert i, used := l.used.insert i, state := .discharging })) ∧
      (l.state = .planned ∨ l.state = .closing → attach n i s = s) ∧
      (l.attached.has i = false → detach n i s = s) ∧
      (l.attached.has i = true →
        let l1 := { l with attached := l.attached.erase i }
        let last := l1.attached.isEmpty = true
        (¬last ∨ l.state = .planned ∨ l.state = .opened → detach n i s = s.putLot k (some l1)) ∧
        (last → l.state = .discharging → detach n i s = s.putLot k (some { l1 with state := .opened })) ∧
        (last → l.state = .closing →
          (s.lot.outturn.length < 16 → detach n i s = raise .outturnReady s.lot.outturn.length
            ((s.putOutturn (s.lot.outturn ++ [⟨n, l.cls, l.declared, l.certified, l.uncertified, l.used, l.bins,
              l.closeKind.getD .requested⟩])).putLot k none)) ∧
          (16 ≤ s.lot.outturn.length → l.outturnFullReported = true → detach n i s = s.putLot k (some l1)) ∧
          (16 ≤ s.lot.outturn.length → l.outturnFullReported = false → detach n i s =
            raise .outturnFull k.val (s.putLot k (some { l1 with outturnFullReported := true }))))))

/-- SILENCE_TIMER_EXPIRY of an armed timer in WAITING, FEEDING or DRAINING adds SILENT and raises STREAM-SILENT, the timer
disarmed; PERMIT_TIMER_EXPIRY in FEEDING sends a PERMIT with feed 1 and arms the timer with 500 ms; DRAIN_TIMER_EXPIRY in
DRAINING ends draining: the active route becomes absent, the timer is disarmed, and the exit test places the stream. An
expiry of a disarmed timer changes nothing, which is the model's reading (log 3; R38, R41, R42). -/
def Obligations.StreamTimerExpiries : Prop :=
  ∀ (s : State) (i : StreamIdx),
    let x := s.stream i
    (∀ ms, x.silence = some ms → x.state = .waiting ∨ x.state = .feeding ∨ x.state = .draining →
      exec (.silenceTimerExpiry i) s =
        happens (raise .streamSilent i.val (addReason i .silent (s.putStream i { x with silence := none })))) ∧
    (x.silence = none → exec (.silenceTimerExpiry i) s = happens s) ∧
    (∀ ms a r n y, x.permit = some ms → x.state = .feeding → x.config.unloader = some a → x.activeRoute = some r →
      s.routeAt r = some y → x.currentLot = some n →
      exec (.permitTimerExpiry i) s =
        happens ((s.place (.permit a i true y.bin n)).putStream i { x with permit := some 500 })) ∧
    (x.permit = none → exec (.permitTimerExpiry i) s = happens s) ∧
    (∀ ms, x.drain = some ms → x.state = .draining →
      exec (.drainTimerExpiry i) s =
        happens (exitTest i (s.putStream i { x with activeRoute := none, drain := none }))) ∧
    (x.drain = none → exec (.drainTimerExpiry i) s = happens s)

/-! ## Segments and routes (05, 06) -/

/-- TRAVEL_TIMER_EXPIRY of an armed timer in SETTING, FLUSHING or CLOSING takes the segment to FAULT, its owner kept, its
holders, kind, timers and under-flow mark gone, its unflushed mark set, SEGMENT-FAULT raised and the fault reported; at
that report SEGMENT naming it joins the set of each FEEDING or DRAINING stream whose active route has it, a DRAINING
stream whose intake it is losing its drain timer, then each granted request whose route has it loses its grant, the
reservations released in step order, and SEGMENT joins its stream's set, and the segment leaves every staged set;
FLUSH_TIMER_EXPIRY in FLUSHING reports the end of the flush and frees a CONVEYOR or DIVERTER, or begins closing a GATE with
SET 0; CLEAR_SEGMENT_FAULT is BAD-INDEX outside 0..63, BAD-STATE unless in FAULT, and else takes a reported position as the
commanded one and begins the full flush, one of 0 ending at once. The report of a READY segment makes the activation test
of each queued request whose route has it, in queue order; the end of an intake's flush ends the draining of the stream
that drains on it; the report of a clearing takes SEGMENT, for that segment, from every stream, and is an occasion for a
pass (R38, R39, R94, R95, R97 to R99, R101, R117, R119). The ascending order of the streams at a report is the model's
choice (log 33), and the expiries act whatever is left of their timers (log 3). -/
def Obligations.SegmentTimersAndFaultClearing : Prop :=
  (∀ (s : State) (g : SegIdx),
    let x := s.seg g
    let bare := { x with kind := none, holders := IdxSet.empty 8, feeders := IdxSet.empty 8, underFlow := false }
    (x.travel = none → exec (.travelTimerExpiry g) s = happens s) ∧
    (x.travel ≠ none → x.state = .setting ∨ x.state = .flushing ∨ x.state = .closing →
      exec (.travelTimerExpiry g) s = happens ((raise .segmentFault g.val (changeSeg g
        { bare with state := .fault, flush := none, travel := none, unflushed := true } s)).emit (.faulted g))) ∧
    (x.flush = none → exec (.flushTimerExpiry g) s = happens s) ∧
    (x.flush ≠ none → x.state = .flushing → x.gateBin = none →
      exec (.flushTimerExpiry g) s = happens ((s.emit (.endOfFlush g)).putSeg g
        { bare with state := .free, owner := none, unflushed := false, flush := none, travel := none }).occasion) ∧
    (∀ a b c, x.flush ≠ none → x.state = .flushing → x.config = some c → c.kind = .gate a b →
      exec (.flushTimerExpiry g) s = happens ((changeSeg g
        { bare with state := .closing, commanded := some 0, flush := none, travel := some (c.travelLimit * 1000) }
        (s.emit (.endOfFlush g))).place (.set a 0)))) ∧
  (∀ (q : Requester) (n : Nat) (s : State), s.mgmt.restartLeft = none →
    let c := Instr.clearSegmentFault q (some n)
    (64 ≤ n → exec c s = answeredWith c q .badIndex s) ∧
    ∀ g : SegIdx, g.val = n →
      let x := s.seg g
      (x.state ≠ .fault → exec c s = answeredWith c q .badState s) ∧
      (∀ k, x.state = .fault → x.config = some k →
        let flushing := changeSeg g
          { x with state := .flushing, kind := none, holders := IdxSet.empty 8, feeders := IdxSet.empty 8
                   underFlow := false, unflushed := true, flush := some (k.flushTime * 100)
                   commanded := if x.reported = none then x.commanded else x.reported } s
        (0 < k.flushTime → exec c s = answeredDone c q (flushing.emit (.cleared g))) ∧
        (k.flushTime = 0 → exec c s = answeredDone c q ((endFlush g flushing).emit (.cleared g))))) ∧
  (∀ (s : State) (g : SegIdx),
    let fed := (List.finRange 8).foldl (fun u i => faultOnStream g i u) s
    let freed := fed.alloc.queue.foldl (fun u q => faultOnRequest g q u) fed
    takeReport (.faulted g) s = ((List.finRange 8).foldl (fun u i => loseStaged i g u) freed).occasion) ∧
  (∀ (s : State) (g : SegIdx) (i : StreamIdx) (q : Request),
    let x := s.stream i
    let on (r : Option RouteIdx) := ∃ k y st, r = some k ∧ s.routeAt k = some y ∧ st ∈ y.steps ∧ st.segment = g
    (x.state = .feeding → on x.activeRoute → faultOnStream g i s = addReason i (.segment g) s) ∧
    (x.state = .draining → on x.activeRoute →
      (x.config.intake = some g →
        faultOnStream g i s = addReason i (.segment g) (s.putStream i { x with drain := none })) ∧
      (x.config.intake ≠ some g → faultOnStream g i s = addReason i (.segment g) s)) ∧
    (x.state = .idle ∨ x.state = .held ∨ ¬on x.activeRoute → faultOnStream g i s = s) ∧
    (¬(q.granted = true ∧ on q.route) → faultOnRequest g q s = s) ∧
    (∀ k y, q.granted = true → on q.route → q.route = some k → s.routeAt k = some y →
      let released := y.steps.foldl (fun u st => releaseSeg q.stream st.segment u) s
      faultOnRequest g q s = addReason q.stream (.segment g) (released.putQueue (released.alloc.queue.map fun z =>
        if z.stream = q.stream then { z with granted := false } else z))) ∧
    (s.stagingOf i = none → loseStaged i g s = s) ∧
    (∀ z, s.stagingOf i = some z → loseStaged i g s = s.putStaging i (some { z with staged := z.staged.erase g }))) ∧
  (∀ (s : State) (g : SegIdx),
    let on (r : Option RouteIdx) := match r.bind s.routeAt with
      | some y => y.steps.any fun st => st.segment == g
      | none => false
    let drains (i : StreamIdx) := (s.stream i).state = .draining ∧ (s.stream i).config.intake = some g
    takeReport (.ready g) s =
      (s.alloc.queue.filter fun q => on q.route).foldl (fun u q => tryActivate q.stream u) s ∧
    takeReport (.endOfFlush g) s = (List.finRange 8).foldl (fun u i => if drains i
      then exitTest i (u.putStream i { s.stream i with activeRoute := none, drain := none }) else u) s ∧
    ((∀ i, ¬drains i) → takeReport (.endOfFlush g) s = s) ∧
    (∀ i, drains i → (∀ j, j ≠ i → ¬drains j) → takeReport (.endOfFlush g) s =
      exitTest i (s.putStream i { s.stream i with activeRoute := none, drain := none })) ∧
    takeReport (.cleared g) s =
      ((List.finRange 8).foldl (fun u i => removeReason i (.segment g) u) s).occasion)

/-- POSREP: stripped from the station's own address, disregarded from a station no DIVERTER or GATE is at; else recorded in
every state, then judged: SETTING reaches READY, or CARRYING under flow, at the commanded position and travels on at
another; READY, CARRYING, and FLUSHING at rest, fault at another; FLUSHING with travel pending has its timer disarmed at the
commanded one; CLOSING becomes FREE at 0; FREE and FAULT only record (R92, R93). That one from the own address is stripped
is R150's first case, taken for this command (log 11). -/
def Obligations.PositionReportsJudged : Prop :=
  ∀ (s : State) (src p : Byte),
    let c := Instr.posrep src p
    (src.toNat = s.loop.address → exec c s = happens s) ∧
    (src.toNat ≠ s.loop.address → (∀ g, (s.seg g).actuator ≠ some src.toNat) → exec c s = happens s) ∧
    (∀ g, src.toNat ≠ s.loop.address → (s.seg g).actuator = some src.toNat →
      (∀ j, (s.seg j).actuator = some src.toNat → j = g) →
      let x := { s.seg g with reported := some p.toNat }
      let recorded := s.putSeg g x
      let same := x.commanded = some p.toNat
      (x.state = .free ∨ x.state = .fault → exec c s = happens recorded) ∧
      (x.state = .setting → same → x.underFlow = false → exec c s =
        happens (((changeSeg g { x with state := .ready, travel := none } recorded).emit (.ready g)).occasion)) ∧
      (x.state = .setting → same → x.underFlow = true → exec c s =
        happens (changeSeg g { x with state := .carrying, underFlow := false, travel := none } recorded)) ∧
      (x.state = .setting → ¬same → exec c s = happens recorded) ∧
      (x.state = .ready ∨ x.state = .carrying ∨ (x.state = .flushing ∧ x.travel = none) →
        (same → exec c s = happens recorded) ∧ (¬same → exec c s = happens (faultSeg g recorded))) ∧
      (x.state = .flushing → x.travel ≠ none →
        (same → exec c s = happens (s.putSeg g { x with travel := none })) ∧
        (¬same → exec c s = happens recorded)) ∧
      (x.state = .closing →
        (same → exec c s = happens (freeSeg g recorded)) ∧ (¬same → exec c s = happens recorded)))

/-- A release of a holder acts by the segment's state as R91's table says; of a stream that is no holder, or in FLUSHING,
CLOSING, FAULT or FREE, it changes nothing; a DRAINING stream whose own intake it leaves READY or CARRYING has its drain
timer armed with the intake's flush time (R38, R91). -/
def Obligations.ReleaseActsByState : Prop :=
  ∀ (s : State) (i : StreamIdx) (g : SegIdx),
    let x := s.seg g
    let y := { x with holders := x.holders.erase i, feeders := x.feeders.erase i }
    let drained (u : State) := ((s.stream i).config.intake = some g ∧ (s.stream i).state = .draining →
        releaseSeg i g s = u.putStream i { s.stream i with drain := some x.flushMs }) ∧
      (¬((s.stream i).config.intake = some g ∧ (s.stream i).state = .draining) → releaseSeg i g s = u)
    let freed (u : State) := if x.gateBin = none then freeSeg g u else beginClosing g u
    (x.holders.has i = false → releaseSeg i g s = s) ∧
    (x.state = .flushing ∨ x.state = .closing ∨ x.state = .fault ∨ x.state = .free → releaseSeg i g s = s) ∧
    (x.holders.has i = true → x.state = .carrying → x.feeders.has i = true →
      (y.feeders.isEmpty = false → drained (s.putSeg g y)) ∧
      (y.feeders.isEmpty = true → y.holders.isEmpty = false →
        drained (((changeSeg g { y with state := .ready, unflushed := true } s).emit (.ready g)).occasion)) ∧
      (y.feeders.isEmpty = true → y.holders.isEmpty = true →
        releaseSeg i g s = beginFlush g (s.putSeg g y))) ∧
    (x.holders.has i = true → x.state = .carrying → x.feeders.has i = false → drained (s.putSeg g y)) ∧
    (x.holders.has i = true → x.state = .ready →
      (y.holders.isEmpty = false → drained (s.putSeg g y)) ∧
      (y.holders.isEmpty = true → x.unflushed = true → releaseSeg i g s = beginFlush g (s.putSeg g y)) ∧
      (y.holders.isEmpty = true → x.unflushed = false → releaseSeg i g s = freed (s.putSeg g y))) ∧
    (x.holders.has i = true → x.state = .setting → x.underFlow = true →
      releaseSeg i g s = beginFlush g (s.putSeg g y)) ∧
    (x.holders.has i = true → x.state = .setting → x.underFlow = false →
      (y.holders.isEmpty = false → releaseSeg i g s = s.putSeg g y) ∧
      (y.holders.isEmpty = true → releaseSeg i g s = freed (s.putSeg g y)))

/-- The grant test: a step is open to a request when its segment, not freed in this pass by an older request's pre-emption,
is FREE and configured; or owned by its lot, ACTIVE, READY or CARRYING and not under flow, at the position or a CONVEYOR, not
held by the stream, with room in its holder set; or owned by its lot, FLUSHING without travel pending, at the position or a
CONVEYOR. The obstacles are the steps that are not open, in step order; the request is granted when there is none and its
bin is configured, AVAILABLE or FILLING, and of class EMPTY or its lot's; it pre-empts when every obstacle is STAGED for
another lot, each released from its staged stream and lost to that stream's record, and closed to the rest of the pass
(R113 to R115). A reservation: a FREE configured segment takes it, its owner, kind and holder set, and stands READY when it
is a CONVEYOR or its reported position is the one asked, else SETTING with a SET sent and the travel timer armed; one of the
same lot at the same position is joined, ACTIVE, while it has room, or re-taken from its flush; any other is left as it
stands, and so is one that is not FREE by a staging reservation (R88, R89, R100). A grant sets the class of an EMPTY bin,
reserves the route in step order, marks the request granted and makes the activation test; the test activates a granted
request whose every segment is READY or CARRYING and holds the stream: those segments are CARRYING and fed, the request
leaves the queue, and the stream is FEEDING with its first PERMIT sent (R42, R90, R116, R117, R141). A request that leaves
otherwise has its reservations released, when granted, in step order (R111). A pass takes the queued requests, oldest first,
filling in an absent route, then the streams' staging checks; with one further pass while an occasion has arisen, and none
in the restart interval (R115, R128). That activation leaves the kind ACTIVE is log 21's. -/
def Obligations.GrantTestAndReservation : Prop :=
  ((∀ (x : Segment) (q : Request) (st : Step),
    let there := x.segKind = some .conveyor ∨ x.commanded = st.position
    x.openTo (q.claim st) = true ↔
      (x.state = .free ∧ x.config ≠ none) ∨
      (x.owner = some q.lot ∧ x.kind = some .active ∧ (x.state = .ready ∨ x.state = .carrying) ∧ x.underFlow = false ∧
        there ∧ x.holders.has q.stream = false ∧ x.holders.card < x.shareLimit) ∨
      (x.owner = some q.lot ∧ x.state = .flushing ∧ x.travel = none ∧ there)) ∧
  (∀ (s : State) (blocked : List SegIdx) (q : Request) (r : RouteIdx) (route : Route) (g : SegIdx),
    s.routeAt r = some route →
    (g ∈ obstacles s blocked q r ↔
      ∃ st ∈ route.steps, st.segment = g ∧ (g ∈ blocked ∨ (s.seg g).openTo (q.claim st) = false)) ∧
    (obstacles s blocked q r).Sublist (route.steps.map (·.segment))) ∧
  (∀ (s : State) (blocked : List SegIdx) (q : Request) (r : RouteIdx) (l : Lot),
    (q.route = none ∨ s.findLot q.lot = none → tryGrant q blocked s = (s, blocked)) ∧
    (q.route = some r → s.findLot q.lot = some l →
      let obs := obstacles s blocked q r
      let staged (g : SegIdx) := (s.seg g).kind = some .staged ∧ ∃ n, (s.seg g).owner = some n ∧ n ≠ q.lot
      let open1 := (∃ c, (s.bin q.bin).config = some c) ∧
        ((s.bin q.bin).state = .available ∨ (s.bin q.bin).state = .filling) ∧
        ((s.bin q.bin).cls = none ∨ (s.bin q.bin).cls = some l.cls)
      (open1 → obs = [] → tryGrant q blocked s = (grant q r l.cls s, blocked)) ∧
      (open1 → (∃ g ∈ obs, ¬staged g) → tryGrant q blocked s = (s, blocked)) ∧
      (open1 → obs ≠ [] → (∀ g ∈ obs, staged g) →
        tryGrant q blocked s = (obs.foldl (fun u g => preemptSeg g u) s, blocked ++ obs)) ∧
      (¬open1 → tryGrant q blocked s = (s, blocked)))) ∧
  (∀ (s : State) (g : SegIdx) (i : StreamIdx), (s.seg g).holders = IdxSet.single i →
    preemptSeg g s = loseStaged i g (releaseSeg i g s))) ∧
  (∀ (s : State) (g : SegIdx) (k : ResKind) (c : Claim),
    let x := s.seg g
    let held := { x with owner := some c.lot, kind := some k, holders := IdxSet.single c.stream
                         feeders := IdxSet.empty 8 }
    let there := x.segKind = some .conveyor ∨ x.commanded = c.position
    let joins := x.owner = some c.lot ∧ x.kind = some .active ∧ (x.state = .ready ∨ x.state = .carrying) ∧
      x.underFlow = false ∧ there ∧ x.holders.has c.stream = false ∧ x.holders.card < x.shareLimit
    let retakes := x.owner = some c.lot ∧ x.state = .flushing ∧ x.travel = none ∧ there
    let ready (u : State) := (u.emit (.ready g)).occasion
    (∀ cfg, x.state = .free → x.config = some cfg → cfg.kind = .conveyor →
      reserve g k c s = ready (s.putSeg g { held with state := .ready })) ∧
    (∀ cfg a p, x.state = .free → x.config = some cfg → cfg.kind.actuator = some a → c.position = some p →
      (x.reported = some p →
        reserve g k c s = ready (changeSeg g { held with state := .ready, commanded := some p } s)) ∧
      (x.reported ≠ some p → reserve g k c s = (changeSeg g { held with
        state := .setting, commanded := some p, travel := some (cfg.travelLimit * 1000) } s).place (.set a p))) ∧
    (x.state = .free → x.config = none → reserve g k c s = s) ∧
    (k = .active → joins → reserve g k c s = s.putSeg g { x with holders := x.holders.insert c.stream }) ∧
    (k = .active → retakes → reserve g k c s = ready ((changeSeg g
      { x with state := .ready, kind := some .active, holders := IdxSet.single c.stream, flush := none } s).emit
        (.endOfFlush g))) ∧
    (x.state ≠ .free → ¬(k = .active ∧ (joins ∨ retakes)) → reserve g k c s = s)) ∧
  (∀ (s : State) (q : Request) (r : RouteIdx) (route : Route) (cls : Nat), s.routeAt r = some route →
    let x := s.bin q.bin
    let classed := if x.cls = none then (s.putBin q.bin { x with cls := some cls }).emit (.bin q.bin) else s
    let held := route.steps.foldl (fun u st => reserve st.segment .active ⟨q.lot, q.stream, st.position⟩ u) classed
    grant q r cls s = tryActivate q.stream (held.putQueue (held.alloc.queue.map fun y =>
      if y.stream = q.stream then { y with granted := true } else y))) ∧
  (∀ (s : State) (i : StreamIdx),
    let x := s.stream i
    let v := tryActivate i s
    (s.requestOf i = none → v = s) ∧
    ∀ q r route, s.requestOf i = some q → q.route = some r → s.routeAt r = some route →
      let carries (g : SegIdx) := ((s.seg g).state = .ready ∨ (s.seg g).state = .carrying) ∧
        (s.seg g).holders.has i = true
      let ready := q.granted = true ∧ ∀ st ∈ route.steps, carries st.segment
      (¬ready → v = s) ∧
      (ready →
        v.stream i = { x with state := .feeding, activeRoute := some r, permit := some 500 } ∧
        (∀ j, j ≠ i → v.stream j = s.stream j) ∧
        v.alloc = { s.alloc with queue := s.alloc.queue.filter fun y => y.stream != i } ∧ v.passDue = true ∧
        (∀ g, (∃ st ∈ route.steps, st.segment = g) → v.seg g = { s.seg g with
          state := .carrying, kind := some .active, feeders := (s.seg g).feeders.insert i }) ∧
        (∀ g, (∀ st ∈ route.steps, st.segment ≠ g) → v.seg g = s.seg g) ∧ v.lot = s.lot ∧
        (∀ a n, x.config.unloader = some a → x.currentLot = some n →
          v.loop = (s.loop.enqueue (.permit a i true route.bin n)).choose))) ∧
  (∀ (s : State) (i : StreamIdx),
    (s.requestOf i = none → removeRequest i s = s) ∧
    ∀ q, s.requestOf i = some q →
      let gone (u : State) := (u.putQueue (u.alloc.queue.filter fun y => y.stream != i)).occasion
      (q.granted = false ∨ q.route = none → removeRequest i s = gone s) ∧
      (∀ r route, q.granted = true → q.route = some r → s.routeAt r = some route →
        removeRequest i s = gone (route.steps.foldl (fun u st => releaseSeg i st.segment u) s))) ∧
  ((∀ s : State,
      let pass := if s.mgmt.restartLeft = none then (List.finRange 8).foldl (fun u i => stagingCheck i u)
          (evaluateRequests { s with passDue := false })
        else { s with passDue := false }
      takeReport .passNow s = pass.emit .pass ∧
      (s.passDue = true → takeReport .pass s = pass.emit .pass) ∧ (s.passDue = false → takeReport .pass s = s) ∧
      evaluateRequests s = (s.alloc.queue.foldl (fun p q => evaluateRequest q.stream p) (s, [])).1) ∧
    ∀ (s : State) (i : StreamIdx) (blocked : List SegIdx),
      (s.requestOf i = none → evaluateRequest i (s, blocked) = (s, blocked)) ∧
      ∀ q, s.requestOf i = some q →
        let routed := { q with route := if q.route = none then s.routeFor i q.bin else q.route }
        (q.granted = true → evaluateRequest i (s, blocked) = (s, blocked)) ∧
        (q.granted = false → evaluateRequest i (s, blocked) = tryGrant routed blocked (s.putQueue
          (s.alloc.queue.map fun y => if y.stream = i then routed else y))))

/-- The STAGED-HIT test succeeds exactly when the stream has an active route, the table a route for the stream and the new
bin, and every step of the new route is a step of the active one at the same position, or a CONVEYOR of it; or a step of it
whose flow-switch diverter, CARRYING, not under flow, held and fed by the stream alone and commanded elsewhere, could be
moved under flow; or staged for the stream under a record aimed at the new bin, and READY (R102, R124). The report of a
changed current bin: each FEEDING stream of the lot is carried over on a hit, the segments it leaves released, the others
moved under flow or taken from its staged set in step order, the route, the staging record and the PERMIT following; drains
on a miss, STAGE-MISS raised; or is held with NO-BIN when there is no bin; then the lot's queued requests are re-targeted,
or leave the queue; NO-BIN leaves the streams held for the lot, or joins its WAITING ones; then a pass follows (R19, R39,
R103, R112, R123, R125, R126). The staging check: a FEEDING stream whose route's bin is its lot's current one and near full
has a record for the lot's next bin, made, kept or dropped as the target says; a record's route is filled in from the table,
and its steps that no route of the stream and no other lot's request has are reserved STAGED while FREE, a bin's class set
with its gate (R120 to R122). The order of the streams held with NO-BIN or freed of it, and of the segments of a
dropped record, is the model's choice (log 33), and so is the order of the segments of a hit, by the steps of the old and
then of the new route (log 43); that a dropped record is given anew by a further pass is log 17's, and
that a segment not held is not taken is log 21's. -/
def Obligations.StagedHitTest : Prop :=
  (∀ (s : State) (i : StreamIdx) (b : BinIdx) (old new : RouteIdx) (r0 r1 : Route),
    s.routeAt old = some r0 → s.routeAt new = some r1 →
    (stagedHit s i b = some (old, new) ↔
      (s.stream i).activeRoute = some old ∧ s.routeFor i b = some new ∧
      ∀ st ∈ r1.steps,
        let x := s.seg st.segment
        (∃ o ∈ r0.steps, o.segment = st.segment ∧ (x.segKind = some .conveyor ∨ o.position = st.position)) ∨
        ((∃ o ∈ r0.steps, o.segment = st.segment) ∧ (∃ a, x.segKind = some (.diverter a true)) ∧
          x.state = .carrying ∧ x.underFlow = false ∧ x.holders = IdxSet.single i ∧ x.feeders = IdxSet.single i ∧
          x.commanded ≠ st.position) ∨
        (∃ y, s.stagingOf i = some y ∧ y.target = b ∧ y.staged.has st.segment = true ∧ x.state = .ready))) ∧
  (∀ (s : State) (i : StreamIdx) (old new : RouteIdx) (r0 r1 : Route),
    s.routeAt old = some r0 → s.routeAt new = some r1 →
    let on (r : Route) (g : SegIdx) := ∃ st ∈ r.steps, st.segment = g
    let left := r0.steps.filter fun o => !r1.steps.any fun st => st.segment == o.segment
    let moved := r1.steps.foldl (fun u st => hitSegment i old st u)
      (left.foldl (fun u o => releaseSeg i o.segment u) s)
    carryHit i old new s = permitFeed i
      ((refreshLamps (moved.putStream i { moved.stream i with activeRoute := some new })).putStaging i none) ∧
    (∀ a n, (s.stream i).config.unloader = some a → (s.stream i).activeRoute = some new →
      (s.stream i).currentLot = some n → permitFeed i s =
        (s.place (.permit a i true r1.bin n)).putStream i { s.stream i with permit := some 500 }) ∧
    (∀ st : Step,
      let x := s.seg st.segment
      let same := ∃ o ∈ r0.steps, o.segment = st.segment ∧ (x.segKind = some .conveyor ∨ o.position = st.position)
      (same → hitSegment i old st s = s) ∧
      (¬same → on r0 st.segment → hitSegment i old st s = moveUnderFlow i st.segment st.position s) ∧
      (¬on r0 st.segment → hitSegment i old st s = takeStaged i st.segment s))) ∧
  (∀ (s : State) (i : StreamIdx) (g : SegIdx),
    let x := s.seg g
    let able (p : Option Nat) := (∃ a, x.segKind = some (.diverter a true)) ∧ x.state = .carrying ∧
      x.underFlow = false ∧ x.holders = IdxSet.single i ∧ x.feeders = IdxSet.single i ∧ x.commanded ≠ p
    (∀ c a p, x.config = some c → c.kind = .diverter a true → able (some p) →
      moveUnderFlow i g (some p) s = (s.putSeg g { x with commanded := some p, travel := some (c.travelLimit * 1000)
                                                          state := .setting, underFlow := true }).place (.set a p)) ∧
    (∀ p, ¬able p ∨ p = none → moveUnderFlow i g p s = s) ∧
    (x.holders.has i = true → takeStaged i g s = changeSeg g { x with
      kind := some .active, feeders := x.feeders.insert i, state := .carrying } s) ∧
    (x.holders.has i = false → takeStaged i g s = s)) ∧
  (∀ (s : State) (n : Nat) (new : Option BinIdx) (i : StreamIdx),
    let x := s.stream i
    let feeds := x.state = .feeding ∧ x.currentLot = some n
    let changed := (List.finRange 8).foldl (fun u j => changeStream n new j u) s
    let asked := changed.alloc.queue.filter fun q => q.lot == n
    let aimed := asked.foldl (fun u q => match new with
      | some b => retarget b q u
      | none => removeRequest q.stream u) changed
    (¬feeds → changeStream n new i s = s) ∧
    (feeds → new = none → changeStream n new i s = addReason i (.noBin n) (raise .noBin i.val s)) ∧
    (∀ b, feeds → new = some b →
      (∀ old r, stagedHit s i b = some (old, r) → changeStream n new i s = carryHit i old r s) ∧
      (stagedHit s i b = none → changeStream n new i s = enterDraining i (raise .stageMiss i.val s))) ∧
    (new ≠ none →
      (x.noBinLot = some n → noteCurrentBin n new i s = removeReason i (.noBin n) s) ∧
      (x.noBinLot ≠ some n → noteCurrentBin n new i s = s)) ∧
    (new = none →
      (x.state = .waiting → x.currentLot = some n → noteCurrentBin n new i s = addReason i (.noBin n) s) ∧
      (¬(x.state = .waiting ∧ x.currentLot = some n) → noteCurrentBin n new i s = s)) ∧
    takeReport (.currentBin n new) s =
      ((List.finRange 8).foldl (fun u j => noteCurrentBin n new j u) aimed).emit .passNow) ∧
  (∀ (s : State) (q : Request) (b : BinIdx),
    let aimed (u : State) := (u.putQueue (u.alloc.queue.map fun y => if y.stream = q.stream
      then { y with granted := false, bin := b, route := s.routeFor q.stream b } else y)).occasion
    (q.granted = false ∨ q.route = none → retarget b q s = aimed s) ∧
    (∀ r route, q.granted = true → q.route = some r → s.routeAt r = some route →
      retarget b q s = aimed (route.steps.foldl (fun u st => releaseSeg q.stream st.segment u) s))) ∧
  (∀ (s : State) (i : StreamIdx),
    let x := s.stream i
    (∀ b, stagingTarget s i = some b ↔ x.state = .feeding ∧ ∃ n r y l, x.currentLot = some n ∧
      x.activeRoute = some r ∧ s.routeAt r = some y ∧ s.findLot n = some l ∧ l.currentBin = some y.bin ∧
      (s.bin y.bin).nearFull = true ∧ l.nextBin s = some b) ∧
    (x.state ≠ .feeding → stagingCheck i s = s) ∧
    (x.state = .feeding →
      (s.stagingOf i = none → stagingTarget s i = none → stagingCheck i s = s) ∧
      (∀ b, s.stagingOf i = none → stagingTarget s i = some b →
        stagingCheck i s = stageRecord i ⟨b, none, IdxSet.empty 64⟩ s) ∧
      (∀ z, s.stagingOf i = some z →
        (stagingTarget s i = some z.target → stagingCheck i s = stageRecord i z s) ∧
        (stagingTarget s i ≠ some z.target → stagingCheck i s = dropStaging i s))) ∧
    (s.stagingOf i = none → dropStaging i s = s) ∧
    (∀ z, s.stagingOf i = some z → dropStaging i s =
      ((z.staged.toList.foldl (fun u g => releaseSeg i g u) s).putStaging i none).occasion) ∧
    (∀ z : Staging,
      let route := if z.route = none then s.routeFor i z.target else z.route
      let recorded := s.putStaging i (some { z with route := route })
      (route = none → stageRecord i z s = recorded) ∧
      (∀ r y n l, route = some r → s.routeAt r = some y → x.currentLot = some n → s.findLot n = some l →
        stageRecord i z s = y.steps.foldl (fun u st => stageStep i n l.cls st u) recorded)) ∧
    (∀ (z : Staging) (n cls : Nat) (st : Step), s.stagingOf i = some z →
      let g := st.segment
      let on (r : Option RouteIdx) := ∃ k y o, r = some k ∧ s.routeAt k = some y ∧ o ∈ y.steps ∧ o.segment = g
      let apt := ¬on x.activeRoute ∧ z.staged.has g = false ∧ (s.seg g).state = .free ∧ (s.seg g).config ≠ none ∧
        ∀ q ∈ s.alloc.queue, q.lot ≠ n → ¬on q.route
      let classed := if (s.seg g).gateBin = none then s else setClass z.target cls s
      (¬apt → stageStep i n cls st s = s) ∧
      (apt → stageStep i n cls st s = (reserve g .staged ⟨n, i, st.position⟩ classed).putStaging i
        (some { z with staged := z.staged.insert g }))))

/-! ## Bins (07) -/

/-- BIN_EMPTIED, BIN_SERVICE_OUT and BIN_SERVICE_IN: their refusals, and their effects on state, fill, class, gauge level
and polling; the bin is judged where R142 and R143 say so, and each change is reported (R137, R142, R143). -/
def Obligations.BinCommandsTaken : Prop :=
  ∀ (q : Requester) (n : Nat) (s : State), s.mgmt.restartLeft = none →
    let ce := Instr.binEmptied q (some n)
    let co := Instr.binServiceOut q (some n)
    let ci := Instr.binServiceIn q (some n)
    (40 ≤ n → exec ce s = answeredWith ce q .badIndex s ∧ exec co s = answeredWith co q .badIndex s ∧
      exec ci s = answeredWith ci q .badIndex s) ∧
    ∀ b : BinIdx, b.val = n →
      let x := s.bin b
      let gauged := ∃ k, x.config = some k ∧ k.gauge ≠ none
      let emptied := { x with fill := 0, cls := none, gaugeLevel := none, state := .available }
      let reported (u : State) := if x.state = .available ∧ x.cls = none then u else u.emit (.bin b)
      (x.config = none → exec ce s = answeredWith ce q .badState s) ∧
      (x.config ≠ none → x.gateReserved = true → exec ce s = answeredWith ce q .inUse s) ∧
      (x.config ≠ none → x.gateReserved = false →
        (gauged → exec ce s = answeredDone ce q (judgeBin b (reported (s.putBin b
          { emptied with pollOutstanding := false, replyTimer := none, pollTimer := some 0 })))) ∧
        (¬gauged → exec ce s = answeredDone ce q (judgeBin b (reported (s.putBin b emptied))))) ∧
      (x.state = .outOfService → exec co s = answeredDone co q s) ∧
      (x.state ≠ .outOfService →
        (gauged → exec co s = answeredDone co q ((s.putBin b { x with
          state := .outOfService, pollTimer := none, pollOutstanding := false, replyTimer := none }).emit (.bin b))) ∧
        (¬gauged → exec co s = answeredDone co q ((s.putBin b { x with state := .outOfService }).emit (.bin b)))) ∧
      (x.state ≠ .outOfService ∨ x.config = none → exec ci s = answeredWith ci q .badState s) ∧
      (x.state = .outOfService → x.config ≠ none →
        let y := { x with state := if x.gateCarrying = true then .filling else .available }
        (gauged → exec ci s = answeredDone ci q
          (judgeBin b ((s.putBin b { y with pollTimer := some 0 }).emit (.bin b)))) ∧
        (¬gauged → exec ci s = answeredDone ci q (judgeBin b ((s.putBin b y).emit (.bin b)))))

/-- POLL_TIMER_EXPIRY sends a POLL when none is outstanding, arming the reply timer with 400 ms, and arms the poll timer
with the bin's period; REPLY_TIMER_EXPIRY counts a miss, the third of an OK gauge making it LOST with its level absent and
GAUGE-LOST raised; LEVEL, of the bin at whose station the gauge is, sets the level, at most 1000, clears the misses, answers
a poll outstanding and returns the gauge to OK, the emptiness test and the judgement following (R137 to R140). The expiries
act whatever is left of their timers, and a disarmed timer's does nothing (log 3); that a LEVEL from the own address is
stripped is R150's first case, taken for this command (log 11). -/
def Obligations.GaugePollsMissesAndLevels : Prop :=
  ∀ (s : State) (b : BinIdx),
    let x := s.bin b
    let period := if x.state = .outOfService then none else
      some (if x.state = .filling then (if x.nearFull = true then 1000 else 4000) else 30000)
    (∀ ms k a, x.pollTimer = some ms → x.config = some k → k.gauge = some a →
      (x.pollOutstanding = false → exec (.pollTimerExpiry b) s = happens ((s.putBin b { x with
        pollTimer := period, pollOutstanding := true, replyTimer := some 400 }).place (.poll a))) ∧
      (x.pollOutstanding = true → exec (.pollTimerExpiry b) s = happens (s.putBin b { x with pollTimer := period }))) ∧
    (x.pollTimer = none → exec (.pollTimerExpiry b) s = happens s) ∧
    (x.pollOutstanding = true → x.replyTimer ≠ none →
      let y := { x with pollOutstanding := false, replyTimer := none }
      (x.gaugeState = .ok → x.misses < 2 →
        exec (.replyTimerExpiry b) s = happens (s.putBin b { y with misses := x.misses + 1 })) ∧
      (x.gaugeState = .ok → x.misses = 2 → exec (.replyTimerExpiry b) s = happens (judgeBin b (raise .gaugeLost b.val
        (s.putBin b { y with misses := 3, gaugeState := .lost, gaugeLevel := none })))) ∧
      (x.gaugeState = .lost → x.misses < 3 →
        exec (.replyTimerExpiry b) s = happens (s.putBin b { y with misses := x.misses + 1 })) ∧
      (x.gaugeState = .lost → x.misses = 3 → exec (.replyTimerExpiry b) s = happens (s.putBin b y))) ∧
    (x.pollOutstanding = false → x.replyTimer = none → exec (.replyTimerExpiry b) s = happens s) ∧
    (∀ (src : Byte) (v : BitVec 16),
      (src.toNat = s.loop.address → exec (.level src v) s = happens s) ∧
      (src.toNat ≠ s.loop.address → (∀ j k, (s.bin j).config = some k → k.gauge ≠ some src.toNat) →
        exec (.level src v) s = happens s) ∧
      (∀ k, src.toNat ≠ s.loop.address → x.config = some k → k.gauge = some src.toNat →
        (∀ j k, (s.bin j).config = some k → k.gauge = some src.toNat → j = b) →
        exec (.level src v) s = happens (judgeBin b (emptinessTest b (s.putBin b { x with
          gaugeLevel := some (min 1000 v.toNat), misses := 0, gaugeState := .ok
          pollOutstanding := false
          replyTimer := if x.pollOutstanding = true then none else x.replyTimer })))))

/-- The judgement of a configured bin: the estimate level is floor(fill / capacity), at most 1000, the judged level the
larger of it and a present gauge level, the near-full flag set at or above pre-stage; AVAILABLE or FILLING becomes FULL at or
above high, BIN-FULL raised; FULL is taken back below resume, FILLING or AVAILABLE by the gate; OUT-OF-SERVICE stays; fill,
class and gauge stand. The emptiness test clears fill and class of a bin that is not FILLING, whose gate is not reserved, and
whose gauge reads at or below empty or whose fill is 0; a changed class is reported, and a changed fill judged (R134 to R136,
R141). The period of a bin with a gauge and in service is 30,000 ms, FILLING 4000 ms and near full 1000 ms; a bin that comes
to be polled is polled at once, one whose period changes waits the lesser of the time remaining and the new period, and one
that ceases to be polled has its timers disarmed and its poll outstanding forgotten (R137). -/
def Obligations.JudgementAndEmptinessTest : Prop :=
  (∀ (s : State) (b : BinIdx) (k : BinConfig), (s.bin b).config = some k →
    let x := s.bin b
    let y := (judgeBin b s).bin b
    let estimate := min 1000 (x.fill / k.capacity)
    let j := max estimate (x.gaugeLevel.getD 0)
    let formed := Bin.repoll x.period { x with
      estimate := some estimate, judged := some j, nearFull := decide (k.preStage ≤ j) }
    y.estimate = some estimate ∧ y.judged = some j ∧ (y.nearFull = true ↔ k.preStage ≤ j) ∧
    (x.state = .available ∨ x.state = .filling → k.high ≤ j → y.state = .full ∧
      ((judgeBin b s).ind.events.get 13).flag = true ∧ ((judgeBin b s).ind.events.get 13).source = b.val) ∧
    (x.state = .available ∨ x.state = .filling → j < k.high → y.state = x.state) ∧
    (x.state = .full → j < k.resume → x.gateCarrying = true → y.state = .filling) ∧
    (x.state = .full → j < k.resume → x.gateCarrying = false → y.state = .available) ∧
    (x.state = .full → k.resume ≤ j → y.state = .full) ∧ (x.state = .outOfService → y.state = .outOfService) ∧
    (y.state = x.state → y = formed) ∧
    (y.state ≠ x.state → y = Bin.repoll formed.period { formed with state := y.state }) ∧
    (y.state ≠ x.state → .bin b ∈ (judgeBin b s).agenda) ∧
    (y.nearFull ≠ x.nearFull → (judgeBin b s).passDue = true) ∧
    y.account = x.account ∧ y.cls = x.cls ∧ ∀ c, c ≠ b → (judgeBin b s).bin c = s.bin c) ∧
  (∀ (s : State) (b : BinIdx), (s.bin b).config = none → judgeBin b s = s) ∧
  (∀ (s : State) (b : BinIdx),
    let x := s.bin b
    let y := (emptinessTest b s).bin b
    let passes := x.state ≠ .filling ∧ x.gateReserved = false ∧
      (x.fill = 0 ∨ ∃ l k, x.gaugeLevel = some l ∧ x.config = some k ∧ l ≤ k.empty)
    (¬passes → emptinessTest b s = s) ∧
    (passes → y.fill = 0 ∧ y.cls = none ∧ (x.cls ≠ none → .bin b ∈ (emptinessTest b s).agenda)) ∧
    (passes →
      let cleared := s.putBin b { x with fill := 0, cls := none }
      let reported := if x.cls = none then cleared else cleared.emit (.bin b)
      (x.fill = 0 → emptinessTest b s = reported) ∧ (x.fill ≠ 0 → emptinessTest b s = judgeBin b reported))) ∧
  (∀ x : Bin,
    let polled := (∃ c a, x.config = some c ∧ c.gauge = some a) ∧ x.state ≠ .outOfService
    (¬polled → x.period = none) ∧
    (polled → x.period = some (if x.state = .filling then (if x.nearFull = true then 1000 else 4000) else 30000)) ∧
    (∀ p, x.period = some p → Bin.repoll none x = { x with pollTimer := some 0 }) ∧
    (∀ o p, x.period = some p →
      (o = p → Bin.repoll (some o) x = x) ∧
      (∀ left, o ≠ p → x.pollTimer = some left → Bin.repoll (some o) x = { x with pollTimer := some (min left p) }) ∧
      (o ≠ p → x.pollTimer = none → Bin.repoll (some o) x = x)) ∧
    (∀ o, x.period = none →
      Bin.repoll (some o) x = { x with pollTimer := none, pollOutstanding := false, replyTimer := none }) ∧
    (x.period = none → Bin.repoll none x = x))

/-! ## Events, lamps, restart (09, 10) -/

/-- A raise sets the kind's flag, counts it up to 255 and records its source; SET_MASK gives each kind's mask bit its
position's value and changes no flag, count or source; CLEAR_EVENTS clears flag and count of each kind whose position is 0,
source and mask standing, and leaves the others; positions 18..23 are disregarded, and each command is DONE. After each the
alert output is active exactly while a kind has flag and mask bit set, and a raise or a SET_MASK that makes it active sends
one NOTICE of the unmasked flags to the last MANAGE source, when there is one, ahead of the command's own REPLY; nothing
else is sent (R171 to R174). -/
def Obligations.EventsMasksAndAlert : Prop :=
  (∀ (s : State) (kind : EventKind) (source : Nat),
    let r := s.ind.events.get kind.num
    let e := s.ind.events.set kind.num ⟨true, min 255 (r.count + 1), source, r.mask⟩
    let t := raise kind source s
    t.ind.events = e ∧
    (t.ind.alert = true ↔ ∃ k, (e.get k).flag = true ∧ (e.get k).mask = true) ∧
    (t.ind.alert = true → s.ind.alert = false → ∀ a, s.mgmt.lastSource = some a → ∃ summary : BitVec 24,
      t.loop = ((s.loop.enqueue (.notice a summary)).choose) ∧
      ∀ k : Fin 24, (summary.getLsbD k.val = true ↔
        ∃ j : Fin 18, j.val = k.val ∧ (e.get j).flag = true ∧ (e.get j).mask = true)) ∧
    (t.ind.alert = false ∨ s.ind.alert = true ∨ s.mgmt.lastSource = none → t.loop = s.loop) ∧
    t = { s with ind := { s.ind with events := e, alert := t.ind.alert }, loop := t.loop }) ∧
  (∀ (q : Requester) (p : BitVec 24) (s : State), s.mgmt.restartLeft = none →
    let sent (u : State) :=
      (u.ind.alert = true → s.ind.alert = false → ∀ a, s.mgmt.lastSource = some a → ∃ summary : BitVec 24,
        u.loop = ((s.loop.enqueue (.notice a summary)).choose) ∧
        ∀ k : Fin 24, (summary.getLsbD k.val = true ↔
          ∃ j : Fin 18, j.val = k.val ∧ (u.ind.events.get j).flag = true ∧ (u.ind.events.get j).mask = true)) ∧
      (u.ind.alert = false ∨ s.ind.alert = true ∨ s.mgmt.lastSource = none → u.loop = s.loop)
    (∃ u, exec (.setMask q (some p)) s = answeredDone (.setMask q (some p)) q u ∧
      (∀ k, u.ind.events.get k = { s.ind.events.get k with mask := p.getLsbD k.val }) ∧
      (u.ind.alert = true ↔ ∃ k : Fin 18, (s.ind.events.get k).flag = true ∧ p.getLsbD k.val = true) ∧ sent u ∧
      u = { s with ind := { s.ind with events := u.ind.events, alert := u.ind.alert }, loop := u.loop }) ∧
    (∃ u, exec (.clearEvents q (some p)) s = answeredDone (.clearEvents q (some p)) q u ∧
      (∀ k, p.getLsbD k.val = true → u.ind.events.get k = s.ind.events.get k) ∧
      (∀ k, p.getLsbD k.val = false →
        u.ind.events.get k = { s.ind.events.get k with flag := false, count := 0 }) ∧
      (u.ind.alert = true ↔ ∃ k : Fin 18, p.getLsbD k.val = true ∧ (s.ind.events.get k).flag = true ∧
        (s.ind.events.get k).mask = true) ∧ sent u ∧
      u = { s with ind := { s.ind with events := u.ind.events, alert := u.ind.alert }, loop := u.loop }))

/-- SET_LAMP_MODE: BAD-INDEX for a target that is neither lamp nor force, BAD-RECORD for a setting beyond the list or, in
STREAM mode, a stream above 7 (in the other modes the stream is disregarded, log 14); else the lamp takes the mode, and in
STREAM mode a stream given; SET_LAMP_FORCE sets or clears its force. A lamp output
follows FORCE-ON, FORCE-OFF, its mode, in that order; LAMP_PHASE_END begins the next phase of the pattern shown, whatever is
left of the present one (log 3), half a period of 3 Hz being 166 or 167 ms (log 15; R163, R167, R176, R177). The pattern
chosen (log 16 says when) for a lamp in STREAM mode follows the state of its stream and, FEEDING, the judged level of its
route's bin: steady below pre-stage, else a blink of the lesser of 5 and 1 + floor(excess / 20) Hz; a pattern that
differs starts at its on phase, the same runs on (R177). -/
def Obligations.LampCommandsAndPatterns : Prop :=
  ((∀ (q : Requester) (a : LampArgs) (s : State), s.mgmt.restartLeft = none →
    let c := Instr.setLampMode q (some a)
    (9 < a.target → exec c s = answeredWith c q .badIndex s) ∧
    ∀ n : LampIdx, n.val = a.target →
      let l := s.ind.lamps.get n
      let shows (m : LampMode) (i : StreamIdx) := exec c s = answeredDone c q
        { s with ind := { s.ind with lamps := s.ind.lamps.set n ⟨m, i, l.shown⟩ } }
      (3 < a.setting → exec c s = answeredWith c q .badRecord s) ∧
      (a.setting = 0 → (∀ k, a.stream = some k → 7 < k → exec c s = answeredWith c q .badRecord s) ∧
        (∀ i : StreamIdx, a.stream = some i.val → shows .stream i) ∧ (a.stream = none → shows .stream l.assigned)) ∧
      (a.setting = 1 → shows .alert l.assigned) ∧ (a.setting = 2 → shows .on l.assigned) ∧
      (a.setting = 3 → shows .off l.assigned)) ∧
  (∀ (q : Requester) (target : Bool) (setting : Nat) (s : State), s.mgmt.restartLeft = none →
    let c := Instr.setLampForce q (some ⟨target, setting⟩)
    (1 < setting → exec c s = answeredWith c q .badRecord s) ∧
    (setting ≤ 1 → exec c s = answeredDone c q { s with ind := if target
      then { s.ind with forceOn := setting == 1 } else { s.ind with forceOff := setting == 1 } })) ∧
  (∀ (s : State) (n : LampIdx),
    let l := s.ind.lamps.get n
    (s.lampOutput n = true ↔ s.ind.forceOn = true ∨ (s.ind.forceOff = false ∧
      (l.mode = .on ∨ (l.mode = .alert ∧ s.ind.alert = true) ∨
        (l.mode = .stream ∧ ∃ sh, l.shown = some sh ∧ sh.pattern ≠ .off ∧
          (sh.pattern = .steady ∨ sh.phase % 2 = 0))))) ∧
    (l.shown = none → exec (.lampPhaseEnd n) s = .next s) ∧
    (∀ sh, l.shown = some sh → sh.pattern = .off ∨ sh.pattern = .steady → exec (.lampPhaseEnd n) s = .next s) ∧
    (∀ sh, l.shown = some sh → sh.pattern ≠ .off → sh.pattern ≠ .steady → ∃ ms,
      let next := (sh.phase + 1) % (if sh.pattern = .doubleFlash then 4 else 2)
      exec (.lampPhaseEnd n) s = .next { s with ind := { s.ind with
        lamps := s.ind.lamps.set n { l with shown := some ⟨sh.pattern, next, ms⟩ } } } ∧
      (sh.pattern = .doubleFlash → ms = [100, 150, 100, 1650].getD next 0) ∧
      (sh.pattern = .flashSlow → ms = [100, 900].getD next 0) ∧
      (sh.pattern = .flashFast → ms = [100, 150].getD next 0) ∧
      (∀ hz, sh.pattern = .blink hz → hz ≠ 3 → ms = 500 / hz) ∧
      (sh.pattern = .blink 3 → ms = 166 ∨ ms = 167)))) ∧
  (∀ (s : State) (n : LampIdx),
    let l := s.ind.lamps.get n
    let l' := (refreshLamps s).ind.lamps.get n
    let x := s.stream l.assigned
    let shows (p : LampPattern) := (∃ sh, l'.shown = some sh ∧ sh.pattern = p ∧
        ((∀ o, l.shown = some o → o.pattern ≠ p) → sh.phase = 0)) ∧
      (∀ o, l.shown = some o → o.pattern = p → l' = l)
    l'.mode = l.mode ∧ l'.assigned = l.assigned ∧
    (l.mode = .stream →
      (x.state = .idle → shows .off) ∧ (x.state = .waiting → shows .doubleFlash) ∧
      (x.state = .draining → shows .flashSlow) ∧ (x.state = .held → shows .flashFast) ∧
      (∀ r y j k, x.state = .feeding → x.activeRoute = some r → s.routeAt r = some y →
        (s.bin y.bin).judged = some j → (s.bin y.bin).config = some k →
        (j < k.preStage → shows .steady) ∧
        (k.preStage ≤ j → shows (.blink (min 5 (1 + (j - k.preStage) / 20)))))))

/-- RESTART places its REPLY first, then the interval of 200 ms begins, nothing else changing at that moment but that the
unit takes its next frame when the request was the one in hand (R161; log 8); the end of the
interval puts every stream at rest with its configuration and accounts kept, empties queue and staging, sends every segment
that is not FREE into its flush, makes DISCHARGING lots OPEN and keeps PLANNED and OPEN ones, ends the unlock, aborts a
capture that holds it, polls every gauge of a bin in service at once with misses 0, keeps routes, hold map, bin
configurations and gauge states, fills and classes, calibrations, residues and event masks, and raises RESTARTED; each
stream that was FEEDING sends a PERMIT with feed 0; CLOSING lots lose their streams and complete, in table order, into the
out-turn slots that are free, the others waiting (R15, R42, R49, R104, R128, R144, R168, R169). Outside an interval its end
does nothing, and within one it acts whatever time is left (log 3); the order of the blocks, and of the streams, bins and
segments within one, is the model's choice (log 30). -/
def Obligations.RestartAndItsEnd : Prop :=
  (∀ (q : Requester) (s : State), s.mgmt.restartLeft = none →
    let c := Instr.restart q (some ())
    let m := { s.mgmt with restartLeft := some 200 }
    let begun (m : Management) := { s with loop := (s.placeReply q .done []).loop, mgmt := m }
    ((∃ f, s.mgmt.inHand = some f ∧ decodeRequest f = c) →
      exec c s = .next (begun { m with input := s.mgmt.input.tail, inHand := s.mgmt.input.head? })) ∧
    (¬(∃ f, s.mgmt.inHand = some f ∧ decodeRequest f = c) → exec c s = .next (begun m))) ∧
  (∀ s : State, s.mgmt.restartLeft = none → exec .restartIntervalEnd s = .next s) ∧
  (∀ (s : State) (i : StreamIdx),
    let x := s.stream i
    let rest := { x with
      state := .idle, reasons := HoldSet.none, fromIdle := false, noBinLot := none, faulted := IdxSet.empty 64
      currentLot := none, activeRoute := none, last := none, fedAtLast := false, lastLookup := none, demand := false
      silence := none, permit := none, drain := none, suspect := none }
    (x.state ≠ .feeding → restartStream i s = refreshLamps (s.putStream i rest)) ∧
    (∀ a r y n, x.state = .feeding → x.config.unloader = some a → x.activeRoute = some r → s.routeAt r = some y →
      x.currentLot = some n →
      restartStream i s = refreshLamps ((s.place (.permit a i false y.bin n)).putStream i rest))) ∧
  (∀ s : State, s.mgmt.restartLeft ≠ none →
    let ended := endUnlock .restart { s with mgmt := { s.mgmt with restartLeft := none } }
    let streams := (List.finRange 8).foldl (fun v i => restartStream i v) ended
    let lots := (List.finRange 32).foldl (fun v k => restartLot k v) streams
    let asked := { lots with alloc := { lots.alloc with queue := [], staging := Tbl.fill 8 none } }
    let bins := (List.finRange 40).foldl (fun v b => restartBin b v) asked
    ∃ u, exec .restartIntervalEnd s = happens u ∧
    u = raise .restarted 0 ((List.finRange 64).foldl (fun v g => restartSeg g v) bins) ∧
    u.mgmt.restartLeft = none ∧ u.mgmt.unlock = none ∧
    (∀ i,
      let x := s.stream i
      u.stream i = { x with
        state := .idle, reasons := HoldSet.none, fromIdle := false, noBinLot := none, faulted := IdxSet.empty 64
        currentLot := none, activeRoute := none, last := none, fedAtLast := false, lastLookup := none, demand := false
        silence := none, permit := none, drain := none, suspect := none }) ∧
    u.alloc.queue = [] ∧ (∀ i, u.stagingOf i = none) ∧ u.alloc.routes = s.alloc.routes ∧
    (∀ g, (s.seg g).state = .free → u.seg g = s.seg g) ∧
    (∀ g k, (s.seg g).state ≠ .free → (s.seg g).config = some k → 0 < k.flushTime → u.seg g = { s.seg g with
      state := .flushing, kind := none, holders := IdxSet.empty 8, feeders := IdxSet.empty 8, underFlow := false
      unflushed := true, flush := some (k.flushTime * 100), travel := none }) ∧
    (∀ g k, (s.seg g).state ≠ .free → (s.seg g).config = some k → k.flushTime = 0 →
      (u.seg g).state = if (s.seg g).gateBin = none then .free else .closing) ∧
    (∀ k l, s.lotAt k = some l →
      (l.state = .planned ∨ l.state = .opened → u.lotAt k = some l) ∧
      (l.state = .discharging → u.lotAt k = some { l with state := .opened, attached := IdxSet.empty 8 }) ∧
      (l.state = .closing →
        let before := (List.finRange 32).filter fun j => decide (j < k) &&
          (match s.lotAt j with | some m => decide (m.state = .closing) | none => false)
        let slot := s.lot.outturn.length + before.length
        (slot < 16 → u.lotAt k = none ∧ u.lot.outturn[slot]? = some ⟨l.number, l.cls, l.declared, l.certified,
          l.uncertified, l.used, l.bins, l.closeKind.getD .requested⟩) ∧
        (16 ≤ slot → u.lotAt k = some { l with attached := IdxSet.empty 8, outturnFullReported := true }))) ∧
    s.lot.outturn <+: u.lot.outturn ∧
    (∀ c w, s.tally.capture = some c → s.mgmt.unlock = some w → w.held = true →
      u.tally.capture = none ∧ u.tallyOf c.stream = { s.tallyOf c.stream with
        report := some ⟨.aborted .restart, c.window, c.counts, c.time, (s.tallyOf c.stream).serial⟩ }) ∧
    (∀ b, (u.bin b).misses = 0 ∧ (u.bin b).pollOutstanding = false ∧ (u.bin b).replyTimer = none ∧
      (u.bin b).config = (s.bin b).config ∧ (u.bin b).gaugeState = (s.bin b).gaugeState ∧
      (u.bin b).gaugeLevel = (s.bin b).gaugeLevel ∧
      (u.bin b).fill = (s.bin b).fill ∧ (u.bin b).cls = (s.bin b).cls ∧
      (∀ k, (s.bin b).config = some k → k.gauge ≠ none → (s.bin b).state ≠ .outOfService →
        (u.bin b).pollTimer = some 0)) ∧
    (∀ i, (u.tallyOf i).account = (s.tallyOf i).account) ∧ u.lot.holdMap = s.lot.holdMap ∧
    (∀ k, (u.ind.events.get k).mask = (s.ind.events.get k).mask) ∧ (u.ind.events.get 1).flag = true ∧
    u.mgmt.input = s.mgmt.input ∧ u.mgmt.inHand = s.mgmt.inHand)
end

