-- ==== Sys2Proof/Laws/State.lean ====
section
/-! SUPPORT. One lemma for each update of State and each of its fields, and for each update and each record read: what
the update leaves and what it sets. -/

namespace Sys2Proof.Machine

variable (s : State)

/-! ## putStream -/

@[simp] theorem State.putStream_pending (i : StreamIdx) (x : Stream) : (s.putStream i x).pending = s.pending := rfl
@[simp] theorem State.putStream_agenda (i : StreamIdx) (x : Stream) : (s.putStream i x).agenda = s.agenda := rfl
@[simp] theorem State.putStream_passDue (i : StreamIdx) (x : Stream) : (s.putStream i x).passDue = s.passDue := rfl
@[simp] theorem State.putStream_charTime (i : StreamIdx) (x : Stream) : (s.putStream i x).charTime = s.charTime := rfl
@[simp] theorem State.putStream_loop (i : StreamIdx) (x : Stream) : (s.putStream i x).loop = s.loop := rfl
@[simp] theorem State.putStream_streams (i : StreamIdx) (x : Stream) : (s.putStream i x).streams = s.streams.set i x := rfl
@[simp] theorem State.putStream_tally (i : StreamIdx) (x : Stream) : (s.putStream i x).tally = s.tally := rfl
@[simp] theorem State.putStream_lot (i : StreamIdx) (x : Stream) : (s.putStream i x).lot = s.lot := rfl
@[simp] theorem State.putStream_segs (i : StreamIdx) (x : Stream) : (s.putStream i x).segs = s.segs := rfl
@[simp] theorem State.putStream_alloc (i : StreamIdx) (x : Stream) : (s.putStream i x).alloc = s.alloc := rfl
@[simp] theorem State.putStream_bins (i : StreamIdx) (x : Stream) : (s.putStream i x).bins = s.bins := rfl
@[simp] theorem State.putStream_mgmt (i : StreamIdx) (x : Stream) : (s.putStream i x).mgmt = s.mgmt := rfl
@[simp] theorem State.putStream_ind (i : StreamIdx) (x : Stream) : (s.putStream i x).ind = s.ind := rfl

/-! ## putTally -/

@[simp] theorem State.putTally_pending (i : StreamIdx) (x : Tally) : (s.putTally i x).pending = s.pending := rfl
@[simp] theorem State.putTally_agenda (i : StreamIdx) (x : Tally) : (s.putTally i x).agenda = s.agenda := rfl
@[simp] theorem State.putTally_passDue (i : StreamIdx) (x : Tally) : (s.putTally i x).passDue = s.passDue := rfl
@[simp] theorem State.putTally_charTime (i : StreamIdx) (x : Tally) : (s.putTally i x).charTime = s.charTime := rfl
@[simp] theorem State.putTally_loop (i : StreamIdx) (x : Tally) : (s.putTally i x).loop = s.loop := rfl
@[simp] theorem State.putTally_streams (i : StreamIdx) (x : Tally) : (s.putTally i x).streams = s.streams := rfl
@[simp] theorem State.putTally_tally (i : StreamIdx) (x : Tally) : (s.putTally i x).tally = { s.tally with streams := s.tally.streams.set i x } := rfl
@[simp] theorem State.putTally_lot (i : StreamIdx) (x : Tally) : (s.putTally i x).lot = s.lot := rfl
@[simp] theorem State.putTally_segs (i : StreamIdx) (x : Tally) : (s.putTally i x).segs = s.segs := rfl
@[simp] theorem State.putTally_alloc (i : StreamIdx) (x : Tally) : (s.putTally i x).alloc = s.alloc := rfl
@[simp] theorem State.putTally_bins (i : StreamIdx) (x : Tally) : (s.putTally i x).bins = s.bins := rfl
@[simp] theorem State.putTally_mgmt (i : StreamIdx) (x : Tally) : (s.putTally i x).mgmt = s.mgmt := rfl
@[simp] theorem State.putTally_ind (i : StreamIdx) (x : Tally) : (s.putTally i x).ind = s.ind := rfl

/-! ## putCapture -/

@[simp] theorem State.putCapture_pending (c : Option Capture) : (s.putCapture c).pending = s.pending := rfl
@[simp] theorem State.putCapture_agenda (c : Option Capture) : (s.putCapture c).agenda = s.agenda := rfl
@[simp] theorem State.putCapture_passDue (c : Option Capture) : (s.putCapture c).passDue = s.passDue := rfl
@[simp] theorem State.putCapture_charTime (c : Option Capture) : (s.putCapture c).charTime = s.charTime := rfl
@[simp] theorem State.putCapture_loop (c : Option Capture) : (s.putCapture c).loop = s.loop := rfl
@[simp] theorem State.putCapture_streams (c : Option Capture) : (s.putCapture c).streams = s.streams := rfl
@[simp] theorem State.putCapture_tally (c : Option Capture) : (s.putCapture c).tally = { s.tally with capture := c } := rfl
@[simp] theorem State.putCapture_lot (c : Option Capture) : (s.putCapture c).lot = s.lot := rfl
@[simp] theorem State.putCapture_segs (c : Option Capture) : (s.putCapture c).segs = s.segs := rfl
@[simp] theorem State.putCapture_alloc (c : Option Capture) : (s.putCapture c).alloc = s.alloc := rfl
@[simp] theorem State.putCapture_bins (c : Option Capture) : (s.putCapture c).bins = s.bins := rfl
@[simp] theorem State.putCapture_mgmt (c : Option Capture) : (s.putCapture c).mgmt = s.mgmt := rfl
@[simp] theorem State.putCapture_ind (c : Option Capture) : (s.putCapture c).ind = s.ind := rfl

/-! ## putLot -/

@[simp] theorem State.putLot_pending (i : LotIdx) (x : Option Lot) : (s.putLot i x).pending = s.pending := rfl
@[simp] theorem State.putLot_agenda (i : LotIdx) (x : Option Lot) : (s.putLot i x).agenda = s.agenda := rfl
@[simp] theorem State.putLot_passDue (i : LotIdx) (x : Option Lot) : (s.putLot i x).passDue = s.passDue := rfl
@[simp] theorem State.putLot_charTime (i : LotIdx) (x : Option Lot) : (s.putLot i x).charTime = s.charTime := rfl
@[simp] theorem State.putLot_loop (i : LotIdx) (x : Option Lot) : (s.putLot i x).loop = s.loop := rfl
@[simp] theorem State.putLot_streams (i : LotIdx) (x : Option Lot) : (s.putLot i x).streams = s.streams := rfl
@[simp] theorem State.putLot_tally (i : LotIdx) (x : Option Lot) : (s.putLot i x).tally = s.tally := rfl
@[simp] theorem State.putLot_lot (i : LotIdx) (x : Option Lot) : (s.putLot i x).lot = { s.lot with lots := s.lot.lots.set i x } := rfl
@[simp] theorem State.putLot_segs (i : LotIdx) (x : Option Lot) : (s.putLot i x).segs = s.segs := rfl
@[simp] theorem State.putLot_alloc (i : LotIdx) (x : Option Lot) : (s.putLot i x).alloc = s.alloc := rfl
@[simp] theorem State.putLot_bins (i : LotIdx) (x : Option Lot) : (s.putLot i x).bins = s.bins := rfl
@[simp] theorem State.putLot_mgmt (i : LotIdx) (x : Option Lot) : (s.putLot i x).mgmt = s.mgmt := rfl
@[simp] theorem State.putLot_ind (i : LotIdx) (x : Option Lot) : (s.putLot i x).ind = s.ind := rfl

/-! ## putOutturn -/

@[simp] theorem State.putOutturn_pending (l : List Outturn) : (s.putOutturn l).pending = s.pending := rfl
@[simp] theorem State.putOutturn_agenda (l : List Outturn) : (s.putOutturn l).agenda = s.agenda := rfl
@[simp] theorem State.putOutturn_passDue (l : List Outturn) : (s.putOutturn l).passDue = s.passDue := rfl
@[simp] theorem State.putOutturn_charTime (l : List Outturn) : (s.putOutturn l).charTime = s.charTime := rfl
@[simp] theorem State.putOutturn_loop (l : List Outturn) : (s.putOutturn l).loop = s.loop := rfl
@[simp] theorem State.putOutturn_streams (l : List Outturn) : (s.putOutturn l).streams = s.streams := rfl
@[simp] theorem State.putOutturn_tally (l : List Outturn) : (s.putOutturn l).tally = s.tally := rfl
@[simp] theorem State.putOutturn_lot (l : List Outturn) : (s.putOutturn l).lot = { s.lot with outturn := l } := rfl
@[simp] theorem State.putOutturn_segs (l : List Outturn) : (s.putOutturn l).segs = s.segs := rfl
@[simp] theorem State.putOutturn_alloc (l : List Outturn) : (s.putOutturn l).alloc = s.alloc := rfl
@[simp] theorem State.putOutturn_bins (l : List Outturn) : (s.putOutturn l).bins = s.bins := rfl
@[simp] theorem State.putOutturn_mgmt (l : List Outturn) : (s.putOutturn l).mgmt = s.mgmt := rfl
@[simp] theorem State.putOutturn_ind (l : List Outturn) : (s.putOutturn l).ind = s.ind := rfl

/-! ## putHold -/

@[simp] theorem State.putHold_pending (i : HoldIdx) (x : Option HoldEntry) : (s.putHold i x).pending = s.pending := rfl
@[simp] theorem State.putHold_agenda (i : HoldIdx) (x : Option HoldEntry) : (s.putHold i x).agenda = s.agenda := rfl
@[simp] theorem State.putHold_passDue (i : HoldIdx) (x : Option HoldEntry) : (s.putHold i x).passDue = s.passDue := rfl
@[simp] theorem State.putHold_charTime (i : HoldIdx) (x : Option HoldEntry) : (s.putHold i x).charTime = s.charTime := rfl
@[simp] theorem State.putHold_loop (i : HoldIdx) (x : Option HoldEntry) : (s.putHold i x).loop = s.loop := rfl
@[simp] theorem State.putHold_streams (i : HoldIdx) (x : Option HoldEntry) : (s.putHold i x).streams = s.streams := rfl
@[simp] theorem State.putHold_tally (i : HoldIdx) (x : Option HoldEntry) : (s.putHold i x).tally = s.tally := rfl
@[simp] theorem State.putHold_lot (i : HoldIdx) (x : Option HoldEntry) : (s.putHold i x).lot = { s.lot with holdMap := s.lot.holdMap.set i x } := rfl
@[simp] theorem State.putHold_segs (i : HoldIdx) (x : Option HoldEntry) : (s.putHold i x).segs = s.segs := rfl
@[simp] theorem State.putHold_alloc (i : HoldIdx) (x : Option HoldEntry) : (s.putHold i x).alloc = s.alloc := rfl
@[simp] theorem State.putHold_bins (i : HoldIdx) (x : Option HoldEntry) : (s.putHold i x).bins = s.bins := rfl
@[simp] theorem State.putHold_mgmt (i : HoldIdx) (x : Option HoldEntry) : (s.putHold i x).mgmt = s.mgmt := rfl
@[simp] theorem State.putHold_ind (i : HoldIdx) (x : Option HoldEntry) : (s.putHold i x).ind = s.ind := rfl

/-! ## putSeg -/

@[simp] theorem State.putSeg_pending (g : SegIdx) (x : Segment) : (s.putSeg g x).pending = s.pending := rfl
@[simp] theorem State.putSeg_agenda (g : SegIdx) (x : Segment) : (s.putSeg g x).agenda = s.agenda := rfl
@[simp] theorem State.putSeg_passDue (g : SegIdx) (x : Segment) : (s.putSeg g x).passDue = s.passDue := rfl
@[simp] theorem State.putSeg_charTime (g : SegIdx) (x : Segment) : (s.putSeg g x).charTime = s.charTime := rfl
@[simp] theorem State.putSeg_loop (g : SegIdx) (x : Segment) : (s.putSeg g x).loop = s.loop := rfl
@[simp] theorem State.putSeg_streams (g : SegIdx) (x : Segment) : (s.putSeg g x).streams = s.streams := rfl
@[simp] theorem State.putSeg_tally (g : SegIdx) (x : Segment) : (s.putSeg g x).tally = s.tally := rfl
@[simp] theorem State.putSeg_lot (g : SegIdx) (x : Segment) : (s.putSeg g x).lot = s.lot := rfl
@[simp] theorem State.putSeg_segs (g : SegIdx) (x : Segment) : (s.putSeg g x).segs = s.segs.set g x := rfl
@[simp] theorem State.putSeg_alloc (g : SegIdx) (x : Segment) : (s.putSeg g x).alloc = s.alloc := rfl
@[simp] theorem State.putSeg_bins (g : SegIdx) (x : Segment) : (s.putSeg g x).bins = s.bins := rfl
@[simp] theorem State.putSeg_mgmt (g : SegIdx) (x : Segment) : (s.putSeg g x).mgmt = s.mgmt := rfl
@[simp] theorem State.putSeg_ind (g : SegIdx) (x : Segment) : (s.putSeg g x).ind = s.ind := rfl

/-! ## putRoute -/

@[simp] theorem State.putRoute_pending (r : RouteIdx) (x : Option Route) : (s.putRoute r x).pending = s.pending := rfl
@[simp] theorem State.putRoute_agenda (r : RouteIdx) (x : Option Route) : (s.putRoute r x).agenda = s.agenda := rfl
@[simp] theorem State.putRoute_passDue (r : RouteIdx) (x : Option Route) : (s.putRoute r x).passDue = s.passDue := rfl
@[simp] theorem State.putRoute_charTime (r : RouteIdx) (x : Option Route) : (s.putRoute r x).charTime = s.charTime := rfl
@[simp] theorem State.putRoute_loop (r : RouteIdx) (x : Option Route) : (s.putRoute r x).loop = s.loop := rfl
@[simp] theorem State.putRoute_streams (r : RouteIdx) (x : Option Route) : (s.putRoute r x).streams = s.streams := rfl
@[simp] theorem State.putRoute_tally (r : RouteIdx) (x : Option Route) : (s.putRoute r x).tally = s.tally := rfl
@[simp] theorem State.putRoute_lot (r : RouteIdx) (x : Option Route) : (s.putRoute r x).lot = s.lot := rfl
@[simp] theorem State.putRoute_segs (r : RouteIdx) (x : Option Route) : (s.putRoute r x).segs = s.segs := rfl
@[simp] theorem State.putRoute_alloc (r : RouteIdx) (x : Option Route) : (s.putRoute r x).alloc = { s.alloc with routes := s.alloc.routes.set r x } := rfl
@[simp] theorem State.putRoute_bins (r : RouteIdx) (x : Option Route) : (s.putRoute r x).bins = s.bins := rfl
@[simp] theorem State.putRoute_mgmt (r : RouteIdx) (x : Option Route) : (s.putRoute r x).mgmt = s.mgmt := rfl
@[simp] theorem State.putRoute_ind (r : RouteIdx) (x : Option Route) : (s.putRoute r x).ind = s.ind := rfl

/-! ## putQueue -/

@[simp] theorem State.putQueue_pending (q : List Request) : (s.putQueue q).pending = s.pending := rfl
@[simp] theorem State.putQueue_agenda (q : List Request) : (s.putQueue q).agenda = s.agenda := rfl
@[simp] theorem State.putQueue_passDue (q : List Request) : (s.putQueue q).passDue = s.passDue := rfl
@[simp] theorem State.putQueue_charTime (q : List Request) : (s.putQueue q).charTime = s.charTime := rfl
@[simp] theorem State.putQueue_loop (q : List Request) : (s.putQueue q).loop = s.loop := rfl
@[simp] theorem State.putQueue_streams (q : List Request) : (s.putQueue q).streams = s.streams := rfl
@[simp] theorem State.putQueue_tally (q : List Request) : (s.putQueue q).tally = s.tally := rfl
@[simp] theorem State.putQueue_lot (q : List Request) : (s.putQueue q).lot = s.lot := rfl
@[simp] theorem State.putQueue_segs (q : List Request) : (s.putQueue q).segs = s.segs := rfl
@[simp] theorem State.putQueue_alloc (q : List Request) : (s.putQueue q).alloc = { s.alloc with queue := q } := rfl
@[simp] theorem State.putQueue_bins (q : List Request) : (s.putQueue q).bins = s.bins := rfl
@[simp] theorem State.putQueue_mgmt (q : List Request) : (s.putQueue q).mgmt = s.mgmt := rfl
@[simp] theorem State.putQueue_ind (q : List Request) : (s.putQueue q).ind = s.ind := rfl

/-! ## putStaging -/

@[simp] theorem State.putStaging_pending (i : StreamIdx) (x : Option Staging) : (s.putStaging i x).pending = s.pending := rfl
@[simp] theorem State.putStaging_agenda (i : StreamIdx) (x : Option Staging) : (s.putStaging i x).agenda = s.agenda := rfl
@[simp] theorem State.putStaging_passDue (i : StreamIdx) (x : Option Staging) : (s.putStaging i x).passDue = s.passDue := rfl
@[simp] theorem State.putStaging_charTime (i : StreamIdx) (x : Option Staging) : (s.putStaging i x).charTime = s.charTime := rfl
@[simp] theorem State.putStaging_loop (i : StreamIdx) (x : Option Staging) : (s.putStaging i x).loop = s.loop := rfl
@[simp] theorem State.putStaging_streams (i : StreamIdx) (x : Option Staging) : (s.putStaging i x).streams = s.streams := rfl
@[simp] theorem State.putStaging_tally (i : StreamIdx) (x : Option Staging) : (s.putStaging i x).tally = s.tally := rfl
@[simp] theorem State.putStaging_lot (i : StreamIdx) (x : Option Staging) : (s.putStaging i x).lot = s.lot := rfl
@[simp] theorem State.putStaging_segs (i : StreamIdx) (x : Option Staging) : (s.putStaging i x).segs = s.segs := rfl
@[simp] theorem State.putStaging_alloc (i : StreamIdx) (x : Option Staging) : (s.putStaging i x).alloc = { s.alloc with staging := s.alloc.staging.set i x } := rfl
@[simp] theorem State.putStaging_bins (i : StreamIdx) (x : Option Staging) : (s.putStaging i x).bins = s.bins := rfl
@[simp] theorem State.putStaging_mgmt (i : StreamIdx) (x : Option Staging) : (s.putStaging i x).mgmt = s.mgmt := rfl
@[simp] theorem State.putStaging_ind (i : StreamIdx) (x : Option Staging) : (s.putStaging i x).ind = s.ind := rfl

/-! ## putBin -/

@[simp] theorem State.putBin_pending (b : BinIdx) (x : Bin) : (s.putBin b x).pending = s.pending := rfl
@[simp] theorem State.putBin_agenda (b : BinIdx) (x : Bin) : (s.putBin b x).agenda = s.agenda := rfl
@[simp] theorem State.putBin_passDue (b : BinIdx) (x : Bin) : (s.putBin b x).passDue = s.passDue := rfl
@[simp] theorem State.putBin_charTime (b : BinIdx) (x : Bin) : (s.putBin b x).charTime = s.charTime := rfl
@[simp] theorem State.putBin_loop (b : BinIdx) (x : Bin) : (s.putBin b x).loop = s.loop := rfl
@[simp] theorem State.putBin_streams (b : BinIdx) (x : Bin) : (s.putBin b x).streams = s.streams := rfl
@[simp] theorem State.putBin_tally (b : BinIdx) (x : Bin) : (s.putBin b x).tally = s.tally := rfl
@[simp] theorem State.putBin_lot (b : BinIdx) (x : Bin) : (s.putBin b x).lot = s.lot := rfl
@[simp] theorem State.putBin_segs (b : BinIdx) (x : Bin) : (s.putBin b x).segs = s.segs := rfl
@[simp] theorem State.putBin_alloc (b : BinIdx) (x : Bin) : (s.putBin b x).alloc = s.alloc := rfl
@[simp] theorem State.putBin_bins (b : BinIdx) (x : Bin) : (s.putBin b x).bins = s.bins.set b x := rfl
@[simp] theorem State.putBin_mgmt (b : BinIdx) (x : Bin) : (s.putBin b x).mgmt = s.mgmt := rfl
@[simp] theorem State.putBin_ind (b : BinIdx) (x : Bin) : (s.putBin b x).ind = s.ind := rfl

/-! ## putLoop -/

@[simp] theorem State.putLoop_pending (l : Loop) : (s.putLoop l).pending = s.pending := rfl
@[simp] theorem State.putLoop_agenda (l : Loop) : (s.putLoop l).agenda = s.agenda := rfl
@[simp] theorem State.putLoop_passDue (l : Loop) : (s.putLoop l).passDue = s.passDue := rfl
@[simp] theorem State.putLoop_charTime (l : Loop) : (s.putLoop l).charTime = s.charTime := rfl
@[simp] theorem State.putLoop_loop (l : Loop) : (s.putLoop l).loop = l := rfl
@[simp] theorem State.putLoop_streams (l : Loop) : (s.putLoop l).streams = s.streams := rfl
@[simp] theorem State.putLoop_tally (l : Loop) : (s.putLoop l).tally = s.tally := rfl
@[simp] theorem State.putLoop_lot (l : Loop) : (s.putLoop l).lot = s.lot := rfl
@[simp] theorem State.putLoop_segs (l : Loop) : (s.putLoop l).segs = s.segs := rfl
@[simp] theorem State.putLoop_alloc (l : Loop) : (s.putLoop l).alloc = s.alloc := rfl
@[simp] theorem State.putLoop_bins (l : Loop) : (s.putLoop l).bins = s.bins := rfl
@[simp] theorem State.putLoop_mgmt (l : Loop) : (s.putLoop l).mgmt = s.mgmt := rfl
@[simp] theorem State.putLoop_ind (l : Loop) : (s.putLoop l).ind = s.ind := rfl

/-! ## putMgmt -/

@[simp] theorem State.putMgmt_pending (m : Management) : (s.putMgmt m).pending = s.pending := rfl
@[simp] theorem State.putMgmt_agenda (m : Management) : (s.putMgmt m).agenda = s.agenda := rfl
@[simp] theorem State.putMgmt_passDue (m : Management) : (s.putMgmt m).passDue = s.passDue := rfl
@[simp] theorem State.putMgmt_charTime (m : Management) : (s.putMgmt m).charTime = s.charTime := rfl
@[simp] theorem State.putMgmt_loop (m : Management) : (s.putMgmt m).loop = s.loop := rfl
@[simp] theorem State.putMgmt_streams (m : Management) : (s.putMgmt m).streams = s.streams := rfl
@[simp] theorem State.putMgmt_tally (m : Management) : (s.putMgmt m).tally = s.tally := rfl
@[simp] theorem State.putMgmt_lot (m : Management) : (s.putMgmt m).lot = s.lot := rfl
@[simp] theorem State.putMgmt_segs (m : Management) : (s.putMgmt m).segs = s.segs := rfl
@[simp] theorem State.putMgmt_alloc (m : Management) : (s.putMgmt m).alloc = s.alloc := rfl
@[simp] theorem State.putMgmt_bins (m : Management) : (s.putMgmt m).bins = s.bins := rfl
@[simp] theorem State.putMgmt_mgmt (m : Management) : (s.putMgmt m).mgmt = m := rfl
@[simp] theorem State.putMgmt_ind (m : Management) : (s.putMgmt m).ind = s.ind := rfl

/-! ## putUnlock -/

@[simp] theorem State.putUnlock_pending (u : Option Unlock) : (s.putUnlock u).pending = s.pending := rfl
@[simp] theorem State.putUnlock_agenda (u : Option Unlock) : (s.putUnlock u).agenda = s.agenda := rfl
@[simp] theorem State.putUnlock_passDue (u : Option Unlock) : (s.putUnlock u).passDue = s.passDue := rfl
@[simp] theorem State.putUnlock_charTime (u : Option Unlock) : (s.putUnlock u).charTime = s.charTime := rfl
@[simp] theorem State.putUnlock_loop (u : Option Unlock) : (s.putUnlock u).loop = s.loop := rfl
@[simp] theorem State.putUnlock_streams (u : Option Unlock) : (s.putUnlock u).streams = s.streams := rfl
@[simp] theorem State.putUnlock_tally (u : Option Unlock) : (s.putUnlock u).tally = s.tally := rfl
@[simp] theorem State.putUnlock_lot (u : Option Unlock) : (s.putUnlock u).lot = s.lot := rfl
@[simp] theorem State.putUnlock_segs (u : Option Unlock) : (s.putUnlock u).segs = s.segs := rfl
@[simp] theorem State.putUnlock_alloc (u : Option Unlock) : (s.putUnlock u).alloc = s.alloc := rfl
@[simp] theorem State.putUnlock_bins (u : Option Unlock) : (s.putUnlock u).bins = s.bins := rfl
@[simp] theorem State.putUnlock_mgmt (u : Option Unlock) : (s.putUnlock u).mgmt = { s.mgmt with unlock := u } := rfl
@[simp] theorem State.putUnlock_ind (u : Option Unlock) : (s.putUnlock u).ind = s.ind := rfl

/-! ## putInd -/

@[simp] theorem State.putInd_pending (x : Indication) : (s.putInd x).pending = s.pending := rfl
@[simp] theorem State.putInd_agenda (x : Indication) : (s.putInd x).agenda = s.agenda := rfl
@[simp] theorem State.putInd_passDue (x : Indication) : (s.putInd x).passDue = s.passDue := rfl
@[simp] theorem State.putInd_charTime (x : Indication) : (s.putInd x).charTime = s.charTime := rfl
@[simp] theorem State.putInd_loop (x : Indication) : (s.putInd x).loop = s.loop := rfl
@[simp] theorem State.putInd_streams (x : Indication) : (s.putInd x).streams = s.streams := rfl
@[simp] theorem State.putInd_tally (x : Indication) : (s.putInd x).tally = s.tally := rfl
@[simp] theorem State.putInd_lot (x : Indication) : (s.putInd x).lot = s.lot := rfl
@[simp] theorem State.putInd_segs (x : Indication) : (s.putInd x).segs = s.segs := rfl
@[simp] theorem State.putInd_alloc (x : Indication) : (s.putInd x).alloc = s.alloc := rfl
@[simp] theorem State.putInd_bins (x : Indication) : (s.putInd x).bins = s.bins := rfl
@[simp] theorem State.putInd_mgmt (x : Indication) : (s.putInd x).mgmt = s.mgmt := rfl
@[simp] theorem State.putInd_ind (x : Indication) : (s.putInd x).ind = x := rfl

/-! ## putEvents -/

@[simp] theorem State.putEvents_pending (e : Tbl EventRecord 18) : (s.putEvents e).pending = s.pending := rfl
@[simp] theorem State.putEvents_agenda (e : Tbl EventRecord 18) : (s.putEvents e).agenda = s.agenda := rfl
@[simp] theorem State.putEvents_passDue (e : Tbl EventRecord 18) : (s.putEvents e).passDue = s.passDue := rfl
@[simp] theorem State.putEvents_charTime (e : Tbl EventRecord 18) : (s.putEvents e).charTime = s.charTime := rfl
@[simp] theorem State.putEvents_loop (e : Tbl EventRecord 18) : (s.putEvents e).loop = s.loop := rfl
@[simp] theorem State.putEvents_streams (e : Tbl EventRecord 18) : (s.putEvents e).streams = s.streams := rfl
@[simp] theorem State.putEvents_tally (e : Tbl EventRecord 18) : (s.putEvents e).tally = s.tally := rfl
@[simp] theorem State.putEvents_lot (e : Tbl EventRecord 18) : (s.putEvents e).lot = s.lot := rfl
@[simp] theorem State.putEvents_segs (e : Tbl EventRecord 18) : (s.putEvents e).segs = s.segs := rfl
@[simp] theorem State.putEvents_alloc (e : Tbl EventRecord 18) : (s.putEvents e).alloc = s.alloc := rfl
@[simp] theorem State.putEvents_bins (e : Tbl EventRecord 18) : (s.putEvents e).bins = s.bins := rfl
@[simp] theorem State.putEvents_mgmt (e : Tbl EventRecord 18) : (s.putEvents e).mgmt = s.mgmt := rfl
@[simp] theorem State.putEvents_ind (e : Tbl EventRecord 18) : (s.putEvents e).ind = { s.ind with events := e } := rfl

/-! ## emit -/

@[simp] theorem State.emit_pending (r : Report) : (s.emit r).pending = s.pending := rfl
@[simp] theorem State.emit_agenda (r : Report) : (s.emit r).agenda = s.agenda ++ [r] := rfl
@[simp] theorem State.emit_passDue (r : Report) : (s.emit r).passDue = s.passDue := rfl
@[simp] theorem State.emit_charTime (r : Report) : (s.emit r).charTime = s.charTime := rfl
@[simp] theorem State.emit_loop (r : Report) : (s.emit r).loop = s.loop := rfl
@[simp] theorem State.emit_streams (r : Report) : (s.emit r).streams = s.streams := rfl
@[simp] theorem State.emit_tally (r : Report) : (s.emit r).tally = s.tally := rfl
@[simp] theorem State.emit_lot (r : Report) : (s.emit r).lot = s.lot := rfl
@[simp] theorem State.emit_segs (r : Report) : (s.emit r).segs = s.segs := rfl
@[simp] theorem State.emit_alloc (r : Report) : (s.emit r).alloc = s.alloc := rfl
@[simp] theorem State.emit_bins (r : Report) : (s.emit r).bins = s.bins := rfl
@[simp] theorem State.emit_mgmt (r : Report) : (s.emit r).mgmt = s.mgmt := rfl
@[simp] theorem State.emit_ind (r : Report) : (s.emit r).ind = s.ind := rfl

/-! ## occasion -/

@[simp] theorem State.occasion_pending : (s.occasion).pending = s.pending := rfl
@[simp] theorem State.occasion_agenda : (s.occasion).agenda = s.agenda := rfl
@[simp] theorem State.occasion_passDue : (s.occasion).passDue = true := rfl
@[simp] theorem State.occasion_charTime : (s.occasion).charTime = s.charTime := rfl
@[simp] theorem State.occasion_loop : (s.occasion).loop = s.loop := rfl
@[simp] theorem State.occasion_streams : (s.occasion).streams = s.streams := rfl
@[simp] theorem State.occasion_tally : (s.occasion).tally = s.tally := rfl
@[simp] theorem State.occasion_lot : (s.occasion).lot = s.lot := rfl
@[simp] theorem State.occasion_segs : (s.occasion).segs = s.segs := rfl
@[simp] theorem State.occasion_alloc : (s.occasion).alloc = s.alloc := rfl
@[simp] theorem State.occasion_bins : (s.occasion).bins = s.bins := rfl
@[simp] theorem State.occasion_mgmt : (s.occasion).mgmt = s.mgmt := rfl
@[simp] theorem State.occasion_ind : (s.occasion).ind = s.ind := rfl

/-! ## Records read after an update of another -/

@[simp] theorem State.stream_putTally (i : StreamIdx) (x : Tally) (j : StreamIdx) : (s.putTally i x).stream j = s.stream j := rfl
@[simp] theorem State.stream_putCapture (c : Option Capture) (j : StreamIdx) : (s.putCapture c).stream j = s.stream j := rfl
@[simp] theorem State.stream_putLot (i : LotIdx) (x : Option Lot) (j : StreamIdx) : (s.putLot i x).stream j = s.stream j := rfl
@[simp] theorem State.stream_putOutturn (l : List Outturn) (j : StreamIdx) : (s.putOutturn l).stream j = s.stream j := rfl
@[simp] theorem State.stream_putHold (i : HoldIdx) (x : Option HoldEntry) (j : StreamIdx) : (s.putHold i x).stream j = s.stream j := rfl
@[simp] theorem State.stream_putSeg (g : SegIdx) (x : Segment) (j : StreamIdx) : (s.putSeg g x).stream j = s.stream j := rfl
@[simp] theorem State.stream_putRoute (r : RouteIdx) (x : Option Route) (j : StreamIdx) : (s.putRoute r x).stream j = s.stream j := rfl
@[simp] theorem State.stream_putQueue (q : List Request) (j : StreamIdx) : (s.putQueue q).stream j = s.stream j := rfl
@[simp] theorem State.stream_putStaging (i : StreamIdx) (x : Option Staging) (j : StreamIdx) : (s.putStaging i x).stream j = s.stream j := rfl
@[simp] theorem State.stream_putBin (b : BinIdx) (x : Bin) (j : StreamIdx) : (s.putBin b x).stream j = s.stream j := rfl
@[simp] theorem State.stream_putLoop (l : Loop) (j : StreamIdx) : (s.putLoop l).stream j = s.stream j := rfl
@[simp] theorem State.stream_putMgmt (m : Management) (j : StreamIdx) : (s.putMgmt m).stream j = s.stream j := rfl
@[simp] theorem State.stream_putUnlock (u : Option Unlock) (j : StreamIdx) : (s.putUnlock u).stream j = s.stream j := rfl
@[simp] theorem State.stream_putInd (x : Indication) (j : StreamIdx) : (s.putInd x).stream j = s.stream j := rfl
@[simp] theorem State.stream_putEvents (e : Tbl EventRecord 18) (j : StreamIdx) : (s.putEvents e).stream j = s.stream j := rfl
@[simp] theorem State.stream_emit (r : Report) (j : StreamIdx) : (s.emit r).stream j = s.stream j := rfl
@[simp] theorem State.stream_occasion (j : StreamIdx) : (s.occasion).stream j = s.stream j := rfl

@[simp] theorem State.tallyOf_putStream (i : StreamIdx) (x : Stream) (j : StreamIdx) : (s.putStream i x).tallyOf j = s.tallyOf j := rfl
@[simp] theorem State.tallyOf_putCapture (c : Option Capture) (j : StreamIdx) : (s.putCapture c).tallyOf j = s.tallyOf j := rfl
@[simp] theorem State.tallyOf_putLot (i : LotIdx) (x : Option Lot) (j : StreamIdx) : (s.putLot i x).tallyOf j = s.tallyOf j := rfl
@[simp] theorem State.tallyOf_putOutturn (l : List Outturn) (j : StreamIdx) : (s.putOutturn l).tallyOf j = s.tallyOf j := rfl
@[simp] theorem State.tallyOf_putHold (i : HoldIdx) (x : Option HoldEntry) (j : StreamIdx) : (s.putHold i x).tallyOf j = s.tallyOf j := rfl
@[simp] theorem State.tallyOf_putSeg (g : SegIdx) (x : Segment) (j : StreamIdx) : (s.putSeg g x).tallyOf j = s.tallyOf j := rfl
@[simp] theorem State.tallyOf_putRoute (r : RouteIdx) (x : Option Route) (j : StreamIdx) : (s.putRoute r x).tallyOf j = s.tallyOf j := rfl
@[simp] theorem State.tallyOf_putQueue (q : List Request) (j : StreamIdx) : (s.putQueue q).tallyOf j = s.tallyOf j := rfl
@[simp] theorem State.tallyOf_putStaging (i : StreamIdx) (x : Option Staging) (j : StreamIdx) : (s.putStaging i x).tallyOf j = s.tallyOf j := rfl
@[simp] theorem State.tallyOf_putBin (b : BinIdx) (x : Bin) (j : StreamIdx) : (s.putBin b x).tallyOf j = s.tallyOf j := rfl
@[simp] theorem State.tallyOf_putLoop (l : Loop) (j : StreamIdx) : (s.putLoop l).tallyOf j = s.tallyOf j := rfl
@[simp] theorem State.tallyOf_putMgmt (m : Management) (j : StreamIdx) : (s.putMgmt m).tallyOf j = s.tallyOf j := rfl
@[simp] theorem State.tallyOf_putUnlock (u : Option Unlock) (j : StreamIdx) : (s.putUnlock u).tallyOf j = s.tallyOf j := rfl
@[simp] theorem State.tallyOf_putInd (x : Indication) (j : StreamIdx) : (s.putInd x).tallyOf j = s.tallyOf j := rfl
@[simp] theorem State.tallyOf_putEvents (e : Tbl EventRecord 18) (j : StreamIdx) : (s.putEvents e).tallyOf j = s.tallyOf j := rfl
@[simp] theorem State.tallyOf_emit (r : Report) (j : StreamIdx) : (s.emit r).tallyOf j = s.tallyOf j := rfl
@[simp] theorem State.tallyOf_occasion (j : StreamIdx) : (s.occasion).tallyOf j = s.tallyOf j := rfl

@[simp] theorem State.lotAt_putStream (i : StreamIdx) (x : Stream) (j : LotIdx) : (s.putStream i x).lotAt j = s.lotAt j := rfl
@[simp] theorem State.lotAt_putTally (i : StreamIdx) (x : Tally) (j : LotIdx) : (s.putTally i x).lotAt j = s.lotAt j := rfl
@[simp] theorem State.lotAt_putCapture (c : Option Capture) (j : LotIdx) : (s.putCapture c).lotAt j = s.lotAt j := rfl
@[simp] theorem State.lotAt_putOutturn (l : List Outturn) (j : LotIdx) : (s.putOutturn l).lotAt j = s.lotAt j := rfl
@[simp] theorem State.lotAt_putHold (i : HoldIdx) (x : Option HoldEntry) (j : LotIdx) : (s.putHold i x).lotAt j = s.lotAt j := rfl
@[simp] theorem State.lotAt_putSeg (g : SegIdx) (x : Segment) (j : LotIdx) : (s.putSeg g x).lotAt j = s.lotAt j := rfl
@[simp] theorem State.lotAt_putRoute (r : RouteIdx) (x : Option Route) (j : LotIdx) : (s.putRoute r x).lotAt j = s.lotAt j := rfl
@[simp] theorem State.lotAt_putQueue (q : List Request) (j : LotIdx) : (s.putQueue q).lotAt j = s.lotAt j := rfl
@[simp] theorem State.lotAt_putStaging (i : StreamIdx) (x : Option Staging) (j : LotIdx) : (s.putStaging i x).lotAt j = s.lotAt j := rfl
@[simp] theorem State.lotAt_putBin (b : BinIdx) (x : Bin) (j : LotIdx) : (s.putBin b x).lotAt j = s.lotAt j := rfl
@[simp] theorem State.lotAt_putLoop (l : Loop) (j : LotIdx) : (s.putLoop l).lotAt j = s.lotAt j := rfl
@[simp] theorem State.lotAt_putMgmt (m : Management) (j : LotIdx) : (s.putMgmt m).lotAt j = s.lotAt j := rfl
@[simp] theorem State.lotAt_putUnlock (u : Option Unlock) (j : LotIdx) : (s.putUnlock u).lotAt j = s.lotAt j := rfl
@[simp] theorem State.lotAt_putInd (x : Indication) (j : LotIdx) : (s.putInd x).lotAt j = s.lotAt j := rfl
@[simp] theorem State.lotAt_putEvents (e : Tbl EventRecord 18) (j : LotIdx) : (s.putEvents e).lotAt j = s.lotAt j := rfl
@[simp] theorem State.lotAt_emit (r : Report) (j : LotIdx) : (s.emit r).lotAt j = s.lotAt j := rfl
@[simp] theorem State.lotAt_occasion (j : LotIdx) : (s.occasion).lotAt j = s.lotAt j := rfl

@[simp] theorem State.seg_putStream (i : StreamIdx) (x : Stream) (j : SegIdx) : (s.putStream i x).seg j = s.seg j := rfl
@[simp] theorem State.seg_putTally (i : StreamIdx) (x : Tally) (j : SegIdx) : (s.putTally i x).seg j = s.seg j := rfl
@[simp] theorem State.seg_putCapture (c : Option Capture) (j : SegIdx) : (s.putCapture c).seg j = s.seg j := rfl
@[simp] theorem State.seg_putLot (i : LotIdx) (x : Option Lot) (j : SegIdx) : (s.putLot i x).seg j = s.seg j := rfl
@[simp] theorem State.seg_putOutturn (l : List Outturn) (j : SegIdx) : (s.putOutturn l).seg j = s.seg j := rfl
@[simp] theorem State.seg_putHold (i : HoldIdx) (x : Option HoldEntry) (j : SegIdx) : (s.putHold i x).seg j = s.seg j := rfl
@[simp] theorem State.seg_putRoute (r : RouteIdx) (x : Option Route) (j : SegIdx) : (s.putRoute r x).seg j = s.seg j := rfl
@[simp] theorem State.seg_putQueue (q : List Request) (j : SegIdx) : (s.putQueue q).seg j = s.seg j := rfl
@[simp] theorem State.seg_putStaging (i : StreamIdx) (x : Option Staging) (j : SegIdx) : (s.putStaging i x).seg j = s.seg j := rfl
@[simp] theorem State.seg_putBin (b : BinIdx) (x : Bin) (j : SegIdx) : (s.putBin b x).seg j = s.seg j := rfl
@[simp] theorem State.seg_putLoop (l : Loop) (j : SegIdx) : (s.putLoop l).seg j = s.seg j := rfl
@[simp] theorem State.seg_putMgmt (m : Management) (j : SegIdx) : (s.putMgmt m).seg j = s.seg j := rfl
@[simp] theorem State.seg_putUnlock (u : Option Unlock) (j : SegIdx) : (s.putUnlock u).seg j = s.seg j := rfl
@[simp] theorem State.seg_putInd (x : Indication) (j : SegIdx) : (s.putInd x).seg j = s.seg j := rfl
@[simp] theorem State.seg_putEvents (e : Tbl EventRecord 18) (j : SegIdx) : (s.putEvents e).seg j = s.seg j := rfl
@[simp] theorem State.seg_emit (r : Report) (j : SegIdx) : (s.emit r).seg j = s.seg j := rfl
@[simp] theorem State.seg_occasion (j : SegIdx) : (s.occasion).seg j = s.seg j := rfl

@[simp] theorem State.routeAt_putStream (i : StreamIdx) (x : Stream) (j : RouteIdx) : (s.putStream i x).routeAt j = s.routeAt j := rfl
@[simp] theorem State.routeAt_putTally (i : StreamIdx) (x : Tally) (j : RouteIdx) : (s.putTally i x).routeAt j = s.routeAt j := rfl
@[simp] theorem State.routeAt_putCapture (c : Option Capture) (j : RouteIdx) : (s.putCapture c).routeAt j = s.routeAt j := rfl
@[simp] theorem State.routeAt_putLot (i : LotIdx) (x : Option Lot) (j : RouteIdx) : (s.putLot i x).routeAt j = s.routeAt j := rfl
@[simp] theorem State.routeAt_putOutturn (l : List Outturn) (j : RouteIdx) : (s.putOutturn l).routeAt j = s.routeAt j := rfl
@[simp] theorem State.routeAt_putHold (i : HoldIdx) (x : Option HoldEntry) (j : RouteIdx) : (s.putHold i x).routeAt j = s.routeAt j := rfl
@[simp] theorem State.routeAt_putSeg (g : SegIdx) (x : Segment) (j : RouteIdx) : (s.putSeg g x).routeAt j = s.routeAt j := rfl
@[simp] theorem State.routeAt_putQueue (q : List Request) (j : RouteIdx) : (s.putQueue q).routeAt j = s.routeAt j := rfl
@[simp] theorem State.routeAt_putStaging (i : StreamIdx) (x : Option Staging) (j : RouteIdx) : (s.putStaging i x).routeAt j = s.routeAt j := rfl
@[simp] theorem State.routeAt_putBin (b : BinIdx) (x : Bin) (j : RouteIdx) : (s.putBin b x).routeAt j = s.routeAt j := rfl
@[simp] theorem State.routeAt_putLoop (l : Loop) (j : RouteIdx) : (s.putLoop l).routeAt j = s.routeAt j := rfl
@[simp] theorem State.routeAt_putMgmt (m : Management) (j : RouteIdx) : (s.putMgmt m).routeAt j = s.routeAt j := rfl
@[simp] theorem State.routeAt_putUnlock (u : Option Unlock) (j : RouteIdx) : (s.putUnlock u).routeAt j = s.routeAt j := rfl
@[simp] theorem State.routeAt_putInd (x : Indication) (j : RouteIdx) : (s.putInd x).routeAt j = s.routeAt j := rfl
@[simp] theorem State.routeAt_putEvents (e : Tbl EventRecord 18) (j : RouteIdx) : (s.putEvents e).routeAt j = s.routeAt j := rfl
@[simp] theorem State.routeAt_emit (r : Report) (j : RouteIdx) : (s.emit r).routeAt j = s.routeAt j := rfl
@[simp] theorem State.routeAt_occasion (j : RouteIdx) : (s.occasion).routeAt j = s.routeAt j := rfl

@[simp] theorem State.stagingOf_putStream (i : StreamIdx) (x : Stream) (j : StreamIdx) : (s.putStream i x).stagingOf j = s.stagingOf j := rfl
@[simp] theorem State.stagingOf_putTally (i : StreamIdx) (x : Tally) (j : StreamIdx) : (s.putTally i x).stagingOf j = s.stagingOf j := rfl
@[simp] theorem State.stagingOf_putCapture (c : Option Capture) (j : StreamIdx) : (s.putCapture c).stagingOf j = s.stagingOf j := rfl
@[simp] theorem State.stagingOf_putLot (i : LotIdx) (x : Option Lot) (j : StreamIdx) : (s.putLot i x).stagingOf j = s.stagingOf j := rfl
@[simp] theorem State.stagingOf_putOutturn (l : List Outturn) (j : StreamIdx) : (s.putOutturn l).stagingOf j = s.stagingOf j := rfl
@[simp] theorem State.stagingOf_putHold (i : HoldIdx) (x : Option HoldEntry) (j : StreamIdx) : (s.putHold i x).stagingOf j = s.stagingOf j := rfl
@[simp] theorem State.stagingOf_putSeg (g : SegIdx) (x : Segment) (j : StreamIdx) : (s.putSeg g x).stagingOf j = s.stagingOf j := rfl
@[simp] theorem State.stagingOf_putRoute (r : RouteIdx) (x : Option Route) (j : StreamIdx) : (s.putRoute r x).stagingOf j = s.stagingOf j := rfl
@[simp] theorem State.stagingOf_putQueue (q : List Request) (j : StreamIdx) : (s.putQueue q).stagingOf j = s.stagingOf j := rfl
@[simp] theorem State.stagingOf_putBin (b : BinIdx) (x : Bin) (j : StreamIdx) : (s.putBin b x).stagingOf j = s.stagingOf j := rfl
@[simp] theorem State.stagingOf_putLoop (l : Loop) (j : StreamIdx) : (s.putLoop l).stagingOf j = s.stagingOf j := rfl
@[simp] theorem State.stagingOf_putMgmt (m : Management) (j : StreamIdx) : (s.putMgmt m).stagingOf j = s.stagingOf j := rfl
@[simp] theorem State.stagingOf_putUnlock (u : Option Unlock) (j : StreamIdx) : (s.putUnlock u).stagingOf j = s.stagingOf j := rfl
@[simp] theorem State.stagingOf_putInd (x : Indication) (j : StreamIdx) : (s.putInd x).stagingOf j = s.stagingOf j := rfl
@[simp] theorem State.stagingOf_putEvents (e : Tbl EventRecord 18) (j : StreamIdx) : (s.putEvents e).stagingOf j = s.stagingOf j := rfl
@[simp] theorem State.stagingOf_emit (r : Report) (j : StreamIdx) : (s.emit r).stagingOf j = s.stagingOf j := rfl
@[simp] theorem State.stagingOf_occasion (j : StreamIdx) : (s.occasion).stagingOf j = s.stagingOf j := rfl

@[simp] theorem State.bin_putStream (i : StreamIdx) (x : Stream) (j : BinIdx) : (s.putStream i x).bin j = s.bin j := rfl
@[simp] theorem State.bin_putTally (i : StreamIdx) (x : Tally) (j : BinIdx) : (s.putTally i x).bin j = s.bin j := rfl
@[simp] theorem State.bin_putCapture (c : Option Capture) (j : BinIdx) : (s.putCapture c).bin j = s.bin j := rfl
@[simp] theorem State.bin_putLot (i : LotIdx) (x : Option Lot) (j : BinIdx) : (s.putLot i x).bin j = s.bin j := rfl
@[simp] theorem State.bin_putOutturn (l : List Outturn) (j : BinIdx) : (s.putOutturn l).bin j = s.bin j := rfl
@[simp] theorem State.bin_putHold (i : HoldIdx) (x : Option HoldEntry) (j : BinIdx) : (s.putHold i x).bin j = s.bin j := rfl
@[simp] theorem State.bin_putSeg (g : SegIdx) (x : Segment) (j : BinIdx) : (s.putSeg g x).bin j = s.bin j := rfl
@[simp] theorem State.bin_putRoute (r : RouteIdx) (x : Option Route) (j : BinIdx) : (s.putRoute r x).bin j = s.bin j := rfl
@[simp] theorem State.bin_putQueue (q : List Request) (j : BinIdx) : (s.putQueue q).bin j = s.bin j := rfl
@[simp] theorem State.bin_putStaging (i : StreamIdx) (x : Option Staging) (j : BinIdx) : (s.putStaging i x).bin j = s.bin j := rfl
@[simp] theorem State.bin_putLoop (l : Loop) (j : BinIdx) : (s.putLoop l).bin j = s.bin j := rfl
@[simp] theorem State.bin_putMgmt (m : Management) (j : BinIdx) : (s.putMgmt m).bin j = s.bin j := rfl
@[simp] theorem State.bin_putUnlock (u : Option Unlock) (j : BinIdx) : (s.putUnlock u).bin j = s.bin j := rfl
@[simp] theorem State.bin_putInd (x : Indication) (j : BinIdx) : (s.putInd x).bin j = s.bin j := rfl
@[simp] theorem State.bin_putEvents (e : Tbl EventRecord 18) (j : BinIdx) : (s.putEvents e).bin j = s.bin j := rfl
@[simp] theorem State.bin_emit (r : Report) (j : BinIdx) : (s.emit r).bin j = s.bin j := rfl
@[simp] theorem State.bin_occasion (j : BinIdx) : (s.occasion).bin j = s.bin j := rfl

/-! ## refreshLamps -/

@[simp] theorem refreshLamps_pending : (refreshLamps s).pending = s.pending := rfl
@[simp] theorem refreshLamps_agenda : (refreshLamps s).agenda = s.agenda := rfl
@[simp] theorem refreshLamps_passDue : (refreshLamps s).passDue = s.passDue := rfl
@[simp] theorem refreshLamps_charTime : (refreshLamps s).charTime = s.charTime := rfl
@[simp] theorem refreshLamps_loop : (refreshLamps s).loop = s.loop := rfl
@[simp] theorem refreshLamps_streams : (refreshLamps s).streams = s.streams := rfl
@[simp] theorem refreshLamps_tally : (refreshLamps s).tally = s.tally := rfl
@[simp] theorem refreshLamps_lot : (refreshLamps s).lot = s.lot := rfl
@[simp] theorem refreshLamps_segs : (refreshLamps s).segs = s.segs := rfl
@[simp] theorem refreshLamps_alloc : (refreshLamps s).alloc = s.alloc := rfl
@[simp] theorem refreshLamps_bins : (refreshLamps s).bins = s.bins := rfl
@[simp] theorem refreshLamps_mgmt : (refreshLamps s).mgmt = s.mgmt := rfl
@[simp] theorem refreshLamps_events : (refreshLamps s).ind.events = s.ind.events := rfl
@[simp] theorem refreshLamps_alert : (refreshLamps s).ind.alert = s.ind.alert := rfl
@[simp] theorem refreshLamps_forceOff : (refreshLamps s).ind.forceOff = s.ind.forceOff := rfl
@[simp] theorem refreshLamps_forceOn : (refreshLamps s).ind.forceOn = s.ind.forceOn := rfl
@[simp] theorem stream_refreshLamps (j : StreamIdx) : (refreshLamps s).stream j = s.stream j := rfl
@[simp] theorem tallyOf_refreshLamps (j : StreamIdx) : (refreshLamps s).tallyOf j = s.tallyOf j := rfl
@[simp] theorem lotAt_refreshLamps (j : LotIdx) : (refreshLamps s).lotAt j = s.lotAt j := rfl
@[simp] theorem seg_refreshLamps (j : SegIdx) : (refreshLamps s).seg j = s.seg j := rfl
@[simp] theorem routeAt_refreshLamps (j : RouteIdx) : (refreshLamps s).routeAt j = s.routeAt j := rfl
@[simp] theorem stagingOf_refreshLamps (j : StreamIdx) : (refreshLamps s).stagingOf j = s.stagingOf j := rfl
@[simp] theorem bin_refreshLamps (j : BinIdx) : (refreshLamps s).bin j = s.bin j := rfl

end Sys2Proof.Machine
end

