-- ==== Sys2Proof/Laws/Tables.lean ====
section
/-! SUPPORT. Reading a table after writing it, and the records of State read after their own update. -/

namespace Sys2Proof

variable {α β : Type} {n : Nat}

@[simp] theorem Tbl.get_set_self (t : Tbl α n) (i : Fin n) (x : α) : (t.set i x).get i = x := by
  simp [Tbl.get, Tbl.set]

theorem Tbl.get_set_ne (t : Tbl α n) {i j : Fin n} (x : α) (h : i ≠ j) : (t.set i x).get j = t.get j := by
  simp [Tbl.get, Tbl.set, Fin.val_ne_of_ne h]

theorem Tbl.get_set (t : Tbl α n) (i j : Fin n) (x : α) : (t.set i x).get j = if i = j then x else t.get j := by
  by_cases h : i = j
  · subst h; simp
  · simp [h, Tbl.get_set_ne t x h]

@[simp] theorem Tbl.get_map (t : Tbl α n) (f : α → β) (i : Fin n) : (t.map f).get i = f (t.get i) := by
  simp [Tbl.get, Tbl.map]

@[simp] theorem Tbl.get_fill (x : α) (i : Fin n) : (Tbl.fill n x).get i = x := by
  simp [Tbl.get, Tbl.fill]

@[simp] theorem Tbl.get_ofIndex (f : Fin n → α) (i : Fin n) : (Tbl.ofIndex n f).get i = f i := by
  simp [Tbl.get, Tbl.ofIndex]

/-- Two tables with the same entries are equal. -/
theorem Tbl.ext_get {t u : Tbl α n} (h : ∀ i, t.get i = u.get i) : t = u := by
  have e : t.items = u.items := List.ext_getElem (t.len.trans u.len.symm) fun i hi _ => h ⟨i, t.len ▸ hi⟩
  cases t; cases u; simpa using e

@[simp] theorem IdxSet.has_empty (i : Fin n) : (IdxSet.empty n).has i = false := by simp [IdxSet.has, IdxSet.empty]

theorem IdxSet.has_insert (S : IdxSet n) (i j : Fin n) : (S.insert i).has j = (decide (i = j) || S.has j) := by
  by_cases h : i = j <;> simp [IdxSet.has, IdxSet.insert, Tbl.get_set, h]

theorem IdxSet.has_erase (S : IdxSet n) (i j : Fin n) : (S.erase i).has j = (decide (i ≠ j) && S.has j) := by
  by_cases h : i = j <;> simp [IdxSet.has, IdxSet.erase, Tbl.get_set, h]

namespace Machine

variable (s : State)

@[simp] theorem State.stream_putStream_self (i : StreamIdx) (x : Stream) : (s.putStream i x).stream i = x := by
  simp [State.stream]
theorem State.stream_putStream (i j : StreamIdx) (x : Stream) :
    (s.putStream i x).stream j = if i = j then x else s.stream j := by simp [State.stream, Tbl.get_set]
@[simp] theorem State.tallyOf_putTally_self (i : StreamIdx) (x : Tally) : (s.putTally i x).tallyOf i = x := by
  simp [State.tallyOf]
theorem State.tallyOf_putTally (i j : StreamIdx) (x : Tally) :
    (s.putTally i x).tallyOf j = if i = j then x else s.tallyOf j := by simp [State.tallyOf, Tbl.get_set]
@[simp] theorem State.lotAt_putLot_self (i : LotIdx) (x : Option Lot) : (s.putLot i x).lotAt i = x := by
  simp [State.lotAt]
theorem State.lotAt_putLot (i j : LotIdx) (x : Option Lot) :
    (s.putLot i x).lotAt j = if i = j then x else s.lotAt j := by simp [State.lotAt, Tbl.get_set]
@[simp] theorem State.seg_putSeg_self (g : SegIdx) (x : Segment) : (s.putSeg g x).seg g = x := by
  simp [State.seg]
theorem State.seg_putSeg (g j : SegIdx) (x : Segment) :
    (s.putSeg g x).seg j = if g = j then x else s.seg j := by simp [State.seg, Tbl.get_set]
@[simp] theorem State.routeAt_putRoute_self (r : RouteIdx) (x : Option Route) : (s.putRoute r x).routeAt r = x := by
  simp [State.routeAt]
theorem State.routeAt_putRoute (r j : RouteIdx) (x : Option Route) :
    (s.putRoute r x).routeAt j = if r = j then x else s.routeAt j := by simp [State.routeAt, Tbl.get_set]
@[simp] theorem State.stagingOf_putStaging_self (i : StreamIdx) (x : Option Staging) :
    (s.putStaging i x).stagingOf i = x := by simp [State.stagingOf]
theorem State.stagingOf_putStaging (i j : StreamIdx) (x : Option Staging) :
    (s.putStaging i x).stagingOf j = if i = j then x else s.stagingOf j := by
  simp [State.stagingOf, Tbl.get_set]
@[simp] theorem State.bin_putBin_self (b : BinIdx) (x : Bin) : (s.putBin b x).bin b = x := by
  simp [State.bin]
theorem State.bin_putBin (b j : BinIdx) (x : Bin) :
    (s.putBin b x).bin j = if b = j then x else s.bin j := by simp [State.bin, Tbl.get_set]

end Machine

end Sys2Proof
end

