-- ==== Sys2Proof/Laws/Settlement.lean ====
section
/-! SUPPORT. What the taking of reports can do to a state, said once: a property that the updates listed in `Kept`
leave true is left true by every report, by every evaluation pass and by `settled`. -/

namespace Sys2Proof.Machine

/-- A property of states that the updates made while reports are taken leave true. -/
structure Kept (P : State → Prop) : Prop where
  reports : ∀ s a d, P s → P { s with agenda := a, passDue := d }
  stream : ∀ s i x, x.account = (s.stream i).account → P s → P (s.putStream i x)
  report : ∀ s i r, P s → P (s.putTally i { s.tallyOf i with report := r })
  capture : ∀ s, P s → P (s.putCapture none)
  unlock : ∀ s, P s → P (s.putUnlock none)
  lot : ∀ s k l l', s.lotAt k = some l → l'.account = l.account → P s → P (s.putLot k (some l'))
  complete : ∀ s k l, s.lotAt k = some l → l.state = .closing → s.lot.outturn.length < outturnRoom → P s →
    P ((s.putOutturn (s.lot.outturn ++ [l.outturnRecord])).putLot k none)
  seg : ∀ s g x, x.account = (s.seg g).account → P s → P (s.putSeg g x)
  bin : ∀ s b x, x.account = (s.bin b).account → P s → P (s.putBin b x)
  queue : ∀ s q, P s → P (s.putQueue q)
  staging : ∀ s i x, P s → P (s.putStaging i x)
  place : ∀ s f, P s → P (s.place f)
  raise : ∀ s k n, P s → P (raise k n s)
  lamps : ∀ s, P s → P (refreshLamps s)

/-! ## Accounts -/

theorem repoll_account (o : Option Nat) (b : Bin) : (Bin.repoll o b).account = b.account := by
  unfold Bin.repoll
  split
  · rfl
  · split <;> rfl
  · rfl
  · rfl

theorem withState_account (b : Bin) (st : BinState) : (b.withState st).account = b.account := by
  unfold Bin.withState
  rw [repoll_account]
  rfl

theorem withGate_account (b : Bin) (st : SegState) : (b.withGate st).account = b.account := rfl

theorem withReason_account (x : Stream) (r : HoldReason) : (x.withReason r).account = x.account := by
  cases r <;> simp only [Stream.withReason] <;> first | rfl | (split <;> rfl)

theorem withoutReason_account (x : Stream) (r : HoldReason) : (x.withoutReason r).account = x.account := by
  cases r <;> rfl

namespace Kept

variable {P : State → Prop} (h : Kept P)

theorem foldl {α : Type} (f : State → α → State) (hf : ∀ s x, P s → P (f s x)) (l : List α) (s : State) (hs : P s) :
    P (l.foldl f s) := List.foldlRecOn l f hs fun u hu x _ => hf u x hu

theorem forEach {n : Nat} (f : Fin n → State → State) (hf : ∀ i s, P s → P (f i s)) (s : State) (hs : P s) :
    P (forEach f s) := foldl _ (fun s i => hf i s) _ s hs

include h

theorem emit (s : State) (r : Report) (hs : P s) : P (s.emit r) := h.reports s _ s.passDue hs

theorem occasion (s : State) (hs : P s) : P s.occasion := h.reports s s.agenda true hs

theorem modStream (s : State) (i : StreamIdx) (f : Stream → Stream)
    (hf : (f (s.stream i)).account = (s.stream i).account) (hs : P s) : P (s.modStream i f) :=
  h.stream s i _ hf hs

/-! ## Bins -/

theorem judgeBin (b : BinIdx) (s : State) (hs : P s) : P (judgeBin b s) := by
  unfold Machine.judgeBin
  split
  · exact hs
  · have hx : ∀ c, ((s.bin b).formLevels c).account = (s.bin b).account := fun c => by
      unfold Bin.formLevels
      rw [repoll_account]
      rfl
    have h1 : ∀ c, P (refreshLamps ((if ((s.bin b).formLevels c).nearFull = (s.bin b).nearFull then s
        else s.occasion).putBin b ((s.bin b).formLevels c))) := fun c => by
      apply h.lamps
      split
      · exact h.bin _ _ _ (hx c) hs
      · exact h.bin _ _ _ (hx c) (h.occasion _ hs)
    dsimp only
    split
    · exact h1 _
    · apply h.emit
      have h2 : ∀ c st, P ((refreshLamps ((if ((s.bin b).formLevels c).nearFull = (s.bin b).nearFull then s
          else s.occasion).putBin b ((s.bin b).formLevels c))).putBin b (((s.bin b).formLevels c).withState st)) :=
          fun c st => by
        refine h.bin _ _ _ ?_ (h1 c)
        rw [withState_account, bin_refreshLamps, State.bin_putBin_self]
      split
      · exact h.raise _ _ _ (h2 _ _)
      · exact h2 _ _

theorem setClass (b : BinIdx) (c : Nat) (s : State) (hs : P s) : P (setClass b c s) := by
  unfold Machine.setClass
  split
  · exact hs
  · exact h.emit _ _ (h.bin _ _ _ rfl hs)

theorem gateChanged (b : BinIdx) (st : SegState) (hf : st ≠ .free) (s : State) (hs : P s) :
    P (gateChanged b st s) := by
  unfold Machine.gateChanged
  dsimp only
  rw [if_neg hf]
  split
  · refine h.emit _ _ (h.bin _ _ _ ?_ hs)
    rw [withState_account, withGate_account]
  · split
    · refine h.judgeBin _ _ (h.emit _ _ (h.bin _ _ _ ?_ hs))
      rw [withState_account, withGate_account]
    · exact h.bin _ _ _ rfl hs

/-! ## Segments -/

theorem changeSeg (g : SegIdx) (x : Segment) (s : State) (ha : x.account = (s.seg g).account)
    (hf : x.state ≠ .free ∨ x.gateBin = none) (hs : P s) : P (changeSeg g x s) := by
  have h1 := h.seg s g x ha hs
  unfold Machine.changeSeg
  dsimp only
  split
  · rename_i b hb
    split
    · exact h1
    · rcases hf with hf | hf
      · exact h.gateChanged b _ hf _ h1
      · rw [hf] at hb
        cases hb
  · exact h1

theorem sendSet (x : Segment) (p : Nat) (s : State) (hs : P s) : P (sendSet x p s) := by
  unfold Machine.sendSet
  split
  · exact h.place _ _ hs
  · exact hs

theorem reportReady (g : SegIdx) (s : State) (hs : P s) : P (reportReady g s) := h.occasion _ (h.emit _ _ hs)

theorem freeSeg (g : SegIdx) (s : State) (hg : (s.seg g).gateBin = none) (hs : P s) : P (freeSeg g s) :=
  h.occasion _ (h.changeSeg g _ s rfl (Or.inr hg) hs)

theorem beginClosing (g : SegIdx) (s : State) (hs : P s) : P (beginClosing g s) :=
  h.sendSet _ _ _ (h.changeSeg g _ s rfl (Or.inl (by simp)) hs)

theorem endFlush (g : SegIdx) (s : State) (hs : P s) : P (endFlush g s) := by
  unfold Machine.endFlush
  dsimp only
  split
  · exact h.beginClosing g _ (h.emit _ _ hs)
  · rename_i hg
    exact h.freeSeg g _ hg (h.emit _ _ hs)

theorem beginFlush (g : SegIdx) (s : State) (hs : P s) : P (beginFlush g s) := by
  unfold Machine.beginFlush
  dsimp only
  have h1 : ∀ f, P (Machine.changeSeg g
      { (s.seg g).unreserved with state := .flushing, unflushed := true, flush := f } s) := fun f =>
    h.changeSeg g _ s rfl (Or.inl (by simp)) hs
  split
  · exact h.endFlush g _ (h1 _)
  · exact h1 _

theorem reserveFree (g : SegIdx) (k : ResKind) (c : Claim) (s : State) (hs : P s) : P (reserveFree g k c s) := by
  unfold Machine.reserveFree
  dsimp only
  split
  · exact h.reportReady g _ (h.changeSeg g _ s rfl (Or.inl (by simp)) hs)
  · split
    · exact h.reportReady g _ (h.changeSeg g _ s rfl (Or.inl (by simp)) hs)
    · split
      · exact h.reportReady g _ (h.changeSeg g _ s rfl (Or.inl (by simp)) hs)
      · exact h.sendSet _ _ _ (h.changeSeg g _ s rfl (Or.inl (by simp)) hs)

theorem reserve (g : SegIdx) (k : ResKind) (c : Claim) (s : State) (hs : P s) : P (reserve g k c s) := by
  unfold Machine.reserve
  dsimp only
  split
  · exact h.reserveFree g k c s hs
  · split
    · exact h.seg _ _ _ rfl hs
    · split
      · exact h.reportReady g _ (h.emit _ _ (h.changeSeg g _ s rfl (Or.inl (by simp)) hs))
      · exact hs

theorem activateSeg (i : StreamIdx) (g : SegIdx) (s : State) (hs : P s) : P (activateSeg i g s) :=
  h.changeSeg g _ s rfl (Or.inl (by simp)) hs

theorem freeOrClose (g : SegIdx) (s : State) (hs : P s) : P (freeOrClose g s) := by
  unfold Machine.freeOrClose
  split
  · exact h.beginClosing g s hs
  · rename_i hg
    exact h.freeSeg g s hg hs

theorem releaseHolder (i : StreamIdx) (g : SegIdx) (s : State) (hs : P s) : P (releaseHolder i g s) := by
  unfold Machine.releaseHolder
  dsimp only
  split
  · split
    · split
      · split
        · exact h.beginFlush g _ (h.seg _ _ _ rfl hs)
        · exact h.reportReady g _ (h.changeSeg g _ s rfl (Or.inl (by simp)) hs)
      · exact h.seg _ _ _ rfl hs
    · exact h.seg _ _ _ rfl hs
  · split
    · split
      · exact h.beginFlush g _ (h.seg _ _ _ rfl hs)
      · exact h.freeOrClose g _ (h.seg _ _ _ rfl hs)
    · exact h.seg _ _ _ rfl hs
  · split
    · exact h.beginFlush g _ (h.seg _ _ _ rfl hs)
    · split
      · exact h.freeOrClose g _ (h.seg _ _ _ rfl hs)
      · exact h.seg _ _ _ rfl hs
  all_goals exact hs

theorem releaseSeg (i : StreamIdx) (g : SegIdx) (s : State) (hs : P s) : P (releaseSeg i g s) := by
  unfold Machine.releaseSeg
  dsimp only
  have h1 := h.releaseHolder i g s hs
  split
  · split
    · exact h.modStream _ _ _ rfl h1
    · exact h1
  · exact hs

theorem moveUnderFlow (i : StreamIdx) (g : SegIdx) (p : Option Nat) (s : State) (hs : P s) :
    P (moveUnderFlow i g p s) := by
  unfold Machine.moveUnderFlow
  dsimp only
  split
  · exact hs
  · split
    · exact h.sendSet _ _ _ (h.changeSeg g _ s rfl (Or.inl (by simp)) hs)
    · exact hs

theorem takeStaged (i : StreamIdx) (g : SegIdx) (s : State) (hs : P s) : P (takeStaged i g s) := by
  unfold Machine.takeStaged
  dsimp only
  split
  · exact h.changeSeg g _ s rfl (Or.inl (by simp)) hs
  · exact hs

/-! ## Lots -/

theorem setCurrent (i : LotIdx) (l : Lot) (p : Option Nat) (s : State) (hl : s.lotAt i = some l) (hs : P s) :
    P (setCurrent i l p s) := h.emit _ _ (h.lot s i l _ hl rfl hs)

theorem chooseCurrent (i : LotIdx) (s : State) (hs : P s) : P (chooseCurrent i s) := by
  unfold Machine.chooseCurrent
  split
  · exact hs
  · rename_i l hl
    split
    · exact h.setCurrent i l _ s hl hs
    · exact hs

theorem moveCurrent (i : LotIdx) (s : State) (hs : P s) : P (moveCurrent i s) := by
  unfold Machine.moveCurrent
  split
  · exact hs
  · rename_i l hl
    split
    · exact h.setCurrent i l _ s hl hs
    · exact h.chooseCurrent i s hs

theorem examineLots (b : BinIdx) (i : Nat) (s : State) (hs : P s) : P (examineLots b i s) := by
  unfold Machine.examineLots
  split
  · exact hs
  · exact h.emit _ _ (h.moveCurrent _ s hs)

theorem completionTest (i : LotIdx) (s : State) (hs : P s) : P (completionTest i s) := by
  unfold Machine.completionTest
  split
  · exact hs
  · rename_i l hl
    split
    · rename_i hc
      split
      · rename_i hr
        exact h.raise _ _ _ (h.complete s i l hl hc.1 hr hs)
      · split
        · exact hs
        · exact h.raise _ _ _ (h.lot s i l _ hl rfl hs)
    · exact hs

theorem attach (n : Nat) (i : StreamIdx) (s : State) (hs : P s) : P (attach n i s) := by
  unfold Machine.attach
  split
  · exact hs
  · rename_i k hk
    split
    · exact hs
    · rename_i l hl
      split
      · rename_i hr
        refine h.lot s k l _ hl ?_ hs
        simp only [Lot.running, Bool.or_eq_true, decide_eq_true_eq] at hr
        rcases hr with hr | hr <;> simp [Lot.account, hr]
      · exact hs

theorem detach (n : Nat) (i : StreamIdx) (s : State) (hs : P s) : P (detach n i s) := by
  unfold Machine.detach
  split
  · exact hs
  · rename_i k hk
    split
    · exact hs
    · rename_i l hl
      split
      · dsimp only
        split
        · split
          · rename_i hst
            exact h.lot s k l _ hl (by simp [Lot.account, hst]) hs
          · exact h.completionTest k _ (h.lot s k l _ hl rfl hs)
          · exact h.lot s k l _ hl rfl hs
        · exact h.lot s k l _ hl rfl hs
      · exact hs

/-! ## Requests and staging -/

theorem releaseRoute (i : StreamIdx) (r : RouteIdx) (s : State) (hs : P s) : P (releaseRoute i r s) :=
  foldl _ (fun s _ => h.releaseSeg i _ s) _ s hs

theorem queueRequest (i : StreamIdx) (n : Nat) (b : BinIdx) (s : State) (hs : P s) : P (queueRequest i n b s) :=
  h.occasion _ (h.queue _ _ hs)

theorem releaseGrant (q : Request) (s : State) (hs : P s) : P (releaseGrant q s) := by
  unfold Machine.releaseGrant
  split
  · exact h.releaseRoute _ _ s hs
  · exact hs

theorem removeRequest (i : StreamIdx) (s : State) (hs : P s) : P (removeRequest i s) := by
  unfold Machine.removeRequest
  split
  · exact hs
  · exact h.occasion _ (h.queue _ _ (h.releaseGrant _ s hs))

theorem modRequest (i : StreamIdx) (f : Request → Request) (s : State) (hs : P s) : P (s.modRequest i f) :=
  h.queue _ _ hs

theorem dropStaging (i : StreamIdx) (s : State) (hs : P s) : P (dropStaging i s) := by
  unfold Machine.dropStaging
  split
  · exact hs
  · exact h.occasion _ (h.staging _ _ _ (foldl _ (fun s _ => h.releaseSeg i _ s) _ s hs))

theorem loseStaged (i : StreamIdx) (g : SegIdx) (s : State) (hs : P s) : P (loseStaged i g s) := by
  unfold Machine.loseStaged
  split
  · exact hs
  · exact h.staging _ _ _ hs

/-! ## Streams -/

theorem endCapture (o : CaptureOutcome) (s : State) (hs : P s) : P (endCapture o s) := by
  unfold Machine.endCapture
  split
  · exact hs
  · exact h.raise _ _ _ (h.unlock _ (h.capture _ (h.report s _ _ hs)))

theorem endUnlock (c : AbortCause) (s : State) (hs : P s) : P (endUnlock c s) := by
  unfold Machine.endUnlock
  split
  · exact hs
  · split
    · exact h.unlock _ (h.endCapture _ s hs)
    · exact h.unlock _ hs

theorem leaveIdle (i : StreamIdx) (s : State) (hs : P s) : P (leaveIdle i s) := by
  unfold Machine.leaveIdle
  split
  · exact h.endUnlock _ s hs
  · exact hs

theorem sendPermit (i : StreamIdx) (f : Bool) (s : State) (hs : P s) : P (sendPermit i f s) := by
  unfold Machine.sendPermit
  split
  · exact h.place _ _ hs
  · exact hs

theorem permitFeed (i : StreamIdx) (s : State) (hs : P s) : P (permitFeed i s) :=
  h.modStream _ _ _ rfl (h.sendPermit i true s hs)

theorem permitStop (i : StreamIdx) (s : State) (hs : P s) : P (permitStop i s) :=
  h.modStream _ _ _ rfl (h.sendPermit i false s hs)

theorem detachStream (i : StreamIdx) (s : State) (hs : P s) : P (detachStream i s) := by
  unfold Machine.detachStream
  split
  · exact h.modStream _ _ _ rfl (h.detach _ i s hs)
  · exact hs

theorem becomeIdle (i : StreamIdx) (s : State) (hs : P s) : P (becomeIdle i s) :=
  h.lamps _ (h.modStream _ _ _ rfl (h.detachStream i s hs))

theorem becomeHeld (i : StreamIdx) (m : Bool) (s : State) (hs : P s) : P (becomeHeld i m s) :=
  h.lamps _ (h.modStream _ _ _ rfl (h.detachStream i s hs))

theorem becomeWaiting (i : StreamIdx) (n : Nat) (b : BinIdx) (s : State) (hs : P s) : P (becomeWaiting i n b s) := by
  refine h.queueRequest i n b _ (h.lamps _ (h.modStream _ _ _ rfl ?_))
  split
  · exact hs
  · exact h.attach n i _ (h.detachStream i s hs)

theorem enterDraining (i : StreamIdx) (s : State) (hs : P s) : P (enterDraining i s) := by
  refine h.occasion _ (h.dropStaging i _ ?_)
  have h1 := h.permitStop i _ (h.lamps _ (h.modStream s i (fun x => { x with state := .draining }) rfl hs))
  split
  · exact h.releaseRoute i _ _ h1
  · exact h1

theorem enterFeeding (i : StreamIdx) (r : RouteIdx) (s : State) (hs : P s) : P (enterFeeding i r s) :=
  h.permitFeed i _ (h.lamps _ (h.modStream _ _ _ rfl hs))

theorem holdNoBin (i : StreamIdx) (n : Nat) (s : State) (hs : P s) : P (holdNoBin i n s) :=
  h.modStream _ _ _ rfl (h.becomeHeld i false s hs)

theorem exitTest (i : StreamIdx) (s : State) (hs : P s) : P (exitTest i s) := by
  unfold Machine.exitTest
  dsimp only
  split
  · exact h.becomeHeld i false s hs
  · split
    · split
      · split
        · exact h.becomeWaiting i _ _ s hs
        · exact h.holdNoBin i _ s hs
      · exact h.becomeIdle i s hs
    · exact h.becomeIdle i s hs

theorem leaveHeld (i : StreamIdx) (s : State) (hs : P s) : P (leaveHeld i s) := by
  unfold Machine.leaveHeld
  split
  · exact h.becomeIdle i s hs
  · exact h.exitTest i s hs

theorem endDraining (i : StreamIdx) (s : State) (hs : P s) : P (endDraining i s) :=
  h.exitTest i _ (h.modStream _ _ _ rfl hs)

theorem addReason (i : StreamIdx) (r : HoldReason) (s : State) (hs : P s) : P (addReason i r s) := by
  have h1 : P (s.modStream i (·.withReason r)) := h.modStream _ _ _ (withReason_account _ _) hs
  unfold Machine.addReason
  dsimp only
  split
  · exact h.becomeHeld i _ _ (h.leaveIdle i _ h1)
  · exact h.becomeHeld i _ _ (h.removeRequest i _ h1)
  · exact h.enterDraining i _ h1
  · exact h1
  · exact h1

theorem removeReason (i : StreamIdx) (r : HoldReason) (s : State) (hs : P s) : P (removeReason i r s) := by
  have h1 : P (s.putStream i ((s.stream i).withoutReason r)) := h.stream _ _ _ (withoutReason_account _ _) hs
  unfold Machine.removeReason
  dsimp only
  split
  · exact h.leaveHeld i _ h1
  · exact h1

/-! ## The allocator -/

theorem activate (i : StreamIdx) (r : RouteIdx) (s : State) (hs : P s) : P (activate i r s) :=
  h.enterFeeding i r _ (h.occasion _ (h.queue _ _ (foldl _ (fun s _ => h.activateSeg i _ s) _ s hs)))

theorem tryActivate (i : StreamIdx) (s : State) (hs : P s) : P (tryActivate i s) := by
  unfold Machine.tryActivate
  split
  · exact hs
  · split
    · split
      · exact h.activate i _ s hs
      · exact hs
    · exact hs

theorem grant (q : Request) (r : RouteIdx) (c : Nat) (s : State) (hs : P s) : P (grant q r c s) :=
  h.tryActivate _ _ (h.modRequest _ _ _ (foldl _ (fun s _ => h.reserve _ _ _ s) _ _ (h.setClass _ _ s hs)))

theorem preemptSeg (g : SegIdx) (s : State) (hs : P s) : P (preemptSeg g s) :=
  foldl _ (fun s _ hs => h.loseStaged _ g _ (h.releaseSeg _ g s hs)) _ s hs

theorem grantOrPreempt (q : Request) (r : RouteIdx) (l : Lot) (bl : List SegIdx) (s : State) (hs : P s) :
    P (grantOrPreempt q r l bl s).1 := by
  unfold Machine.grantOrPreempt
  dsimp only
  split
  · exact h.grant q r _ s hs
  · split
    · exact foldl _ (fun s _ => h.preemptSeg _ s) _ s hs
    · exact hs

theorem tryGrant (q : Request) (bl : List SegIdx) (s : State) (hs : P s) : P (tryGrant q bl s).1 := by
  unfold Machine.tryGrant
  split
  · split
    · exact h.grantOrPreempt q _ _ bl s hs
    · exact hs
  · exact hs

theorem evaluateRequest (i : StreamIdx) (p : State × List SegIdx) (hs : P p.1) : P (evaluateRequest i p).1 := by
  unfold Machine.evaluateRequest
  split
  · exact hs
  · split
    · exact hs
    · exact h.tryGrant _ _ _ (h.modRequest i _ _ hs)

theorem evaluateRequests (s : State) (hs : P s) : P (evaluateRequests s) := by
  unfold Machine.evaluateRequests
  exact List.foldlRecOn (motive := fun p => P p.1) s.alloc.queue _ (b := (s, [])) hs
    fun p hp q _ => h.evaluateRequest q.stream p hp

theorem stageStep (i : StreamIdx) (n c : Nat) (st : Step) (s : State) (hs : P s) : P (stageStep i n c st s) := by
  unfold Machine.stageStep
  split
  · exact hs
  · split
    · refine h.staging _ _ _ (h.reserve _ _ _ _ ?_)
      split
      · exact h.setClass _ _ s hs
      · exact hs
    · exact hs

theorem stageRecord (i : StreamIdx) (x : Staging) (s : State) (hs : P s) : P (stageRecord i x s) := by
  unfold Machine.stageRecord
  have h1 : ∀ y, P (s.putStaging i y) := fun y => h.staging s i y hs
  dsimp only
  split
  · split
    · exact foldl _ (fun s _ => h.stageStep i _ _ _ s) _ _ (h1 _)
    · exact h1 _
  · exact h1 _

theorem stagingCheck (i : StreamIdx) (s : State) (hs : P s) : P (stagingCheck i s) := by
  unfold Machine.stagingCheck
  split
  · split
    · split
      · exact h.stageRecord i _ s hs
      · exact h.dropStaging i s hs
    · exact h.dropStaging i s hs
    · exact h.stageRecord i _ s hs
    · exact hs
  · exact hs

theorem evaluationPass (s : State) (hs : P s) : P (evaluationPass s) :=
  forEach _ (fun i s => h.stagingCheck i s) _ (h.evaluateRequests s hs)

theorem hitSegment (i : StreamIdx) (o : RouteIdx) (st : Step) (s : State) (hs : P s) : P (hitSegment i o st s) := by
  unfold Machine.hitSegment
  split
  · exact hs
  · split
    · exact h.moveUnderFlow i _ _ s hs
    · exact h.takeStaged i _ s hs

theorem carryHit (i : StreamIdx) (o n : RouteIdx) (s : State) (hs : P s) : P (carryHit i o n s) :=
  h.permitFeed i _ (h.staging _ _ _ (h.lamps _ (h.modStream _ _ _ rfl
    (foldl _ (fun s _ => h.hitSegment i o _ s) _ _ (foldl _ (fun s _ => h.releaseSeg i _ s) _ s hs)))))

theorem changeStream (n : Nat) (b : Option BinIdx) (i : StreamIdx) (s : State) (hs : P s) :
    P (changeStream n b i s) := by
  unfold Machine.changeStream
  split
  · split
    · split
      · exact h.carryHit i _ _ s hs
      · exact h.enterDraining i _ (h.raise _ _ _ hs)
    · exact h.addReason i _ _ (h.raise _ _ _ hs)
  · exact hs

theorem retargetLot (n : Nat) (b : Option BinIdx) (s : State) (hs : P s) : P (retargetLot n b s) := by
  refine foldl _ (fun s q hs => ?_) _ s hs
  split
  · exact h.occasion _ (h.modRequest _ _ _ (h.releaseGrant q s hs))
  · exact h.removeRequest _ s hs

theorem noteCurrentBin (n : Nat) (b : Option BinIdx) (i : StreamIdx) (s : State) (hs : P s) :
    P (noteCurrentBin n b i s) := by
  unfold Machine.noteCurrentBin
  dsimp only
  split
  · split
    · exact h.removeReason i _ s hs
    · exact hs
  · split
    · exact h.addReason i _ s hs
    · exact hs

theorem currentBinChanged (n : Nat) (b : Option BinIdx) (s : State) (hs : P s) : P (currentBinChanged n b s) :=
  h.emit _ _ (forEach _ (fun i s => h.noteCurrentBin n b i s) _
    (h.retargetLot n b _ (forEach _ (fun i s => h.changeStream n b i s) _ hs)))

theorem faultOnStream (g : SegIdx) (i : StreamIdx) (s : State) (hs : P s) : P (faultOnStream g i s) := by
  unfold Machine.faultOnStream
  dsimp only
  split
  · apply h.addReason
    split
    · exact h.stream _ _ _ rfl hs
    · exact hs
  · exact hs

theorem faultOnRequest (g : SegIdx) (q : Request) (s : State) (hs : P s) : P (faultOnRequest g q s) := by
  unfold Machine.faultOnRequest
  split
  · split
    · exact h.addReason _ _ _ (h.modRequest _ _ _ (h.releaseGrant q s hs))
    · exact hs
  · exact hs

theorem segmentFaulted (g : SegIdx) (s : State) (hs : P s) : P (segmentFaulted g s) :=
  h.occasion _ (forEach _ (fun i s => h.loseStaged i g s) _
    (foldl _ (fun s q => h.faultOnRequest g q s) _ _ (forEach _ (fun i s => h.faultOnStream g i s) _ hs)))

theorem segmentCleared (g : SegIdx) (s : State) (hs : P s) : P (segmentCleared g s) :=
  h.occasion _ (forEach _ (fun i s => h.removeReason i _ s) _ hs)

theorem flushEnded (g : SegIdx) (s : State) (hs : P s) : P (flushEnded g s) := by
  refine forEach _ (fun i s hs => ?_) _ hs
  split
  · exact h.endDraining i s hs
  · exact hs

theorem segmentReady (g : SegIdx) (s : State) (hs : P s) : P (segmentReady g s) := by
  refine foldl _ (fun s q hs => ?_) _ s hs
  split
  · split
    · exact h.tryActivate _ s hs
    · exact hs
  · exact hs

/-! ## Settlement -/

theorem passUnlessRestarting (s : State) (hs : P s) : P (passUnlessRestarting s) := by
  have h1 := h.reports s s.agenda false hs
  unfold Machine.passUnlessRestarting
  dsimp only
  split
  · exact h1
  · exact h.evaluationPass _ h1

theorem takeReport (r : Report) (s : State) (hs : P s) : P (takeReport r s) := by
  cases r with
  | bin b => exact h.emit _ _ (h.occasion _ hs)
  | examineLots b i => exact h.examineLots b i s hs
  | currentBin n b => exact h.currentBinChanged n b s hs
  | ready g => exact h.segmentReady g s hs
  | endOfFlush g => exact h.flushEnded g s hs
  | faulted g => exact h.segmentFaulted g s hs
  | cleared g => exact h.segmentCleared g s hs
  | pass =>
    show P (if _ then _ else _)
    split
    · exact h.emit _ _ (h.passUnlessRestarting s hs)
    · exact hs
  | passNow => exact h.emit _ _ (h.passUnlessRestarting s hs)

theorem takeNext (s : State) (hs : P s) : P (takeNext s) := by
  unfold Machine.takeNext
  split
  · exact hs
  · exact h.reports _ _ _ (h.takeReport _ _ (h.reports s [] s.passDue hs))

theorem settle (n : Nat) (s : State) (hs : P s) : P (settle n s) := by
  induction n generalizing s with
  | zero => exact hs
  | succ n ih =>
    unfold Machine.settle
    split
    · exact hs
    · exact ih _ (h.takeNext s hs)

/-- Taking every report leaves true what the listed updates leave true. -/
theorem settled (s : State) (hs : P s) : P (settled s) :=
  h.lamps _ (h.settle _ _ (h.emit _ _ hs))

end Kept

end Sys2Proof.Machine
end

