-- ==== Sys2Proof/WellFormed.lean ====
section
/-! DEFINITION. Which commands can arise on the wire: every number a request carries fits the bytes its field
is given (08, Field encoding), and a row's operands are the row's. `exec` does not need these checks: it
answers every term of `Instr`. -/

namespace Sys2Proof

/-- The value fits an unsigned field of `bytes` bytes. -/
def fits (bytes n : Nat) : Bool := decide (n < 256 ^ bytes)

/-- An optional value, when present, fits its field. -/
def optFits (bytes : Nat) : Option Nat → Bool
  | none => true
  | some n => fits bytes n

/-- Both bytes of a READ's start and count (R164). -/
def ReadArgs.wf (a : ReadArgs) : Bool := fits 1 a.start && fits 1 a.count

/-- A WRITE's index byte and its record (R166). -/
def WriteArgs.wf {α : Type} (rec : α → Bool) (a : WriteArgs α) : Bool :=
  fits 1 a.index && (match a.entry with | none => true | some r => rec r)

def StreamConfigWrite.wf (r : StreamConfigWrite) : Bool :=
  optFits 1 r.meter && optFits 1 r.unloader && optFits 1 r.intake &&
  optFits 2 r.gapLimit && optFits 2 r.silenceTime && optFits 2 r.unrouted

def CalibrationWrite.wf (r : CalibrationWrite) : Bool :=
  optFits 4 r.span && optFits 2 r.zero &&
  (match r.trim with | none => true | some t => decide (-32768 ≤ t) && decide (t ≤ 32767)) &&
  optFits 4 r.ceiling && optFits 4 r.jump

def HoldWrite.wf (r : HoldWrite) : Bool := optFits 1 r.hold && optFits 1 r.layer && optFits 2 r.lot

def LotWrite.wf (r : LotWrite) : Bool :=
  optFits 2 r.number && optFits 1 r.cls && optFits 4 r.declared && optFits 1 r.tolerance &&
  (match r.bins with | none => true | some l => fits 1 l.length && l.all (fits 1))

/-- On the wire a step always names its segment (log 13). -/
def StepWrite.wf (r : StepWrite) : Bool := r.segment.isSome && optFits 1 r.segment && optFits 1 r.position

def RouteWrite.wf (r : RouteWrite) : Bool :=
  optFits 1 r.stream && optFits 1 r.bin &&
  (match r.steps with | none => true | some l => fits 1 l.length && l.all StepWrite.wf)

def SegConfigWrite.wf (r : SegConfigWrite) : Bool :=
  optFits 1 r.actuator && optFits 1 r.bin && optFits 2 r.flushTime && optFits 1 r.travelLimit && optFits 1 r.shareLimit

def BinConfigWrite.wf (r : BinConfigWrite) : Bool :=
  optFits 4 r.capacity && optFits 1 r.gauge && optFits 2 r.high && optFits 2 r.preStage &&
  optFits 2 r.resume && optFits 2 r.empty

/-- A code the Management unit indeed does not know (R163). -/
def UnknownCode.wf : UnknownCode → Bool
  | .request c => decide (c.toNat = 0) || decide (18 < c.toNat)
  | .table c => decide (12 < c.toNat)

/-- SET_LAMP_MODE takes every target but the two forces. -/
def LampArgs.wf (a : LampArgs) : Bool :=
  fits 1 a.target && fits 1 a.setting && optFits 1 a.stream && decide (a.target ≠ 8) && decide (a.target ≠ 9)

def optWf {α : Type} (f : α → Bool) : Option α → Bool
  | none => true
  | some a => f a

/-- A command whose operands the wire can carry. -/
def Instr.wf : Instr → Bool
  | .reset _ _ | .calenFall | .calenRise => true
  | .frameReceived _ => true
  | .sample _ _ | .level _ _ | .posrep _ _ => true
  | .manage _ _ _ args => decide (args.length ≤ 45)
  | .unknownRequest _ bad => bad.wf
  | .writeReadOnlyTable _ _ => true
  | .readStreamConfig _ a | .readCalibration _ a | .readStreamStatus _ a | .readHoldMap _ a | .readLot _ a
  | .readOutturn _ a | .readRoute _ a | .readSegmentConfig _ a | .readSegmentStatus _ a | .readBinConfig _ a
  | .readBinStatus _ a | .readEvents _ a | .readCounters _ a => optWf ReadArgs.wf a
  | .writeStreamConfig _ a => optWf (WriteArgs.wf StreamConfigWrite.wf) a
  | .writeCalibration _ a => optWf (WriteArgs.wf CalibrationWrite.wf) a
  | .writeHoldMap _ a => optWf (WriteArgs.wf HoldWrite.wf) a
  | .writeLot _ a => optWf (WriteArgs.wf LotWrite.wf) a
  | .writeRoute _ a => optWf (WriteArgs.wf RouteWrite.wf) a
  | .writeSegmentConfig _ a => optWf (WriteArgs.wf SegConfigWrite.wf) a
  | .writeBinConfig _ a => optWf (WriteArgs.wf BinConfigWrite.wf) a
  | .openLot _ n | .closeLot _ n | .releaseOutturn _ n => optFits 2 n
  | .holdStream _ n | .releaseStream _ n | .acceptSuspect _ n | .discardSuspect _ n
  | .binEmptied _ n | .binServiceOut _ n | .binServiceIn _ n | .clearSegmentFault _ n => optFits 1 n
  | .unlockCalibration _ a => optWf (fun a => fits 1 a.stream && fits 2 a.serial) a
  | .captureZero _ a => optWf (fun a => fits 1 a.stream && optFits 2 a.window) a
  | .clearEvents _ _ | .setMask _ _ => true
  | .setLampMode _ a => optWf LampArgs.wf a
  | .setLampForce _ a => optWf (fun a => fits 1 a.setting) a
  | .restart _ _ | .restartIntervalEnd => true
  | .silenceTimerExpiry _ | .permitTimerExpiry _ | .drainTimerExpiry _ => true
  | .unlockExpiry | .travelTimerExpiry _ | .flushTimerExpiry _ | .pollTimerExpiry _ | .replyTimerExpiry _ => true
  | .transmitEnd | .lampPhaseEnd _ => true

end Sys2Proof
end

