-- ==== Sys2Proof/Tests/Slice0.lean ====
section
/-! SUPPORT. Tests: the worked figures of spec/ run on the model, ill-formed commands refused by `Instr.wf`, and for
every statement with hypotheses a witness that meets them, clause by clause. -/

namespace Sys2Proof.Machine.Tests

set_option Elab.async false

open Sys2Proof Sys2Proof.Machine

/-! ## Helpers -/

/-- A requester: station 60, tag 7. -/
def q : Requester := ⟨60, 7⟩

/-- The state a command leaves. -/
def ran (c : Instr) (s : State) : State :=
  match exec c s with
  | .next t => t
  | _ => s

/-- The outcome code of the REPLY that an idle transmitter is sending. -/
def replyCode (s : State) : Option Byte := s.loop.tx.bind fun f => f.payload[2]?

/-- The REPLY's data. -/
def replyData (s : State) : Option (List Byte) := s.loop.tx.map fun f => f.payload.drop 4

/-- The calibration of the worked case of 03. -/
def worked : Calibration := ⟨1050, 2048, 150, 200000, 0⟩

/-- The configuration of a used stream: meter 12, unloader 13, intake segment 5. -/
def used : StreamConfig := ⟨some 12, some 13, some 5, 1000, 1500, 50⟩

/-- A lot of class 3 whose bin list is 13, 14. -/
def lot7041 : Lot :=
  { number := 7041, cls := 3, declared := some 1812000, tolerance := 5, state := .discharging, closeKind := none
    bins := [⟨13, 1821059990⟩, ⟨14, 0⟩], current := some 0, certified := 1821059990, uncertified := 0
    attached := IdxSet.single 2, used := IdxSet.single 2, overrunReported := false, outturnFullReported := false }

/-- A configured bin of 400,000 kg with gauge 45 and the default thresholds, in a state. -/
def binIn (st : BinState) : Bin :=
  { Bin.reset with config := some ⟨400000, some 45, 950, 880, 800, 5⟩, state := st, pollTimer := some 4000 }

/-- A CONVEYOR of flush time 6 s, in a state. -/
def conveyorIn (st : SegState) : Segment :=
  { Segment.reset with config := some ⟨.conveyor, 60, 12, 2⟩, state := st }

/-- A flow-switch DIVERTER at station 33, at position 2, in a state. -/
def diverterIn (st : SegState) : Segment :=
  { Segment.reset with config := some ⟨.diverter 33 true, 70, 12, 2⟩, state := st, commanded := some 2
                       reported := some 2 }

/-- A GATE at station 34 to bin 13, open, in a state. -/
def gateIn (st : SegState) : Segment :=
  { Segment.reset with config := some ⟨.gate 34 13, 90, 12, 2⟩, state := st, commanded := some 1, reported := some 1 }

/-- A segment's record held, and fed when it is CARRYING, by stream 2 for lot 7041. -/
def heldBy (x : Segment) : Segment :=
  { x with owner := some 7041, kind := some .active, holders := IdxSet.single 2
           feeders := if x.state = .carrying then IdxSet.single 2 else IdxSet.empty 8 }

/-- Stream 2's record, FEEDING lot 7041 by route 9, as the worked case of 03 finds it. -/
def feeder : Stream :=
  { Stream.reset with config := used, state := .feeding, currentLot := some 7041, activeRoute := some 9
                      last := some ⟨41, 10000, 16760000, 0⟩, fedAtLast := true, lastLookup := some (.lot 7041)
                      demand := true, silence := some 1500, permit := some 500 }

/-- The tables of a small installation: stream 2's calibration, hold 1 layer 0 for lot 7041, route 9 of stream 2 to bin
13 over CONVEYOR 5, DIVERTER 19 and GATE 40, all in the state given. -/
def tables (st : SegState) : State :=
  (((((((State.reset.putTally 2 { Tally.reset with cal := some worked }).putHold 0 (some ⟨1, 0, 7041⟩)).putRoute 9
    (some ⟨2, 13, [⟨5, none⟩, ⟨19, some 2⟩, ⟨40, some 1⟩]⟩)).putSeg 5 (heldBy (conveyorIn st))).putSeg 19
    (heldBy (diverterIn st))).putSeg 40 (heldBy (gateIn st))).putBin 13
    { binIn .filling with cls := some 3, inletGate := some 40, gateCarrying := true, gateReserved := true }).putBin 14
    { binIn .available with config := some ⟨400000, none, 950, 880, 800, 5⟩, pollTimer := none }

/-- Stream 2 feeds lot 7041 into bin 13. -/
def feeding : State := ((tables .carrying).putLot 0 (some lot7041)).putStream 2 feeder

/-- Stream 2 WAITING for lot 7041. -/
def waiting2 : State :=
  (feeding.putStream 2 { feeder with state := .waiting, activeRoute := none, permit := none }).putQueue
    [⟨2, 7041, 13, some 9, false⟩]

/-- Stream 2 DRAINING lot 7041. -/
def draining2 : State := feeding.putStream 2 { feeder with state := .draining, permit := none, drain := some 6000 }

/-- Stream 2 used, calibrated, primed and IDLE; nothing reserved. -/
def idle2 : State :=
  (State.reset.putTally 2 { Tally.reset with cal := some worked, serial := 311 }).putStream 2
    { Stream.reset with config := used, last := some ⟨200, 61200, 0, 0⟩ }

/-- The same with CALEN high and an unlock for stream 2. -/
def unlocked : State := idle2.putMgmt { Management.reset true with unlock := some ⟨2, 10000, false⟩ }

/-- The same with a zero capture about to complete: 239 samples of 2 counts in 250 ms are summed. -/
def capturing : State :=
  (idle2.putMgmt { Management.reset true with unlock := some ⟨2, 70000, true⟩ }).putCapture
    (some ⟨2, 60000, 478, 59750⟩)

/-- `s` with a frame of another station being sent, so that own frames wait. -/
def busy (s : State) : State := s.putLoop { s.loop with tx := some ⟨1, 2, 9, []⟩, txLeft := 9 }

/-- The own-frame queue as it stands after a command, an unrelated frame being sent. -/
def sent (c : Instr) (s : State) : List OwnFrame := (ran c (busy s)).loop.own

/-- A sample of the meter at station 12, flags as given (bit 0 demand, bit 1 meter-ok, bit 2 restart). -/
def sample (seq time count : Nat) (flags : Byte) : Instr :=
  .sample 12 ⟨BitVec.ofNat 8 seq, BitVec.ofNat 16 time, BitVec.ofNat 24 count, 1, 0, flags⟩

/-! ## Ill-formed commands (WellFormed.lean, check by check) -/

theorem test_wf_manage_of_46_argument_bytes : (Instr.manage 60 7 1 (List.replicate 46 0)).wf = false := by decide +kernel
theorem test_wf_known_request_code : (Instr.unknownRequest q (.request 18)).wf = false := by decide +kernel
theorem test_wf_known_table_code : (Instr.unknownRequest q (.table 12)).wf = false := by decide +kernel
theorem test_wf_read_start : (Instr.readLot q (some ⟨256, 1⟩)).wf = false := by decide +kernel
theorem test_wf_read_count : (Instr.readLot q (some ⟨0, 256⟩)).wf = false := by decide +kernel
theorem test_wf_write_index : (Instr.writeHoldMap q (some ⟨256, none⟩)).wf = false := by decide +kernel
theorem test_wf_stream_config :
    [(⟨some 256, none, none, none, none, none⟩ : StreamConfigWrite), ⟨none, some 256, none, none, none, none⟩,
      ⟨none, none, some 256, none, none, none⟩, ⟨none, none, none, some 65536, none, none⟩,
      ⟨none, none, none, none, some 65536, none⟩, ⟨none, none, none, none, none, some 65536⟩].all
      (fun r => !(Instr.writeStreamConfig q (some ⟨0, some r⟩)).wf) = true := by decide +kernel
theorem test_wf_calibration :
    [(⟨some 4294967296, none, none, none, none⟩ : CalibrationWrite), ⟨none, some 65536, none, none, none⟩,
      ⟨none, none, some 32768, none, none⟩, ⟨none, none, some (-32769), none, none⟩,
      ⟨none, none, none, some 4294967296, none⟩, ⟨none, none, none, none, some 4294967296⟩].all
      (fun r => !(Instr.writeCalibration q (some ⟨0, some r⟩)).wf) = true := by decide +kernel
theorem test_wf_hold_map :
    [(⟨some 256, none, none⟩ : HoldWrite), ⟨none, some 256, none⟩, ⟨none, none, some 65536⟩].all
      (fun r => !(Instr.writeHoldMap q (some ⟨0, some r⟩)).wf) = true := by decide +kernel
theorem test_wf_lot :
    [(⟨some 65536, none, none, none, none⟩ : LotWrite), ⟨none, some 256, none, none, none⟩,
      ⟨none, none, some 4294967296, none, none⟩, ⟨none, none, none, some 256, none⟩,
      ⟨none, none, none, none, some [256]⟩, ⟨none, none, none, none, some (List.replicate 256 0)⟩].all
      (fun r => !(Instr.writeLot q (some ⟨0, some r⟩)).wf) = true := by decide +kernel
theorem test_wf_route :
    [(⟨some 256, none, none⟩ : RouteWrite), ⟨none, some 256, none⟩, ⟨none, none, some [⟨none, none⟩]⟩,
      ⟨none, none, some [⟨some 256, none⟩]⟩, ⟨none, none, some [⟨some 0, some 256⟩]⟩,
      ⟨none, none, some (List.replicate 256 ⟨some 0, none⟩)⟩].all
      (fun r => !(Instr.writeRoute q (some ⟨0, some r⟩)).wf) = true := by decide +kernel
theorem test_wf_segment_config :
    [(⟨none, some 256, none, none, none, none, none⟩ : SegConfigWrite), ⟨none, none, some 256, none, none, none, none⟩,
      ⟨none, none, none, some 65536, none, none, none⟩, ⟨none, none, none, none, some 256, none, none⟩,
      ⟨none, none, none, none, none, some 256, none⟩].all
      (fun r => !(Instr.writeSegmentConfig q (some ⟨0, some r⟩)).wf) = true := by decide +kernel
theorem test_wf_bin_config :
    [(⟨some 4294967296, none, none, none, none, none⟩ : BinConfigWrite), ⟨none, some 256, none, none, none, none⟩,
      ⟨none, none, some 65536, none, none, none⟩, ⟨none, none, none, some 65536, none, none⟩,
      ⟨none, none, none, none, some 65536, none⟩, ⟨none, none, none, none, none, some 65536⟩].all
      (fun r => !(Instr.writeBinConfig q (some ⟨0, some r⟩)).wf) = true := by decide +kernel
theorem test_wf_lot_number : (Instr.openLot q (some 65536)).wf = false := by decide +kernel
theorem test_wf_stream_byte : (Instr.holdStream q (some 256)).wf = false := by decide +kernel
theorem test_wf_unlock :
    (Instr.unlockCalibration q (some ⟨256, 0⟩)).wf = false ∧ (Instr.unlockCalibration q (some ⟨0, 65536⟩)).wf = false := by
  decide +kernel
theorem test_wf_capture :
    (Instr.captureZero q (some ⟨256, none⟩)).wf = false ∧ (Instr.captureZero q (some ⟨0, some 65536⟩)).wf = false := by
  decide +kernel
theorem test_wf_lamp :
    [(⟨256, 0, none⟩ : LampArgs), ⟨0, 256, none⟩, ⟨0, 0, some 256⟩, ⟨8, 0, none⟩, ⟨9, 0, none⟩].all
      (fun a => !(Instr.setLampMode q (some a)).wf) = true := by decide +kernel
theorem test_wf_force : (Instr.setLampForce q (some ⟨true, 256⟩)).wf = false := by decide +kernel

/-! ## Pins and the loop (R148, R149, R71; 08's tables) -/

/-- R148: the CRC of the bytes 0x31..0x39. -/
theorem test_crc_of_nine_digits :
    crcOf [0x31, 0x32, 0x33, 0x34, 0x35, 0x36, 0x37, 0x38, 0x39] = 0x29B1 := by decide +kernel
/-- R147: a frame cut short by one character is bad. -/
theorem test_frame_cut_short : judgeFrame ((⟨0, 9, 2, [3, 232]⟩ : Frame).bytes.dropLast) = none := by decide +kernel
/-- R149: straps at 63 latch 62. -/
theorem test_reset_latches_63_as_62 : (ran (.reset 63 true) feeding).loop.address = 62 := by decide +kernel
theorem test_reset_leaves_power_up : (ran (.reset 5 false) feeding).ind.events.get 0 = ⟨true, 1, 0, false⟩ := by decide +kernel
/-- R71: CALEN going low ends the unlock. -/
theorem test_calen_fall_ends_unlock : (ran .calenFall unlocked).mgmt.unlock = none := by decide +kernel
theorem test_calen_rise_grants_nothing :
    (ran .calenRise idle2).mgmt.calen = true ∧ (ran .calenRise idle2).mgmt.unlock = none := by decide +kernel
/-- R157: the sixteenth bad frame raises LOOP-ERROR. -/
theorem test_sixteenth_bad_frame :
    ((ran (.frameReceived [1, 2]) (idle2.putLoop { idle2.loop with crc := 15 })).ind.events.get 17).flag = true := by decide +kernel
/-- R150, case 4: a frame for another station is forwarded. -/
theorem test_frame_for_another_forwarded :
    (ran (.frameReceived (⟨9, 10, 4, [1]⟩ : Frame).bytes) State.reset).loop.tx = some ⟨9, 10, 4, [1]⟩ := by decide +kernel
/-- 08's table: a forwarded frame goes ahead of the own frames that wait. -/
theorem test_transmit_end_takes_forward_first :
    (ran .transmitEnd (busy (State.reset.putLoop { State.reset.loop with
      forward := [⟨9, 10, 4, [1]⟩], own := [.poll 45] }))).loop.tx = some ⟨9, 10, 4, [1]⟩ := by decide +kernel
/-- 08: a POLL occupies 9 characters with its preamble. -/
theorem test_poll_is_9_characters :
    (ran .transmitEnd ((busy State.reset).putLoop { (busy State.reset).loop with own := [.poll 45] })).loop.txLeft = 9 := by
  decide +kernel

/-! ## Samples and the tally (02, 03) -/

/-- 03, the worked case: 42,062 g, 48,559,360,000,000 carried. -/
theorem test_worked_case_grams :
    gramsOf worked 0 40000 250 = 42062 ∧ residueAfter worked 0 40000 250 = 48559360000000 := by decide +kernel
/-- 03, the worked case as a command: booked certified to the lot. -/
theorem test_sample_books_the_worked_case :
    ((ran (sample 42 10250 22784 3) feeding).lotAt 0).map (fun l => l.certified) = some (1821059990 + 42062) := by decide +kernel
/-- 02, the acceptance table: d = 203 is stale and discarded. -/
theorem test_sample_stale_discarded :
    ((ran (sample 150 48700 0 0) (idle2.putStream 2 { idle2.stream 2 with last := some ⟨203, 61950, 0, 0⟩ })).stream
      2).discarded = 1 := by decide +kernel
/-- 02, the acceptance table: the meter time wraps, Δt = 3,816. -/
theorem test_meter_time_wraps : timeDelta 230 61950 = 3816 ∧ seqDelta 205 203 = 2 := by decide +kernel
/-- 03, the verdict table, r₀ = 160,000 and J = 40,000. -/
theorem test_verdicts_at_a_glance :
    let k : Calibration := ⟨1050, 2048, 150, 200000, 40000⟩
    let verdict (counts time : Nat) (flags : Byte) :=
      let m : Measured := ⟨1, counts, time, rateOf counts time⟩
      (isGross k m, isCertified k feeder 160000 ⟨0, 0, 0, 0, 0, flags⟩ m)
    verdict 41000 250 3 = (false, true) ∧ verdict 51000 250 3 = (false, false) ∧ verdict 30000 250 3 = (false, true) ∧
    verdict 29000 250 3 = (false, false) ∧ verdict 200001 1000 3 = (false, false) ∧
    verdict 200500 1250 3 = (false, false) ∧ verdict 40000 250 1 = (false, false) ∧
    (verdict 201000 250 3).1 = true := by decide +kernel

/-! ## Levels, positions, MANAGE -/

/-- 07's table at 295.1 s: LEVEL 950 makes the bin FULL. -/
theorem test_level_950_fills_the_bin :
    ((ran (.level 45 950) feeding).bin 13).state = .full := by decide +kernel
/-- R140: a level above 1000 is taken as 1000. -/
theorem test_level_clamped : ((ran (.level 45 1001) feeding).bin 13).gaugeLevel = some 1000 := by decide +kernel
/-- R93: a READY or CARRYING segment reported elsewhere is in FAULT. -/
theorem test_posrep_elsewhere_faults : ((ran (.posrep 33 1) feeding).seg 19).state = .fault := by decide +kernel
/-- R93: CLOSING at 0 becomes FREE. -/
theorem test_posrep_0_frees_a_closing_gate :
    ((ran (.posrep 34 0) (State.reset.putSeg 40 { gateIn .closing with commanded := some 0, owner := some 7041 })).seg
      40).state = .free := by decide +kernel
/-- R160, R161: a free unit takes the frame in hand. -/
theorem test_manage_taken_in_hand :
    (ran (.manage 60 501 1 [6, 94, 4]) State.reset).mgmt.inHand = some ⟨60, 501, 1, [6, 94, 4]⟩ := by decide +kernel
/-- R160: a frame that finds the buffer full is counted. -/
theorem test_manage_dropped :
    (ran (.manage 60 501 18 []) (State.reset.putMgmt { State.reset.mgmt with
      inHand := some ⟨60, 1, 18, []⟩, input := List.replicate 4 ⟨60, 2, 18, []⟩ })).loop.mgmtDrop = 1 := by decide +kernel

/-! ## Requests (09) -/

/-- 08's codes: READ of ROUTE, start 94, count 4. -/
theorem test_decode_read_route :
    decodeRequest ⟨60, 501, 1, [6, 94, 4]⟩ = .readRoute ⟨60, 501⟩ (some ⟨94, 4⟩) := by decide +kernel
/-- 08's codes: CLOSE-LOT 7160 (0x1BF8). -/
theorem test_decode_close_lot : decodeRequest ⟨60, 504, 4, [27, 248]⟩ = .closeLot ⟨60, 504⟩ (some 7160) := by decide +kernel
/-- 08's encoding: a HOLD-MAP record of three present fields. -/
theorem test_decode_hold_map_write :
    decodeRequest ⟨60, 7, 2, [3, 0, 1, 1, 5, 1, 0, 1, 27, 129]⟩ =
      .writeHoldMap q (some ⟨0, some ⟨some 5, some 0, some 7041⟩⟩) := by decide +kernel
/-- R163, test 4: a byte left over is BAD-RECORD (4). -/
theorem test_left_over_byte_is_bad_record :
    replyCode (ran (decodeRequest ⟨60, 7, 4, [27, 248, 0]⟩) State.reset) = some 4 := by decide +kernel
theorem test_unknown_request_code : replyCode (ran (.unknownRequest q (.request 19)) State.reset) = some 1 := by decide +kernel
theorem test_write_read_only_table : replyCode (ran (.writeReadOnlyTable q .events) State.reset) = some 2 := by decide +kernel
/-- R26's reset values: gap limit 1000, silence time 1500, threshold 50. -/
theorem test_read_stream_config :
    replyData (ran (.readStreamConfig q (some ⟨7, 1⟩)) State.reset) =
      some [0, 7, 1, 1, 0, 0, 0, 3, 232, 5, 220, 0, 50] := by decide +kernel
theorem test_read_stream_config_start_8 :
    replyCode (ran (.readStreamConfig q (some ⟨8, 1⟩)) State.reset) = some 3 := by decide +kernel
/-- 04: K = 1,050, z = 2,048, T = +150, C = 200,000, J = 0, serial 311. -/
theorem test_read_calibration :
    replyData (ran (.readCalibration q (some ⟨2, 1⟩)) idle2) =
      some ([1, 2, 1, 1, 1, 0, 0, 4, 26, 8, 0, 0, 150, 0, 3, 13, 64, 0, 0, 0, 0, 1, 55] ++ List.replicate 8 0 ++
        [0, 0, 0, 0]) := by decide +kernel
/-- R47: the read clears the since-read part and the flags with it. -/
theorem test_read_stream_status_effect :
    let s := State.reset.putStream 1 { Stream.reset with sinceRead := 9, unassigned := 9, certifiedSinceRead := false }
    ((ran (.readStreamStatus q (some ⟨1, 1⟩)) s).stream 1) = { Stream.reset with unassigned := 9 } := by decide +kernel
theorem test_read_hold_map :
    replyData (ran (.readHoldMap q (some ⟨0, 1⟩)) feeding) = some [3, 0, 1, 1, 1, 0, 27, 129] := by decide +kernel
theorem test_read_lot_absent : replyData (ran (.readLot q (some ⟨31, 2⟩)) State.reset) = some [4, 31, 2, 0, 0] := by decide +kernel
theorem test_read_outturn_absent : replyData (ran (.readOutturn q (some ⟨15, 1⟩)) State.reset) = some [5, 15, 1, 0] := by
  decide +kernel
theorem test_read_route :
    replyData (ran (.readRoute q (some ⟨9, 1⟩)) feeding) =
      some [6, 9, 1, 1, 2, 13, 3, 5, 0, 19, 1, 2, 40, 1, 1, 0, 1, 2, 0] := by decide +kernel
theorem test_read_segment_config :
    replyData (ran (.readSegmentConfig q (some ⟨40, 1⟩)) feeding) =
      some [7, 40, 1, 1, 2, 1, 34, 1, 13, 0, 90, 12, 2, 0] := by decide +kernel
theorem test_read_segment_status :
    replyData (ran (.readSegmentStatus q (some ⟨19, 1⟩)) feeding) =
      some [8, 19, 1, 1, 3, 0, 1, 27, 129, 1, 0, 4, 4, 1, 1, 2, 1, 2, 0, 0, 0] := by decide +kernel
theorem test_read_bin_config :
    replyData (ran (.readBinConfig q (some ⟨13, 1⟩)) feeding) =
      some [9, 13, 1, 1, 0, 6, 26, 128, 1, 45, 3, 182, 3, 112, 3, 32, 0, 5] := by decide +kernel
theorem test_read_bin_status_unconfigured :
    replyData (ran (.readBinStatus q (some ⟨39, 1⟩)) State.reset) =
      some ([10, 39, 1, 1, 0, 0] ++ List.replicate 8 0 ++ [0, 0, 0, 0, 0, 0, 0, 0, 0, 0, 0]) := by decide +kernel
/-- R171: POWER-UP's flag and count. -/
theorem test_read_events : replyData (ran (.readEvents q (some ⟨0, 1⟩)) State.reset) = some [11, 0, 1, 1, 1, 1, 0, 0] := by
  decide +kernel
/-- R175: entry 8 holds the loop's counters, and the read sets them to 0. -/
theorem test_read_counters :
    let t := ran (.readCounters q (some ⟨8, 1⟩)) (State.reset.putLoop { State.reset.loop with crc := 3, mgmtDrop := 4 })
    replyData t = some [12, 8, 1, 1, 3, 0, 0, 4] ∧ t.loop.crc = 0 ∧ t.loop.mgmtDrop = 0 := by decide +kernel


/-! ## Writes (09; 01, 02, 04 to 07) -/

/-- R26: a gap limit of 9,000 is clamped to 4,000, and a silence time left out is 1,500. -/
theorem test_write_stream_config_clamps :
    ((ran (.writeStreamConfig q (some ⟨4, some ⟨some 22, some 23, some 9, some 9000, none, some 0⟩⟩)) feeding).stream
      4).config = ⟨some 22, some 23, some 9, 4000, 1500, 0⟩ := by decide +kernel
theorem test_write_stream_config_same_meter :
    replyCode (ran (.writeStreamConfig q (some ⟨4, some ⟨some 12, some 23, some 9, none, none, none⟩⟩)) feeding) =
      some 5 := by decide +kernel
/-- R75: clamped to K 1..1,000,000 and T -2,000..2,000; the serial advances and the unlock ends. -/
theorem test_write_calibration :
    let t := ran (.writeCalibration q (some ⟨2, some ⟨some 0, some 7, some 3000, some 0, some 16000001⟩⟩)) unlocked
    (t.tallyOf 2).cal = some ⟨1, 7, 2000, 1, 16000000⟩ ∧ (t.tallyOf 2).serial = 312 ∧ t.mgmt.unlock = none := by
  decide +kernel
theorem test_write_calibration_locked :
    replyCode (ran (.writeCalibration q (some ⟨2, none⟩)) idle2) = some 8 := by decide +kernel
theorem test_write_hold_map_duplicate_key :
    replyCode (ran (.writeHoldMap q (some ⟨5, some ⟨some 1, some 0, some 9⟩⟩)) feeding) = some 5 := by decide +kernel
/-- R5: a new lot is PLANNED, its tolerance 5 where left out, its grams 0. -/
theorem test_write_lot_loads :
    (ran (.writeLot q (some ⟨3, some ⟨some 7042, some 3, some 0, none, some [13, 14]⟩⟩)) feeding).lotAt 3 =
      some ⟨7042, 3, some 1, 5, .planned, none, [⟨13, 0⟩, ⟨14, 0⟩], none, 0, 0, IdxSet.empty 8, IdxSet.empty 8, false,
        false⟩ := by decide +kernel
theorem test_write_lot_number_held :
    replyCode (ran (.writeLot q (some ⟨3, some ⟨some 7041, some 3, none, none, some [13]⟩⟩)) feeding) = some 5 := by
  decide +kernel
theorem test_write_route :
    (ran (.writeRoute q (some ⟨10, some ⟨some 2, some 13, some [⟨some 5, none⟩, ⟨some 19, some 3⟩, ⟨some 40, some 1⟩]⟩⟩))
      ((tables .free).putRoute 9 none |>.putStream 2 { Stream.reset with config := used })).routeAt 10 =
      some ⟨2, 13, [⟨5, none⟩, ⟨19, some 3⟩, ⟨40, some 1⟩]⟩ := by decide +kernel
/-- R107: a GATE's position on a route is 1. -/
theorem test_write_route_gate_at_2 :
    replyCode (ran (.writeRoute q (some ⟨10, some ⟨some 2, some 13, some [⟨some 5, none⟩, ⟨some 40, some 2⟩]⟩⟩))
      ((tables .free).putRoute 9 none |>.putStream 2 { Stream.reset with config := used })) = some 4 := by decide +kernel
/-- R84: share limit 1 and travel limit 12 where left out; a GATE's bin learns its inlet gate. -/
theorem test_write_segment_config_gate :
    let t := ran (.writeSegmentConfig q (some ⟨41, some ⟨some .gate, some 35, some 14, some 6001, none, none, none⟩⟩))
      State.reset
    (t.seg 41).config = some ⟨.gate 35 14, 6000, 12, 1⟩ ∧ (t.bin 14).inletGate = some 41 := by decide +kernel
/-- R129's two examples. -/
theorem test_write_bin_config_thresholds :
    let stored (h p r e : Nat) := ((ran (.writeBinConfig q (some ⟨3, some ⟨some 400000, none, some h, some p, some r,
      some e⟩⟩)) State.reset).bin 3).config
    stored 900 920 930 10 = some ⟨400000, none, 900, 900, 899, 10⟩ ∧
    stored 2 880 800 5 = some ⟨400000, none, 3, 3, 2, 1⟩ := by decide +kernel

/-! ## Lots and streams -/

/-- R9, R17. -/
theorem test_open_lot :
    ((ran (.openLot q (some 7041)) (idle2.putLot 0 (some { lot7041 with state := .planned, current := none })
      |>.putBin 14 (binIn .available))).lotAt 0).map (fun l => (l.state, l.current)) = some (.opened, some 1) := by
  decide +kernel
/-- R12: the FEEDING stream drains, and a PERMIT with feed 0 is sent. -/
theorem test_close_lot_drains_its_stream :
    ((ran (.closeLot q (some 7041)) feeding).stream 2).state = .draining ∧
    (sent (.closeLot q (some 7041)) feeding).head? = some (.permit 13 2 false 13 7041) := by decide +kernel
theorem test_close_lot_planned_is_planned_close :
    ((ran (.closeLot q (some 7041)) (idle2.putLot 0 (some { lot7041 with
      state := .planned, current := none, attached := IdxSet.empty 8 }))).lot.outturn.map (·.closeKind)) =
      [.plannedClose] := by decide +kernel
/-- R24: the list closes up. -/
theorem test_release_outturn_closes_up :
    (ran (.releaseOutturn q (some 6980)) (State.reset.putOutturn
      [⟨6980, 1, none, 5, 0, IdxSet.empty 8, [], .requested⟩, ⟨7003, 1, none, 6, 0, IdxSet.empty 8, [], .requested⟩])
      ).lot.outturn.map (·.number) = [7003] := by decide +kernel
theorem test_release_outturn_not_found : replyCode (ran (.releaseOutturn q (some 1)) State.reset) = some 10 := by
  decide +kernel
/-- R37, R40. -/
theorem test_hold_idle_stream :
    let x := (ran (.holdStream q (some 2)) idle2).stream 2
    x.state = .held ∧ x.fromIdle = true ∧ x.reasons.operator = true := by decide +kernel
theorem test_hold_feeding_stream_drains : ((ran (.holdStream q (some 2)) feeding).stream 2).state = .draining := by
  decide +kernel
theorem test_release_stream_returns_to_idle :
    ((ran (.releaseStream q (some 2)) (ran (.holdStream q (some 2)) idle2)).stream 2).state = .idle := by decide +kernel
/-- R46, R68: a record without a lot goes to unassigned mass, uncertified. -/
theorem test_accept_suspect_books_unassigned :
    let t := ran (.acceptSuspect q (some 2)) (idle2.putStream 2 { idle2.stream 2 with
      suspect := some ⟨60000, 9, 9, 1000, none, none⟩, state := .held, reasons := { HoldSet.none with meter := true } })
    (t.stream 2).suspect = none ∧ (t.stream 2).reasons.meter = false ∧ (t.stream 2).certifiedSinceRead = false ∧
    (t.stream 2).unassigned = (60000 * 1024000 - 2048 * 1000) * 1050 * 100150 / 102400000000000 := by decide +kernel
theorem test_discard_suspect_books_nothing :
    let t := ran (.discardSuspect q (some 2)) (idle2.putStream 2 { idle2.stream 2 with
      suspect := some ⟨60000, 9, 9, 1000, none, none⟩, state := .held, reasons := { HoldSet.none with meter := true } })
    (t.stream 2).suspect = none ∧ (t.stream 2).unassigned = 0 := by decide +kernel

/-! ## Bins, segments, calibration -/

/-- R142: an unreserved bin is emptied, EMPTY and AVAILABLE, and polled at once. -/
theorem test_bin_emptied :
    let t := ran (.binEmptied q (some 13)) (State.reset.putBin 13 { binIn .full with fill := 9, cls := some 3 })
    (t.bin 13).fill = 0 ∧ (t.bin 13).cls = none ∧ (t.bin 13).state = .available ∧ (t.bin 13).pollTimer = some 0 := by
  decide +kernel
theorem test_bin_emptied_in_use : replyCode (ran (.binEmptied q (some 13)) feeding) = some 6 := by decide +kernel
theorem test_bin_service_out :
    ((ran (.binServiceOut q (some 14)) feeding).bin 14).state = .outOfService := by decide +kernel
theorem test_bin_service_in_full_again :
    ((ran (.binServiceIn q (some 14)) (State.reset.putBin 14 { binIn .outOfService with fill := 380000000 })).bin
      14).state = .full := by decide +kernel
/-- R97: the segment's full flush begins, 6 s for a flush time of 60 tenths. -/
theorem test_clear_segment_fault :
    let t := ran (.clearSegmentFault q (some 5)) (State.reset.putSeg 5 { conveyorIn .fault with owner := some 7041 })
    (t.seg 5).state = .flushing ∧ (t.seg 5).flush = some 6000 := by decide +kernel
/-- R73, and 04's worked sequence: the unlock of 10,000 ms for the serial 311. -/
theorem test_unlock : (ran (.unlockCalibration q (some ⟨2, 311⟩)) (ran .calenRise idle2)).mgmt.unlock =
    some ⟨2, 10000, false⟩ := by decide +kernel
theorem test_unlock_other_serial :
    replyCode (ran (.unlockCalibration q (some ⟨2, 310⟩)) (ran .calenRise idle2)) = some 4 := by decide +kernel
/-- R78: a window of 5 s is clamped to 10 s, and the unlock holds for it and 10 s more. -/
theorem test_capture_zero :
    let t := ran (.captureZero q (some ⟨2, some 5⟩)) unlocked
    t.tally.capture = some ⟨2, 10000, 0, 0⟩ ∧ t.mgmt.unlock = some ⟨2, 20000, true⟩ := by decide +kernel
/-- 04, the worked sequence's step 5: z 8,192, serial 312. -/
theorem test_capture_done :
    let t := ran (sample 201 61450 2 2) capturing
    (t.tallyOf 2).cal = some { worked with zero := 8192 } ∧ (t.tallyOf 2).serial = 312 ∧
    (t.tallyOf 2).report = some ⟨.done 8192, 60000, 480, 60000, 312⟩ ∧ t.mgmt.unlock = none := by decide +kernel
/-- 04, the worked sequence's repeat: demand aborts it, z and serial standing. -/
theorem test_capture_aborted_by_demand :
    let t := ran (sample 201 61450 2 3) capturing
    (t.tallyOf 2).serial = 311 ∧ (t.tallyOf 2).report = some ⟨.aborted .demand, 60000, 478, 59750, 311⟩ := by
  decide +kernel

/-! ## Events, lamps, restart -/

/-- R173: a position that holds 0 clears flag and count. -/
theorem test_clear_events : (ran (.clearEvents q (some 0xFFFFFE)) State.reset).ind.events.get 0 = ⟨false, 0, 0, false⟩ := by
  decide +kernel
/-- R172, R174: unmasking a flag that stands makes the alert output active. -/
theorem test_set_mask_alerts : (ran (.setMask q (some 1)) State.reset).ind.alert = true := by decide +kernel
/-- R177's table: 879 is below pre-stage; 880 blinks at 1 Hz, 900 at 2, 949 at 4, 960 and above at 5. -/
theorem test_blink_rates :
    let shown (level : Nat) := ((refreshLamps (feeding.putBin 13 { feeding.bin 13 with judged := some level })).ind.lamps.get
      2).shown.map (·.pattern)
    shown 879 = some .steady ∧ shown 880 = some (.blink 1) ∧ shown 900 = some (.blink 2) ∧ shown 949 = some (.blink 4) ∧
    shown 959 = some (.blink 4) ∧ shown 960 = some (.blink 5) ∧ shown 1000 = some (.blink 5) := by decide +kernel
theorem test_set_lamp_mode_on :
    (ran (.setLampMode q (some ⟨7, 2, none⟩)) State.reset).lampOutput 7 = true := by decide +kernel
theorem test_set_lamp_force_off :
    (ran (.setLampForce q (some ⟨false, 1⟩)) (ran (.setLampMode q (some ⟨7, 2, none⟩)) State.reset)).lampOutput 7 =
      false := by decide +kernel
/-- R177: the double flash is 100 ms on, 150 off, 100 on, 1,650 off. -/
theorem test_lamp_phase_end :
    ((ran (.lampPhaseEnd 2) (State.reset.putInd { State.reset.ind with
      lamps := State.reset.ind.lamps.set 2 ⟨.stream, 2, some ⟨.doubleFlash, 2, 0⟩⟩ })).ind.lamps.get 2).shown =
      some ⟨.doubleFlash, 3, 1650⟩ := by decide +kernel
/-- R177: WAITING, IDLE and WAITING again within one SAMPLE: the double flash starts afresh. -/
theorem test_lamp_restarts_within_a_sample :
    let s := waiting2.putInd { waiting2.ind with lamps := waiting2.ind.lamps.set 2 ⟨.stream, 2, some ⟨.doubleFlash, 3, 1650⟩⟩ }
    let changed := (s.putLot 1 (some { lot7041 with number := 8, state := .opened, attached := IdxSet.empty 8 })).putHold 1
      (some ⟨2, 0, 8⟩)
    let t := ran (.sample 12 ⟨42, 10250, 0x0059_00, 2, 0, 3⟩) changed
    (t.stream 2).currentLot = some 8 ∧ (t.stream 2).state = .waiting ∧
    ((t.ind.lamps.get 2).shown = some ⟨.doubleFlash, 0, 100⟩) := by decide +kernel
/-- R115: a further pass that a changeover's pass occasions comes right after it. -/
theorem test_further_pass_comes_next :
    (takeReport .passNow { feeding with agenda := [], passDue := true }).agenda = [.pass] := by decide +kernel
theorem test_restart : (ran (.restart q (some ())) feeding).mgmt.restartLeft = some 200 := by decide +kernel
/-- R163, test 1. -/
theorem test_restarting_is_answered :
    replyCode (ran (.restart q (some ())) (State.reset.putMgmt { State.reset.mgmt with restartLeft := some 9 })) =
      some 11 := by decide +kernel
/-- R169, R104, R15. -/
theorem test_restart_interval_end :
    let t := ran .restartIntervalEnd (feeding.putMgmt { feeding.mgmt with restartLeft := some 0 })
    (t.stream 2).state = .idle ∧ (t.seg 5).state = .flushing ∧ (t.lotAt 0).map (·.state) = some .opened ∧
    t.mgmt.restartLeft = none := by decide +kernel

/-! ## Time -/

/-- R41. -/
theorem test_silence_timer_expiry :
    let t := ran (.silenceTimerExpiry 2) feeding
    (t.stream 2).state = .draining ∧ (t.stream 2).reasons.silent = true ∧ (t.ind.events.get 2).source = 2 := by
  decide +kernel
/-- R42. -/
theorem test_permit_timer_expiry : sent (.permitTimerExpiry 2) feeding = [.permit 13 2 true 13 7041] := by decide +kernel
/-- R38: draining ends, and demand still 1 puts the stream back into WAITING. -/
theorem test_drain_timer_expiry :
    let s := feeding.putStream 2 { feeder with state := .draining, permit := none, drain := some 0 }
    ((ran (.drainTimerExpiry 2) s).stream 2).state = .waiting := by
  decide +kernel
/-- R74. -/
theorem test_unlock_expiry : (ran .unlockExpiry unlocked).mgmt.unlock = none := by decide +kernel
/-- R94, R95. -/
theorem test_travel_timer_expiry :
    let t := ran (.travelTimerExpiry 19) (State.reset.putSeg 19 { heldBy (diverterIn .setting) with travel := some 0 })
    (t.seg 19).state = .fault ∧ (t.seg 19).owner = some 7041 ∧ (t.ind.events.get 11).source = 19 := by decide +kernel
/-- R99: a GATE's flush ends in CLOSING, SET to 0. -/
theorem test_flush_timer_expiry :
    let s := State.reset.putSeg 40 { gateIn .flushing with owner := some 7041, flush := some 0 }
    ((ran (.flushTimerExpiry 40) s).seg 40).state = .closing ∧ sent (.flushTimerExpiry 40) s = [.set 34 0] := by
  decide +kernel
/-- R137, R138: a FILLING bin not near full is polled each 4,000 ms, and has 400 ms to answer. -/
theorem test_poll_timer_expiry :
    let t := ran (.pollTimerExpiry 13) feeding
    (t.bin 13).replyTimer = some 400 ∧ (t.bin 13).pollTimer = some 4000 ∧ sent (.pollTimerExpiry 13) feeding = [.poll 45] := by
  decide +kernel
/-- R139: the third miss loses the gauge. -/
theorem test_third_miss_loses_the_gauge :
    let t := ran (.replyTimerExpiry 13) (feeding.putBin 13 { feeding.bin 13 with
      misses := 2, pollOutstanding := true, replyTimer := some 0, gaugeLevel := some 700 })
    (t.bin 13).gaugeState = .lost ∧ (t.bin 13).gaugeLevel = none ∧ (t.ind.events.get 12).source = 13 := by decide +kernel
/-- R21's example: the limit of 1,821,060,000 g is passed by the booking that takes the total above it. -/
theorem test_overrun_above_the_limit :
    let after (g : Nat) := (bookLot 0 13 g true feeding).ind.events.get 10
    (after 10).flag = false ∧ (after 11).flag = true ∧ (after 11).source = 0 := by decide +kernel

/-! ## Witnesses: for each statement with hypotheses, states and operands that meet them, clause by clause

A hypothesis `∀ l, o = some l → P l` is written `∀ l ∈ o, P l`, which is the same proposition. -/

/-- Whether an outcome is a next state. -/
def answersNext : Host.Outcome State Fault Refusal → Bool
  | .next _ => true
  | _ => false

theorem next_of_answersNext {o : Host.Outcome State Fault Refusal} (h : answersNext o = true) : ∃ t, o = .next t := by
  cases o with
  | next t => exact ⟨t, rfl⟩
  | fault f => nomatch f
  | refused r => exact absurd h (by simp [answersNext])

/-- `feeding` with a command waiting. -/
def live : State := { feeding with pending := [.permitTimerExpiry 2] }

theorem witness_StepRunsFrontCommand : live.pending = .permitTimerExpiry 2 :: [] := by decide +kernel

theorem live_steps : ∃ t, step live = .next t := next_of_answersNext (by decide +kernel)

theorem witness_LoopLawKept : LoopLaw live ∧ ∃ t, step live = .next t :=
  ⟨{ forward := by decide +kernel, own := by decide +kernel, permits := by decide +kernel, crc := by decide +kernel
     fwdDrop := by decide +kernel, ownDrop := by decide +kernel, mgmtDrop := by decide +kernel
     address := by decide +kernel, idle := by decide +kernel }, live_steps⟩

theorem witness_AccountLawKept : AccountLaw live ∧ ∃ t, step live = .next t :=
  ⟨{ residue := by decide +kernel, serial := by decide +kernel, overCount := by decide +kernel
     jumpCount := by decide +kernel, unassigned := by decide +kernel, sinceRead := by decide +kernel
     missed := by decide +kernel, discarded := by decide +kernel
     certified := (by decide +kernel : ∀ k, ∀ l ∈ live.lotAt k, l.certified ≤ maxGrams)
     uncertified := (by decide +kernel : ∀ k, ∀ l ∈ live.lotAt k, l.uncertified ≤ maxGrams)
     delivered := (by decide +kernel : ∀ k, ∀ l ∈ live.lotAt k, ∀ d ∈ l.bins, d.grams ≤ maxGrams)
     outturn := by decide +kernel, fill := by decide +kernel, misses := by decide +kernel
     input := by decide +kernel, inHand := by decide +kernel, events := by decide +kernel }, live_steps⟩

theorem witness_AlertLawKept : AlertLaw live ∧ ∃ t, step live = .next t :=
  ⟨(by decide +kernel : live.ind.alert = true ↔
    ∃ k, (live.ind.events.get k).flag = true ∧ (live.ind.events.get k).mask = true), live_steps⟩

theorem witness_BinThresholdOrderKept : BinLaw live ∧ ∃ t, step live = .next t :=
  ⟨(by decide +kernel : ∀ b, ∀ c ∈ (live.bin b).config,
    c.empty < c.resume ∧ c.resume < c.preStage ∧ c.preStage ≤ c.high ∧ c.high ≤ 1000), live_steps⟩

theorem witness_SegmentLawKept : SegmentLaw live ∧ ∃ t, step live = .next t :=
  ⟨fun g => { configured := by revert g; decide +kernel
              settings := by
                revert g
                exact (by decide +kernel : ∀ g, ∀ c ∈ (live.seg g).config, c.flushTime ≤ 6000 ∧ 1 ≤ c.travelLimit ∧
                  c.travelLimit ≤ 60 ∧ 1 ≤ c.shareLimit ∧ c.shareLimit ≤ 4)
              owner := by revert g; decide +kernel, atRest := by revert g; decide +kernel
              kind := by revert g; decide +kernel, feeders := by revert g; decide +kernel
              active := by revert g; decide +kernel, subset := by revert g; decide +kernel
              share := by revert g; decide +kernel, staged := by revert g; decide +kernel
              underFlow := by revert g; decide +kernel }, live_steps⟩

theorem witness_GateLawKept : GateLaw live ∧ ∃ t, step live = .next t :=
  ⟨{ gate := (by decide +kernel : ∀ g, ∀ b ∈ (live.seg g).gateBin, (live.bin b).inletGate = some g)
     inlet := (by decide +kernel : ∀ b, ∀ g ∈ (live.bin b).inletGate, (live.seg g).gateBin = some b ∧
       ((live.bin b).gateCarrying = true ↔ (live.seg g).state = .carrying) ∧
       ((live.bin b).gateReserved = true ↔ (live.seg g).state ≠ .free))
     none := by decide +kernel, filling := by decide +kernel, available := by decide +kernel }, live_steps⟩

theorem streamLaw_of {s : State}
    (h : ∀ i, (((s.stream i).state = .held → (s.stream i).reasons ≠ HoldSet.none) ∧
      ((s.stream i).state = .idle ∨ (s.stream i).state = .waiting ∨ (s.stream i).state = .feeding →
        (s.stream i).reasons = HoldSet.none) ∧
      ((s.stream i).currentLot.isSome = true ↔
        (s.stream i).state = .waiting ∨ (s.stream i).state = .feeding ∨ (s.stream i).state = .draining) ∧
      ((s.stream i).activeRoute.isSome = true ↔ (s.stream i).state = .feeding ∨ (s.stream i).state = .draining)) ∧
      ((s.stream i).fromIdle = true → (s.stream i).state = .held) ∧
      (s.stream i).noBinLot.isSome = (s.stream i).reasons.noBin ∧
      (s.stream i).reasons.segment = !(s.stream i).faulted.isEmpty ∧
      (s.stream i).suspect.isSome = (s.stream i).reasons.meter ∧
      ((s.stream i).silence.isSome = true →
        (s.stream i).state = .waiting ∨ (s.stream i).state = .feeding ∨ (s.stream i).state = .draining) ∧
      ((s.stream i).permit.isSome = true ↔ (s.stream i).state = .feeding) ∧
      ((s.stream i).drain.isSome = true → (s.stream i).state = .draining)) : StreamLaw s := fun i =>
  have ⟨⟨held, free, lot, route⟩, mark, noBin, faulted, meter, silence, permit, drain⟩ := h i
  { held, free, lot, route, mark, noBin, faulted, meter, silence, permit, drain }

theorem feeding_streamLaw : StreamLaw feeding := streamLaw_of (by decide +kernel)
theorem idle2_streamLaw : StreamLaw idle2 := streamLaw_of (by decide +kernel)

theorem controlLaw_of {s : State} (once : (s.alloc.queue.map (·.stream)).Nodup)
    (waiting : ∀ q ∈ s.alloc.queue, (s.stream q.stream).state = .waiting)
    (unlock : ∀ u ∈ s.mgmt.unlock, s.mgmt.calen = true ∧ (s.stream u.stream).state = .idle)
    (held : ∀ u ∈ s.mgmt.unlock, u.held = true → ∃ c ∈ s.tally.capture, c.stream = u.stream)
    (capture : ∀ c ∈ s.tally.capture, ∃ u ∈ s.mgmt.unlock, u.stream = c.stream ∧ u.held = true) : ControlLaw s :=
  { once, waiting, unlock, held, capture }

/-- A zero capture of stream 2 runs, and a sample that completes it waits. -/
def live2 : State := { capturing with pending := [sample 201 61450 2 2] }

theorem witness_ControlLawKept :
    (ControlLaw live ∧ ∃ t, step live = .next t) ∧ (ControlLaw live2 ∧ ∃ t, step live2 = .next t) :=
  ⟨⟨controlLaw_of (by decide +kernel) (by decide +kernel) (by decide +kernel) (by decide +kernel) (by decide +kernel),
    live_steps⟩,
   ⟨controlLaw_of (by decide +kernel) (by decide +kernel) (by decide +kernel) (by decide +kernel) (by decide +kernel),
    next_of_answersNext (by decide +kernel)⟩⟩

theorem witness_StreamLawKept : ControlLaw live ∧ StreamLaw live ∧ ∃ t, step live = .next t :=
  ⟨witness_ControlLawKept.1.1, feeding_streamLaw, live_steps⟩

theorem lotLaw_of {s : State}
    (table : ∀ i j, ∀ l ∈ s.lotAt i, ∀ m ∈ s.lotAt j, l.number = m.number → i = j)
    (apart : ∀ i, ∀ l ∈ s.lotAt i, ∀ r ∈ s.lot.outturn, r.number ≠ l.number)
    (list : (s.lot.outturn.map (·.number)).Nodup) : LotLaw s :=
  { table := fun i j l m hl hm => table i j l hl m hm, apart, list }

theorem feeding_lotLaw : LotLaw feeding := lotLaw_of (by decide +kernel) (by decide +kernel) (by decide +kernel)

theorem witness_LotNumbersStayUnique : LotLaw live ∧ ∃ t, step live = .next t :=
  ⟨lotLaw_of (by decide +kernel) (by decide +kernel) (by decide +kernel), live_steps⟩

theorem witness_DeliverySumsKept : DeliveryLaw live ∧ ∃ t, step live = .next t ∧ Unsaturated t :=
  ⟨(by decide +kernel : ∀ k, ∀ l ∈ live.lotAt k,
      (l.bins.map (·.bin)).Nodup ∧ (l.bins.map (·.grams)).sum = l.certified + l.uncertified),
   ran (.permitTimerExpiry 2) feeding,
   (by
      obtain ⟨t, h⟩ := live_steps
      have e : step live = exec (.permitTimerExpiry 2) feeding := rfl
      rw [e] at h ⊢
      simp [ran, h]),
   (by decide +kernel : ∀ k, ∀ l ∈ (ran (.permitTimerExpiry 2) feeding).lotAt k,
      l.certified < maxGrams ∧ l.uncertified < maxGrams ∧ ∀ d ∈ l.bins, d.grams < maxGrams)⟩

/-- The write of a calibration record, and the completion of a zero capture. -/
theorem witness_CalibrationChangesOnlyUnlocked :
    ControlLaw unlocked ∧ (∃ t, exec (.writeCalibration q (some ⟨2, none⟩)) unlocked = .next t ∧
      t = ran (.writeCalibration q (some ⟨2, none⟩)) unlocked) ∧
    ((ran (.writeCalibration q (some ⟨2, none⟩)) unlocked).tallyOf 2).cal ≠ (unlocked.tallyOf 2).cal ∧
    ((ran (.writeCalibration q (some ⟨2, none⟩)) unlocked).tallyOf 2).serial ≠ (unlocked.tallyOf 2).serial := by
  refine ⟨controlLaw_of (by decide +kernel) (by decide +kernel) (by decide +kernel) (by decide +kernel)
    (by decide +kernel), ?_, by decide +kernel, by decide +kernel⟩
  obtain ⟨t, h⟩ := next_of_answersNext
    (by decide +kernel : answersNext (exec (.writeCalibration q (some ⟨2, none⟩)) unlocked) = true)
  exact ⟨t, h, by simp [ran, h]⟩

theorem witness_SettlementFrame : feeding.quiet = true := by decide +kernel

/-! ### The loop -/

theorem witness_GoodFramesAreFrameBytes :
    judgeFrame (⟨63, 12, 1, [7, 8]⟩ : Frame).bytes = some ⟨63, 12, 1, [7, 8]⟩ ∧
    judgeFrame (⟨63, 12, 1, List.replicate 49 7⟩ : Frame).bytes = none := by decide +kernel

/-- Bad frames at 15 and 14 counted; then a good frame for each clause: the station's own, LEVEL, POSREP, MANAGE of three
bytes and of five, addressed frames of another length or kind, SAMPLE, a SAMPLE of 8 bytes, another station's. -/
theorem witness_FrameReceivedDisposition :
    judgeFrame [1, 2] = none ∧ (State.reset.putLoop { State.reset.loop with crc := 15 }).loop.crc = 15 ∧
    (State.reset.putLoop { State.reset.loop with crc := 14 }).loop.crc ≠ 15 ∧ State.reset.loop.address = 0 ∧
    ([⟨9, 0, 4, [1]⟩, ⟨0, 45, 2, [3, 232]⟩, ⟨0, 33, 5, [2]⟩, ⟨0, 60, 7, [0, 1, 18]⟩, ⟨0, 60, 7, [0, 1, 4, 2, 3]⟩,
      ⟨0, 60, 7, [0, 1]⟩, ⟨0, 45, 2, [3]⟩, ⟨0, 33, 5, [1, 2]⟩, ⟨0, 12, 1, [1, 2, 3, 4, 5, 6, 7, 8, 9]⟩,
      ⟨63, 12, 1, [1, 2, 3, 4, 5, 6, 7, 8, 9]⟩, ⟨63, 12, 1, [1, 2, 3, 4, 5, 6, 7, 8]⟩, ⟨9, 10, 4, [1]⟩] : List Frame).all
      (fun f => judgeFrame f.bytes = some f) = true := by decide +kernel

/-- `s` with `n` POLLs waiting behind a frame being sent. -/
def waiting (n : Nat) (s : State) : State :=
  (busy s).putLoop { (busy s).loop with own := List.replicate n (.poll 45) }

/-- `s` with `n` frames to be forwarded behind a frame being sent. -/
def crowded (n : Nat) (s : State) : State :=
  (busy s).putLoop { (busy s).loop with forward := List.replicate n ⟨9, 10, 4, [1]⟩ }

theorem witness_FramePlacement :
    (∃ o ∈ ((busy feeding).putLoop { (busy feeding).loop with own := [.poll 45, .permit 13 2 true 13 7041] }).loop.own,
      o.permitStream = some (2 : StreamIdx)) ∧
    (∀ n : Fin 25, (waiting n feeding).loop.tx ≠ none ∧ (waiting n feeding).loop.own.length = n ∧
      ∀ o ∈ (waiting n feeding).loop.own, o.permitStream = none) ∧
    (State.reset.loop.tx = none ∧ State.reset.loop.forward = [] ∧ State.reset.loop.own = []) ∧
    ((crowded 1 feeding).loop.tx ≠ none ∧ (crowded 1 feeding).loop.forward = ⟨9, 10, 4, [1]⟩ :: []) ∧
    ((waiting 1 feeding).loop.forward = [] ∧ (waiting 1 feeding).loop.own = .poll 45 :: []) ∧
    ((busy feeding).loop.tx ≠ none ∧ (busy feeding).loop.forward = [] ∧ (busy feeding).loop.own = []) ∧
    ((crowded 3 feeding).loop.forward.length < 4 ∧ 4 ≤ (crowded 4 feeding).loop.forward.length) := by decide +kernel

/-- Two parts of 45 bytes of data with 22 and with 23 frames waiting; a request in hand that is the command. -/
theorem witness_ReplyPlacement :
    ((waiting 22 feeding).loop.tx ≠ none ∧
      (waiting 22 feeding).loop.own.length + (replyParts q .done (List.replicate 45 1)).length = 24) ∧
    24 < (waiting 23 feeding).loop.own.length + (replyParts q .done (List.replicate 45 1)).length ∧
    (∃ f ∈ (State.reset.putMgmt { State.reset.mgmt with inHand := some ⟨60, 7, 18, []⟩ }).mgmt.inHand,
      decodeRequest f = .restart q (some ())) ∧
    ¬ (∃ f ∈ State.reset.mgmt.inHand, decodeRequest f = .restart q (some ())) := by decide +kernel

/-! ### Samples and the tally -/

/-- The restart interval runs. -/
def restartingNow : State := feeding.putMgmt { feeding.mgmt with restartLeft := some 200 }

/-- Which differences of a sample the statements ask about: sequence and meter time. -/
def seqTime (last : LastSample) (seq time : Nat) : Int × Int :=
  (((seq : Int) - last.seq) % 256, ((time : Int) - last.time) % 65536)

/-- A stripped source (0), the restart interval, a source no meter has, and discards at d = 0, d = 129 and Δt = 0. -/
theorem witness_SampleLeftAloneOrDiscarded :
    idle2.loop.address = 0 ∧ restartingNow.mgmt.restartLeft ≠ none ∧
    (∀ i, (idle2.stream i).config.meter ≠ some 11) ∧ idle2.mgmt.restartLeft = none ∧
    (idle2.stream 2).config.meter = some 12 ∧ (∀ j, (idle2.stream j).config.meter = some 12 → j = 2) ∧
    (idle2.stream 2).last = some ⟨200, 61200, 0, 0⟩ ∧ (0 : Byte).getLsbD 2 = false ∧
    (seqTime ⟨200, 61200, 0, 0⟩ 200 61450).1 = 0 ∧ 128 < (seqTime ⟨200, 61200, 0, 0⟩ 73 61450).1 ∧
    (seqTime ⟨200, 61200, 0, 0⟩ 201 61200).2 = 0 := by decide +kernel

/-- An unprimed IDLE stream, a restart flag, and a stream without a record at d = 1 and d = 128. -/
theorem witness_IdleSamplePrimesOrAdvances :
    let s := idle2.putTally 2 Tally.reset
    let s0 := idle2.putStream 2 { idle2.stream 2 with last := none }
    idle2.loop.address ≠ 12 ∧ idle2.mgmt.restartLeft = none ∧ (idle2.stream 2).config.meter = some 12 ∧
    (∀ j, (idle2.stream j).config.meter = some 12 → j = 2) ∧ (idle2.stream 2).state = .idle ∧
    (∀ c ∈ idle2.tally.capture, c.stream ≠ 2) ∧ (2 : Byte).getLsbD 0 = false ∧ (2 : Byte).getLsbD 2 = false ∧
    (s0.stream 2).last = none ∧ (s0.stream 2).config.meter = some 12 ∧ (s0.stream 2).state = .idle ∧
    (6 : Byte).getLsbD 2 = true ∧ (6 : Byte).getLsbD 0 = false ∧
    (s.tallyOf 2).cal = none ∧ (s.stream 2).last = some ⟨200, 61200, 0, 0⟩ ∧ (s.stream 2).config.meter = some 12 ∧
    seqTime ⟨200, 61200, 0, 0⟩ 201 61450 = (1, 250) ∧ seqTime ⟨200, 61200, 0, 0⟩ 72 61450 = (128, 250) := by decide +kernel

theorem witness_IdleSamplePrimesOrAdvances_law :
    (idle2.stream 2).Law ∧ ((idle2.putTally 2 Tally.reset).stream 2).Law := ⟨idle2_streamLaw 2, idle2_streamLaw 2⟩

/-- Stream 2 IDLE with demand 1 and a lookup found, lot 7041 standing in a state with a current bin. -/
def asking (found : Lookup) (st : LotState) (current : Option Nat) : State :=
  ((tables .free).putLot 0 (some { lot7041 with state := st, current := current, attached := IdxSet.empty 8 })).putStream 2
    { idle2.stream 2 with demand := true, lastLookup := some found }

/-- The IDLE rule, case by case: demand 0; no lot, a CLOSING one, the lookup as before and another; a lot that qualifies,
without a record, with a current bin and without; an unlock of another stream, one not held and one held. -/
theorem witness_IdleSamplePrimesOrAdvances_rule :
    (idle2.stream 2).demand = false ∧
    (∀ s ∈ [asking .noLot .opened (some 0), asking (.lot 7041) .closing (some 0)], (s.stream 2).demand = true ∧
      (∀ l ∈ (s.stream 2).lastLookup, ∀ n ∈ [7041, 9], l = .lot n → s.standing n ≠ some (.inTable .opened) ∧
        s.standing n ≠ some (.inTable .discharging)) ∧ (s.stream 2).lastLookup ≠ none) ∧
    (∀ st ∈ [LotState.opened, .discharging], ∀ p ∈ [(some 0, some 13), (some 1, some 14), (none, none)],
      let s := asking (.lot 7041) st p.1
      (s.stream 2).demand = true ∧ (s.stream 2).lastLookup = some (.lot 7041) ∧
      s.standing 7041 = some (.inTable st) ∧ (s.tallyOf 2).cal ≠ none ∧ ((s.putTally 2 Tally.reset).tallyOf 2).cal = none ∧
      (s.stream 2).currentLot = none ∧ s.currentBinOf 7041 = p.2 ∧ s.mgmt.unlock = none) ∧
    (∃ u ∈ unlocked.mgmt.unlock, u.stream ≠ 3 ∧ u.stream = 2 ∧ u.held = false) ∧
    (∃ u ∈ capturing.mgmt.unlock, u.stream = 2 ∧ u.held = true ∧ capturing.tally.capture ≠ none) := by decide +kernel

theorem witness_FeedingSampleIsTallied :
    (feeding.loop.address ≠ 12 ∧ feeding.mgmt.restartLeft = none ∧ (feeding.stream 2).config.meter = some 12 ∧
    (∀ j, (feeding.stream j).config.meter = some 12 → j = 2) ∧ (feeding.stream 2).state = .feeding ∧
    (∀ c ∈ feeding.tally.capture, c.stream ≠ 2) ∧ (feeding.stream 2).last = some ⟨41, 10000, 16760000, 0⟩ ∧
    (3 : Byte).getLsbD 0 = true ∧ (3 : Byte).getLsbD 2 = false ∧ (feeding.stream 2).currentLot = some 7041 ∧
    feeding.lookup 1 0 = .lot 7041 ∧ seqTime ⟨41, 10000, 16760000, 0⟩ 42 10250 = (1, 250) ∧
    seqTime ⟨41, 10000, 16760000, 0⟩ 169 10250 = (128, 250)) ∧ (feeding.stream 2).Law :=
  ⟨by decide +kernel, feeding_streamLaw 2⟩

/-- Stream 2 HELD for the reasons given, without lot and route. -/
def heldFor (r : HoldSet) (noBin : Option Nat) (fromIdle : Bool) : State :=
  feeding.putStream 2 { idle2.stream 2 with state := .held, reasons := r, noBinLot := noBin, fromIdle := fromIdle }

/-- Samples by state: stream 2's own lot (hold 1, layer 0) and another; with a capture of its own, of another stream, and
none; HELD for SILENT from idle and not, for NO-BIN of a lot found and of another, and for OPERATOR. -/
theorem witness_FeedingSampleIsTallied_states :
    (capturing.tally.capture.map (·.stream) = some 2 ∧ (2 : StreamIdx) ≠ 3 ∧ feeding.tally.capture = none) ∧
    (seqTime ⟨200, 61200, 0, 0⟩ 201 61450 = (1, 250) ∧ seqTime ⟨200, 61200, 0, 0⟩ 72 61199 = (128, 65535)) ∧
    (feeding.lookup 1 0 = .lot 7041 ∧ feeding.lookup 2 0 = .noLot) ∧
    (∀ s ∈ [waiting2, feeding, draining2], (s.stream 2).currentLot = some 7041 ∧ (s.stream 2).noBinLot = none) ∧
    ((waiting2.stream 2).state = .waiting ∧ (feeding.stream 2).state = .feeding ∧
      (draining2.stream 2).state = .draining ∧ (idle2.stream 2).state = .idle ∧ (idle2.stream 2).noBinLot = none ∧
      (idle2.stream 2).currentLot = none) ∧
    (∀ idle ∈ [true, false], let s := heldFor { HoldSet.none with silent := true } none idle;
      (s.stream 2).state = .held ∧ (s.stream 2).fromIdle = idle ∧ (s.stream 2).noBinLot = none ∧
      (s.stream 2).reasons ≠ HoldSet.none ∧ { (s.stream 2).reasons with silent := false } = HoldSet.none) ∧
    (∀ n ∈ [7041, 9], let s := heldFor { HoldSet.none with noBin := true } (some n) false;
      (s.stream 2).state = .held ∧ (s.stream 2).noBinLot = some n ∧
      ((true = true ∧ s.lookup 1 0 = .lot n) ↔ n = 7041) ∧ (s.stream 2).reasons ≠ HoldSet.none ∧
      { (s.stream 2).reasons with silent := false, noBin := false } = HoldSet.none) ∧
    (let s := heldFor { HoldSet.none with operator := true, silent := true } none true;
      { (s.stream 2).reasons with silent := false } ≠ HoldSet.none) ∧
    (feeding.stream 2).activeRoute = some 9 ∧ feeding.routeAt 9 = some ⟨2, 13, [⟨5, none⟩, ⟨19, some 2⟩, ⟨40, some 1⟩]⟩ ∧
    (feeding.stream 2).config.unloader = some 13 := by decide +kernel

/-- The least and the greatest calibration, and a sample of Δt = 1 and of Δt = 65,535. -/
theorem witness_TallyQuantitiesInRange :
    (let k : Calibration := ⟨1, 0, -2000, 1, 0⟩;
      1 ≤ k.span ∧ k.span ≤ 1000000 ∧ k.zero ≤ 65535 ∧ -2000 ≤ k.trim ∧ k.trim ≤ 2000) ∧
    (let k : Calibration := ⟨1000000, 65535, 2000, 16000000, 16000000⟩;
      1 ≤ k.span ∧ k.span ≤ 1000000 ∧ k.zero ≤ 65535 ∧ -2000 ≤ k.trim ∧ k.trim ≤ 2000) ∧
    (102399999999999 : Nat) < 102400000000000 ∧ (measure ⟨0, 65535, 0, 0⟩ ⟨1, 0, 0, 0, 0, 0⟩).time = 1 ∧
    (measure ⟨0, 1, 0, 0⟩ ⟨1, 0, 0, 0, 0, 0⟩).time = 65535 := by decide +kernel

/-- The greatest residue, and sums at 64 bits' greatest. -/
theorem witness_DivisionLosesNothing :
    (102399999999999 : Nat) < 102400000000000 ∧ 1 ≤ worked.span ∧ worked.span ≤ 1000000 ∧ -2000 ≤ worked.trim ∧
    worked.trim ≤ 2000 ∧ (18446744073709551615 : Nat) ≤ 18446744073709551615 := by decide

/-- A rate of 800,001 counts a second is gross for the ceiling of 200,000, and one of 800,000 is not; FEEDING, IDLE, and
with a suspect record already there. -/
theorem witness_TallyOfSample :
    (feeding.tallyOf 2).cal = some worked ∧ (idle2.tallyOf 2).cal = some worked ∧
    4 * worked.ceiling < (⟨1, 800001, 1000, rateOf 800001 1000⟩ : Measured).rate ∧
    (⟨1, 800000, 1000, rateOf 800000 1000⟩ : Measured).rate ≤ 4 * worked.ceiling ∧
    (feeding.stream 2).suspect = none ∧ (feeding.stream 2).state = .feeding ∧
    (idle2.stream 2).suspect = none ∧ ¬((idle2.stream 2).state = .feeding ∨ (idle2.stream 2).state = .draining) ∧
    ((feeding.putStream 2 { feeder with suspect := some ⟨1, 1, 1, 1, none, none⟩ }).stream 2).suspect =
      some ⟨1, 1, 1, 1, none, none⟩ ∧
    (feeding.stream 2).last = some ⟨41, 10000, 16760000, 0⟩ := by decide +kernel

/-- Room for exactly the grams there are. -/
theorem witness_BookingConservesGrams :
    HasRoomFor (maxGrams - 1821059990) feeding ∧
    ∀ k l, feeding.lotAt k = some l → (l.bins.map (·.bin)).Nodup :=
  ⟨{ lots := (by decide +kernel : ∀ k, ∀ l ∈ feeding.lotAt k,
       l.certified + (maxGrams - 1821059990) ≤ maxGrams ∧ l.uncertified + (maxGrams - 1821059990) ≤ maxGrams)
     delivered := (by decide +kernel : ∀ k, ∀ l ∈ feeding.lotAt k, ∀ d ∈ l.bins,
       d.grams + (maxGrams - 1821059990) ≤ maxGrams)
     bins := by decide +kernel, streams := by decide +kernel },
   (by decide +kernel : ∀ k, ∀ l ∈ feeding.lotAt k, (l.bins.map (·.bin)).Nodup)⟩

/-- Booking in FEEDING, DRAINING and outside them; lot 7041 DISCHARGING and CLOSING, OPEN, absent, and without the route's
bin; UNROUTED at 50,000 and 50,001 g; the overrun limit of 1,821,060,000 g reached and passed. -/
theorem witness_BookingConservesGrams_table :
    ((idle2.stream 2).state = .idle ∧ (feeding.stream 2).state = .feeding ∧ (draining2.stream 2).state = .draining ∧
    (feeding.stream 2).currentLot = some 7041 ∧ (feeding.stream 2).activeRoute = some 9 ∧
    (feeding.routeAt 9).map (·.bin) = some 13 ∧
    (∀ st ∈ [LotState.discharging, .closing], ∃ l ∈ (feeding.putLot 0 (some { lot7041 with state := st })).lotAt 0,
      l.number = 7041 ∧ l.state = st ∧ ∃ d ∈ l.bins, d.bin = 13) ∧
    (∀ s ∈ [feeding.putLot 0 (some { lot7041 with state := .opened }), feeding.putLot 0 none,
        feeding.putLot 0 (some { lot7041 with bins := [⟨14, 0⟩] })],
      ∀ k, ∀ l ∈ s.lotAt k, ¬(l.number = 7041 ∧ (l.state = .discharging ∨ l.state = .closing) ∧ ∃ d ∈ l.bins, d.bin = 13)) ∧
    ((feeding.stream 2).unroutedReported = false ∧ (feeding.stream 2).config.unrouted * 1000 < min 18446744073709551615
      ((feeding.stream 2).sinceRead + 50001) ∧ ¬(feeding.stream 2).config.unrouted * 1000 < min 18446744073709551615
      ((feeding.stream 2).sinceRead + 50000)) ∧
    (lot7041.declared = some 1812000 ∧ 1812000 * (1000 + lot7041.tolerance) = 1821060000 ∧
      lot7041.certified + lot7041.uncertified + 10 = 1821060000 ∧ lot7041.overrunReported = false ∧
      feeding.lotAt 0 = some lot7041)) ∧
    LotLaw feeding := ⟨by decide +kernel, feeding_lotLaw⟩

/-- `feeding` with a suspect record on stream 2, of lot 7041 and bin 13, or of neither. -/
def suspected (lot : Option Nat) (bin : Option BinIdx) : State :=
  feeding.putStream 2 { feeder with
    state := .draining, permit := none, reasons := { HoldSet.none with meter := true }
    suspect := some ⟨60000, 9, 9, 1000, lot, bin⟩ }

/-- No record; a record whose lot takes the grams, one without a lot, and one on a stream without calibration. -/
theorem witness_SuspectRecordsResolved :
    feeding.mgmt.restartLeft = none ∧ (feeding.stream 2).suspect = none ∧
    ((suspected (some 7041) (some 13)).stream 2).suspect = some ⟨60000, 9, 9, 1000, some 7041, some 13⟩ ∧
    ((suspected (some 7041) (some 13)).tallyOf 2).cal = some worked ∧ -100000 ≤ worked.trim ∧
    bookingLot (suspected (some 7041) (some 13)) 7041 13 = some 0 ∧
    bookingLot (suspected (some 7041) (some 14)) 7041 14 = some 0 ∧
    bookingLot (suspected (some 7041) (some 15)) 7041 15 = none ∧
    ((suspected none none).stream 2).suspect = some ⟨60000, 9, 9, 1000, none, none⟩ ∧
    (((suspected none none).putTally 2 Tally.reset).tallyOf 2).cal = none := by decide +kernel

/-! ### Calibration and zero capture -/

/-- One millisecond short of the window, and the window; each cause of a sample at its boundary. -/
theorem witness_CaptureTakesSamplesAndEnds :
    capturing.tally.capture = some ⟨2, 60000, 478, 59750⟩ ∧ 59750 + (⟨1, 2, 249, 8⟩ : Measured).time < 60000 ∧
    60000 ≤ 59750 + (⟨1, 2, 250, 8⟩ : Measured).time ∧ (capturing.tallyOf 2).cal = some worked ∧
    ((1 : Byte).getLsbD 0 = true ∧ (0 : Byte).getLsbD 0 = false ∧ (0 : Byte).getLsbD 1 = false ∧
      (2 : Byte).getLsbD 0 = false ∧ (2 : Byte).getLsbD 1 = true) ∧
    (capturing.stream 2).config.gapLimit < (⟨1, 2, 1001, 1⟩ : Measured).time ∧
    (⟨1, 2, 1000, 2⟩ : Measured).time ≤ (capturing.stream 2).config.gapLimit ∧
    4 * worked.ceiling < (⟨1, 800001, 1000, rateOf 800001 1000⟩ : Measured).rate ∧
    (⟨1, 800000, 1000, rateOf 800000 1000⟩ : Measured).rate ≤ 4 * worked.ceiling := by decide +kernel

theorem witness_CalenEdges :
    State.reset.mgmt.calen = false ∧
    ((ran .calenRise State.reset).mgmt.calen = true ∧ (ran .calenRise State.reset).mgmt.unlock = none) ∧
    (unlocked.mgmt.calen = true ∧ ∃ u ∈ unlocked.mgmt.unlock, u.held = false) ∧
    (capturing.mgmt.calen = true ∧ (∃ u ∈ capturing.mgmt.unlock, u.held = true) ∧
      capturing.tally.capture = some ⟨2, 60000, 478, 59750⟩) := by decide +kernel

theorem witness_UnlockAndCaptureCommands :
    idle2.mgmt.restartLeft = none ∧ unlocked.mgmt.restartLeft = none ∧ capturing.mgmt.restartLeft = none ∧
    idle2.mgmt.calen = false ∧
    (let s := feeding.putMgmt (Management.reset true);
      s.mgmt.calen = true ∧ (s.stream 2).state ≠ .idle ∧ s.mgmt.restartLeft = none) ∧
    (unlocked.mgmt.calen = true ∧ (unlocked.stream 2).state = .idle ∧ 310 ≠ (unlocked.tallyOf 2).serial ∧
      311 = (unlocked.tallyOf 2).serial ∧ ∀ u ∈ unlocked.mgmt.unlock, u.held = false) ∧
    (capturing.mgmt.calen = true ∧ (capturing.stream 2).state = .idle ∧ 311 = (capturing.tallyOf 2).serial ∧
      (∃ u ∈ capturing.mgmt.unlock, u.held = true) ∧ ∃ z ∈ capturing.tally.capture, z.stream = 2) ∧
    ((unlocked.stream 7).state = .idle ∧ ¬(∃ z ∈ unlocked.tally.capture, z.stream = 7) ∧
      ¬(∃ u ∈ unlocked.mgmt.unlock, u.stream = 7)) ∧
    (¬(∃ z ∈ unlocked.tally.capture, z.stream = 2) ∧ (∃ u ∈ unlocked.mgmt.unlock, u.stream = 2) ∧
      (unlocked.stream 2).last ≠ none ∧ (unlocked.tallyOf 2).cal ≠ none) ∧
    (let s := unlocked.putTally 2 Tally.reset;
      ¬(∃ z ∈ s.tally.capture, z.stream = 2) ∧ (∃ u ∈ s.mgmt.unlock, u.stream = 2) ∧ (s.tallyOf 2).cal = none) ∧
    State.reset.mgmt.unlock = none := by decide +kernel

/-- The clauses of R75's tests, with an entry absent, lacking a field, and whole. -/
theorem witness_CalibrationWriteTaken :
    (idle2.mgmt.restartLeft = none ∧ idle2.mgmt.calen = false) ∧
    (unlocked.mgmt.restartLeft = none ∧ unlocked.mgmt.calen = true ∧ ¬(∃ u ∈ unlocked.mgmt.unlock, u.stream = 7)) ∧
    (capturing.mgmt.calen = true ∧ (∃ u ∈ capturing.mgmt.unlock, u.stream = 2) ∧
      ∃ z ∈ capturing.tally.capture, z.stream = 2) ∧
    ((∃ u ∈ unlocked.mgmt.unlock, u.stream = 2) ∧ ¬(∃ z ∈ unlocked.tally.capture, z.stream = 2)) ∧
    (∀ r ∈ [(⟨none, some 0, some 0, some 1, some 0⟩ : CalibrationWrite), ⟨some 1, none, some 0, some 1, some 0⟩,
      ⟨some 1, some 0, none, some 1, some 0⟩, ⟨some 1, some 0, some 0, none, some 0⟩,
      ⟨some 1, some 0, some 0, some 1, none⟩],
      r.span = none ∨ r.zero = none ∨ r.trim = none ∨ r.ceiling = none ∨ r.jump = none) := by decide +kernel

/-! ### Requests -/

/-- Start 7 of 8 and 95 of 96; count 1 and 8; 24 frames waiting leave no room, 23 room for one part. -/
theorem witness_ReadsAnswered :
    readRow? (.readStreamConfig q (some ⟨7, 8⟩)) = some (q, ⟨7, 8⟩, 0, 8) ∧
    readRow? (.readRoute q (some ⟨95, 1⟩)) = some (q, ⟨95, 1⟩, 6, 96) ∧
    readRow? (.readCounters q (some ⟨9, 1⟩)) = some (q, ⟨9, 1⟩, 12, 9) ∧ (9 : Nat) ≤ 9 ∧ feeding.mgmt.restartLeft = none ∧
    24 - (waiting 24 feeding).loop.own.length < ((readReply 6 96 ⟨95, 1⟩ feeding).length + 43) / 44 ∧
    ((readReply 6 96 ⟨95, 1⟩ (waiting 23 feeding)).length + 43) / 44 ≤ 24 - (waiting 23 feeding).loop.own.length := by
  decide +kernel

/-- The entries of the thirteen tables: an unlock and a capture of the stream and of another, an active route that is in
the table and one that is not, a current bin on the list and past it, a route requested, active and staged, by the first
that has it and by none. -/
theorem witness_ReadsAnswered_entries :
    ((∃ u ∈ capturing.mgmt.unlock, u.stream = 2 ∧ u.stream ≠ 3) ∧
      ∃ z ∈ capturing.tally.capture, z.stream = 2 ∧ z.stream ≠ 3) ∧
    (feeding.mgmt.unlock = none ∧ feeding.tally.capture = none) ∧
    ((feeding.stream 2).activeRoute = some 9 ∧ feeding.routeAt 9 ≠ none ∧ (feeding.putRoute 9 none).routeAt 9 = none ∧
      (feeding.stream 0).activeRoute = none) ∧
    (feeding.lotAt 0 = some lot7041 ∧ lot7041.current = some 0 ∧ lot7041.bins[0]? = some ⟨13, 1821059990⟩ ∧
      ({ lot7041 with current := some 2 } : Lot).bins[2]? = none ∧ feeding.lotAt 31 = none) ∧
    (waiting2.alloc.queue = [] ++ (⟨2, 7041, 13, some 9, false⟩ : Request) :: [] ∧ feeding.alloc.queue = []) ∧
    ((∀ j < (2 : StreamIdx), (feeding.stream j).activeRoute ≠ some 9) ∧ ∀ i, (feeding.stream i).activeRoute ≠ some 95) ∧
    (let s := feeding.putStaging 2 (some ⟨14, some 10, IdxSet.empty 64⟩);
      s.stagingOf 2 = some ⟨14, some 10, IdxSet.empty 64⟩ ∧ (∀ j < (2 : StreamIdx), s.stagingOf j = none) ∧
      ∀ i, ∀ x ∈ s.stagingOf i, x.route ≠ some 9) := by decide +kernel

theorem witness_RequestsRefusedBeforeTheirOwner :
    restartingNow.mgmt.restartLeft ≠ none ∧ feeding.mgmt.restartLeft = none ∧
    requester? (.restart q (some ())) = some q ∧ requester? (.openLot q none) = some q ∧
    malformed (.openLot q none) = true := by decide +kernel

/-- Codes and lengths at the ends of their ranges, and arguments of no form of theirs. -/
theorem witness_RequestsRefusedBeforeTheirOwner_bytes :
    (18 < (19 : Byte).toNat ∧ ¬18 < (18 : Byte).toNat ∧ 12 < (13 : Byte).toNat ∧ ¬12 < (12 : Byte).toNat) ∧
    (∀ l ∈ [([] : List Byte), [1], [1, 2, 3, 4]], l.length ≠ 2 ∧ l.length ≠ 3) ∧ ([1, 2] : List Byte).length ≠ 1 ∧
    (∀ a : Byte, ([1, 2] : List Byte) ≠ [a, 0] ∧ ([1, 2] : List Byte) ≠ [a, 1]) ∧
    (∀ i : Byte, ([1, 2] : List Byte) ≠ [i, 0]) ∧ (1 < (2 : Byte).toNat ∧ ¬1 < (1 : Byte).toNat) ∧
    ([(8 : Byte), 0, 1].all fun t => t ≠ 9) = true ∧ ([7] : List Byte) ≠ [] := by decide +kernel

/-- A HOLD-MAP record spelled by 10 bytes, and bytes with one left over that spell none. -/
theorem witness_RequestsRefusedBeforeTheirOwner_records :
    let number (k : Nat) (o : Option Nat) := optBytes (bytesOf k) o
    let spells (r : HoldWrite) (bytes : List Byte) := bytes = number 1 r.hold ++ number 1 r.layer ++ number 2 r.lot
    spells ⟨some 5, some 0, some 7041⟩ [1, 5, 1, 0, 1, 27, 129] ∧ spells ⟨none, none, none⟩ [0, 0, 0] ∧
    ∀ r, ¬spells r [2] := by
  refine ⟨by decide +kernel, by decide +kernel, ?_⟩
  rintro ⟨h, l, n⟩ e
  cases h <;> simp [optBytes] at e

/-- The buffer with 3 and with 4 frames waiting, and the unit free. -/
theorem witness_ManageFramesTaken :
    let s (n : Nat) := State.reset.putMgmt { State.reset.mgmt with
      inHand := some ⟨60, 1, 18, []⟩, input := List.replicate n ⟨60, 2, 18, []⟩ }
    State.reset.loop.address = 0 ∧ (s 3).loop.address ≠ 60 ∧ (s 3).mgmt.input.length < 4 ∧ (s 3).mgmt.inHand ≠ none ∧
    4 ≤ (s 4).mgmt.input.length ∧ State.reset.mgmt.input = [] ∧ State.reset.mgmt.inHand = none := by decide +kernel

/-- An empty queue with a report left over; with a frame in hand; with a frame sent whole, which comes before a permit timer
run out; with that timer alone; and with nothing due in the 99th and the hundredth character time. -/
theorem witness_ManageFramesTaken_idle :
    let sentWhole (s : State) := s.loop.tx ≠ none ∧ s.loop.txLeft = 0
    let s := feeding.putStream 2 { feeder with permit := some 0 }
    let s' := s.putLoop { s.loop with tx := some ⟨1, 2, 9, []⟩, txLeft := 0 }
    feeding.pending = [] ∧ (feeding.emit .pass).agenda ≠ [] ∧ feeding.agenda = [] ∧ feeding.mgmt.inHand = none ∧
    (ran (.manage 60 501 1 [6, 94, 4]) State.reset).mgmt.inHand ≠ none ∧
    (nextDue s' = some .transmitEnd ∧ sentWhole s' ∧ (s'.stream 2).permit = some 0) ∧
    (nextDue s = some (.permitTimerExpiry 2) ∧ ¬sentWhole s ∧ s.mgmt.restartLeft = none ∧ s.mgmt.unlock = none) ∧
    (nextDue State.reset = none ∧ ({ State.reset with charTime := 98 } : State).charTime < 99 ∧
      99 ≤ ({ State.reset with charTime := 99 } : State).charTime) := by decide +kernel

/-- 00, Times: the hundredth character time is a millisecond of an armed timer. -/
theorem test_hundredth_character_time :
    (match step { feeding with charTime := 99 } with | .next t => (t.stream 2).permit | _ => none) = some 499 := by
  decide +kernel

/-! ### Table writes -/

/-- Stream 4 IDLE and unused, stream 2 used by meter 12 and intake 5 and named by route 9; a capture of stream 2. -/
theorem witness_StreamConfigWriteTaken :
    let inUse (s : State) (k : StreamConfig) :=
      ((s.stream 2).config.intake ≠ k.intake ∧ ∃ r, ∃ y ∈ s.routeAt r, y.stream = 2) ∨
      ((s.stream 2).config.meter ≠ k.meter ∧ ∃ z ∈ s.tally.capture, z.stream = 2)
    feeding.mgmt.restartLeft = none ∧ (feeding.stream 2).state ≠ .idle ∧ (feeding.stream 4).state = .idle ∧
    inUse ((tables .free).putStream 2 (idle2.stream 2)) { used with intake := none } ∧
    inUse capturing { used with meter := some 40 } ∧ (capturing.stream 2).state = .idle ∧
    capturing.mgmt.restartLeft = none ∧
    ¬inUse idle2 ⟨none, none, none, 1000, 1500, 50⟩ ∧ (idle2.stream 2).state = .idle ∧ ¬inUse idle2 used ∧
    (idle2.stream 2).config.meter = used.meter ∧ (idle2.stream 2).config.meter ≠ some 40 ∧
    (4 : StreamIdx) ≠ 2 ∧ (idle2.stream 2).config.meter = some 12 ∧ (idle2.stream 2).config.intake = some 5 ∧
    (∀ j, j ≠ 2 → (idle2.stream j).config.meter = none) := by decide +kernel

/-- Another index has hold 1, layer 0; no other index has it from index 0's place, and none has hold 31, layer 3. -/
theorem witness_HoldMapWriteTaken :
    feeding.mgmt.restartLeft = none ∧ (47 : HoldIdx).val = 47 ∧
    (∃ j, ∃ e ∈ feeding.lot.holdMap.get j, j ≠ 47 ∧ e.hold = 1 ∧ e.layer = 0) ∧
    (∀ j, ∀ e ∈ feeding.lot.holdMap.get j, j ≠ 0 → ¬(e.hold = 1 ∧ e.layer = 0)) ∧
    (∀ j, ∀ e ∈ feeding.lot.holdMap.get j, j ≠ 47 → ¬(e.hold = 31 ∧ e.layer = 3)) ∧
    (31 : Nat) ≤ 31 ∧ (3 : Nat) ≤ 3 ∧ (1 : Nat) ≤ 65535 := by decide +kernel

/-- Each ill-formed HOLD-MAP record: a field missing, hold 32, layer 4, lot 0. -/
theorem witness_HoldMapWriteTaken_bad :
    ∀ r ∈ [(⟨none, some 0, some 1⟩ : HoldWrite), ⟨some 32, some 0, some 1⟩, ⟨some 0, some 4, some 1⟩,
      ⟨some 0, some 0, some 0⟩],
      ¬(∃ h l n, r = ⟨some h, some l, some n⟩ ∧ h ≤ 31 ∧ l ≤ 3 ∧ 1 ≤ n ∧ n ≤ 65535) := by
  simp

/-- `feeding` with lot 7041 in a state. -/
def lotIn (st : LotState) : State := feeding.putLot 0 (some { lot7041 with state := st })

/-- A record of 1 bin and one of 8; numbers held, named by a segment, and free; each state of the entry; the same
declaration and another. -/
theorem witness_LotWriteTaken :
    let held (s : State) (i : LotIdx) (n : Nat) :=
      (∃ j, ∃ l ∈ s.lotAt j, j ≠ i ∧ l.number = n) ∨ (∃ r ∈ s.lot.outturn, r.number = n)
    let named (s : State) (n : Nat) := (∃ g, (s.seg g).state ≠ .free ∧ (s.seg g).owner = some n) ∨
      (∃ j, ∃ r ∈ (s.stream j).suspect, r.lot = some n)
    feeding.mgmt.restartLeft = none ∧ feeding.lotAt 31 = none ∧ feeding.lotAt 0 = some lot7041 ∧
    held feeding 31 7041 ∧ ¬held (feeding.putLot 0 none) 31 7041 ∧ named (feeding.putLot 0 none) 7041 ∧
    ¬held feeding 31 65535 ∧ ¬named feeding 65535 ∧
    (lotIn .planned).lotAt 0 = some { lot7041 with state := .planned } ∧
    (lotIn .opened).lotAt 0 = some { lot7041 with state := .opened } ∧
    (lotIn .closing).lotAt 0 = some { lot7041 with state := .closing } ∧
    held (feeding.putLot 31 (some { lot7041 with number := 9 })) 0 9 ∧
    lot7041.bins.map (·.bin) <+: [13, 14, 15] ∧ ¬lot7041.bins.map (·.bin) <+: [14, 13] ∧
    lot7041.declared = (some 1812000).map (fun m => max 1 (min 4000000000 m)) ∧
    lot7041.tolerance = ((none : Option Nat).map fun m => min 100 m).getD 5 ∧
    ([0, 1, 2, 3, 4, 5, 6, 39] : List BinIdx).Nodup ∧ ([0, 1, 2, 3, 4, 5, 6, 39] : List BinIdx).length ≤ 8 := by
  decide +kernel

theorem witness_LotWriteTaken_bad :
    ∀ w ∈ [(⟨some 0, some 3, none, none, some [13]⟩ : LotWrite), ⟨some 1, some 16, none, none, some [13]⟩,
      ⟨some 1, some 3, none, none, none⟩, ⟨some 1, some 3, none, none, some [40]⟩],
      ¬∃ n k, ∃ bins : List BinIdx, w.number = some n ∧ n ≠ 0 ∧ w.cls = some k ∧ k ≤ 15 ∧
        w.bins = some (bins.map (·.val)) ∧ 1 ≤ bins.length ∧ bins.length ≤ 8 ∧ bins.Nodup := by
  rintro w hw ⟨n, k, bins, h1, h2, h3, h4, h5, h6, -, -⟩
  fin_cases hw
  · simp only [Option.some.injEq] at h1; exact h2 h1.symm
  · simp only [Option.some.injEq] at h3; omega
  · cases h5
  · simp only [Option.some.injEq] at h5
    have : (40 : Nat) ∈ bins.map (·.val) := h5 ▸ List.mem_singleton_self 40
    obtain ⟨b, -, hb⟩ := List.mem_map.mp this
    have := b.isLt
    omega

/-- Route 9 as the table holds it. -/
def route9 : Route := ⟨2, 13, [⟨5, none⟩, ⟨19, some 2⟩, ⟨40, some 1⟩]⟩

/-- The steps a write of route 9 names. -/
def steps9 : List StepWrite := [⟨some 5, none⟩, ⟨some 19, some 2⟩, ⟨some 40, some 1⟩]

/-- A route an active stream refers to; the same record at index 95, a duplicate while route 9 stands and none when it is
gone; the positions its kinds take. -/
theorem witness_RouteWriteTaken :
    let referenced (s : State) (k : RouteIdx) := (∃ r ∈ s.alloc.queue, r.route = some k) ∨
      (∃ i, (s.stream i).activeRoute = some k) ∨ (∃ i, ∃ x ∈ s.stagingOf i, x.route = some k)
    feeding.mgmt.restartLeft = none ∧ referenced feeding 9 ∧ ¬referenced feeding 95 ∧
    (∃ j, ∃ y ∈ feeding.routeAt j, j ≠ 95 ∧ y.stream = route9.stream ∧ y.bin = route9.bin) ∧
    ¬(∃ j, ∃ y ∈ (feeding.putRoute 9 none).routeAt j, j ≠ 95 ∧ y.stream = route9.stream ∧ y.bin = route9.bin) ∧
    ¬referenced (feeding.putRoute 9 none) 95 ∧
    2 ≤ route9.steps.length ∧ route9.steps.length ≤ 10 ∧
    steps9.map (·.segment) = route9.steps.map (fun st => some st.segment.val) ∧ (route9.steps.map (·.segment)).Nodup ∧
    (feeding.stream 2).config.intake = some 5 ∧ route9.steps.head?.map (·.segment) = some 5 ∧
    route9.steps.getLast? = some ⟨40, some 1⟩ ∧ (feeding.seg 40).segKind = some (.gate 34 13) ∧
    (feeding.seg 5).segKind = some .conveyor ∧ (feeding.seg 19).segKind = some (.diverter 33 true) := by decide +kernel

/-- A record that names no stream is no sound one. -/
theorem witness_RouteWriteTaken_bad :
    ¬∃ (r : Route) (l : List StepWrite), (none : Option Nat) = some r.stream.val ∧ some 13 = some r.bin.val ∧
      some steps9 = some l := by
  rintro ⟨r, l, h, -⟩
  cases h

/-- Segments FREE and not, on a route and not; actuator stations and bins already taken; records bad by a station of 63 and
a bin of 40. -/
theorem witness_SegmentConfigWriteTaken :
    let onRoute (s : State) (g : SegIdx) := ∃ r, ∃ y ∈ s.routeAt r, ∃ st ∈ y.steps, st.segment = g
    let free := tables .free
    feeding.mgmt.restartLeft = none ∧ free.mgmt.restartLeft = none ∧ (feeding.seg 5).state ≠ .free ∧
    ((free.seg 19).state = .free ∧ onRoute free 19) ∧ ((free.seg 63).state = .free ∧ ¬onRoute free 63) ∧
    (¬(63 : Nat) ≤ 62 ∧ ¬(40 : Nat) ≤ 39) ∧
    ((free.seg 19).actuator = some 33 ∧ (free.seg 40).gateBin = some 13) ∧
    (∀ j, (free.seg j).actuator ≠ some 62) ∧ (∀ j, (free.seg j).gateBin ≠ some 39) ∧
    ((free.seg 19).segKind.map SegKind.name = some .diverter ∧ (free.seg 19).gateBin = none) := by decide +kernel

/-- A bin whose gate is held, one without a gate; a gauge station taken by another bin, its own and a new one, in service
and out of it. -/
theorem witness_BinConfigWriteTaken :
    let gateHeld (s : State) (b : BinIdx) := ∃ g ∈ (s.bin b).inletGate, (s.seg g).state ≠ .free
    feeding.mgmt.restartLeft = none ∧ gateHeld feeding 13 ∧ ¬gateHeld feeding 39 ∧
    (∃ j, j ≠ 14 ∧ ∃ k ∈ (feeding.bin j).config, k.gauge = some 45) ∧
    ¬(∃ j, j ≠ 13 ∧ ∃ k ∈ (feeding.bin j).config, k.gauge = some 45) ∧
    (feeding.bin 13).config.bind (·.gauge) = some 45 ∧
    (feeding.bin 13).state ≠ .outOfService ∧ (feeding.bin 39).state = .outOfService ∧
    (feeding.bin 39).config.bind (·.gauge) ≠ some 62 := by decide +kernel

/-! ### Lots and streams -/

/-- Bin 13, class 3, is usable for lot 7041 and bin 14 is; of State.reset's bins none is. -/
theorem witness_CurrentBinSearch :
    lot7041.bins.length = 2 ∧ lot7041.current = some 0 ∧ firstUsable feeding lot7041 = some 0 ∧
    nextUsable feeding lot7041 0 = some 1 ∧ nextUsable feeding lot7041 1 = some 0 ∧ lot7041.nextBin feeding = some 14 ∧
    firstUsable State.reset lot7041 = none ∧ nextUsable State.reset lot7041 1 = none := by decide +kernel

/-- A report of bin 13, FULL, as lot 7041's current bin, which is the lowest concerned from index 0 on and not from 1; of
bin 14 with no current bin; of bin 39, which no lot has. -/
theorem witness_CurrentBinSearch_reports :
    let full := feeding.putBin 13 (binIn .full)
    let absent := feeding.putLot 0 (some { lot7041 with current := none })
    let usable (s : State) (b : BinIdx) := (s.bin b).config ≠ none ∧
      ((s.bin b).state = .available ∨ (s.bin b).state = .filling) ∧
      ((s.bin b).cls = none ∨ (s.bin b).cls = some lot7041.cls)
    (full.lotAt 0 = some lot7041 ∧ lot7041.state = .discharging ∧ lot7041.current = some 0 ∧
      (∃ d ∈ lot7041.bins[0]?, d.bin = 13) ∧ ¬usable full 13 ∧ usable feeding 13) ∧
    (∀ j, j ≠ 0 → full.lotAt j = none) ∧
    (absent.lotAt 0 = some { lot7041 with current := none } ∧ (∃ d ∈ lot7041.bins, d.bin = 14) ∧ usable absent 14) ∧
    ¬∃ d ∈ lot7041.bins, d.bin = 39 := by decide +kernel

/-- `feeding` with lot 7041 PLANNED and without streams. -/
def planned7041 : State :=
  idle2.putLot 0 (some { lot7041 with state := .planned, current := none, attached := IdxSet.empty 8 })

theorem planned7041_lotLaw : LotLaw planned7041 := lotLaw_of (by decide +kernel) (by decide +kernel) (by decide +kernel)

theorem witness_OpenLotTaken :
    (feeding.mgmt.restartLeft = none ∧ planned7041.mgmt.restartLeft = none ∧
    (∀ i, ∀ l ∈ feeding.lotAt i, l.number ≠ 65535) ∧ feeding.lotAt 0 = some lot7041 ∧ lot7041.state ≠ .planned ∧
    (∃ l ∈ planned7041.lotAt 0, l.number = 7041 ∧ l.state = .planned ∧ l.current = none ∧
      firstUsable planned7041 l = none) ∧
    (∃ l ∈ (planned7041.putBin 14 (binIn .available)).lotAt 0, l.number = 7041 ∧ l.state = .planned ∧ l.current = none ∧
      firstUsable (planned7041.putBin 14 (binIn .available)) l = some 1)) ∧
    LotLaw feeding ∧ LotLaw planned7041 ∧ LotLaw (planned7041.putBin 14 (binIn .available)) :=
  ⟨by decide +kernel, feeding_lotLaw, planned7041_lotLaw,
   lotLaw_of (by decide +kernel) (by decide +kernel) (by decide +kernel)⟩

/-- The out-turn list with 15 and with 16 records. -/
def outturnOf (n : Nat) : List Outturn :=
  (List.range n).map fun k => ⟨k + 1, 1, none, 0, 0, IdxSet.empty 8, [], .requested⟩

theorem witness_CloseLotTaken :
    ((∀ i, ∀ l ∈ feeding.lotAt i, l.number ≠ 65535) ∧ feeding.mgmt.restartLeft = none ∧
    feeding.lotAt 0 = some lot7041 ∧ lot7041.state ≠ .closing ∧
    (∃ l ∈ (lotIn .closing).lotAt 0, l.state = .closing) ∧
    (∃ l ∈ planned7041.lotAt 0, l.state ≠ .closing ∧ l.attached.isEmpty = true ∧
      (∀ r ∈ planned7041.alloc.queue, r.lot ≠ 7041) ∧
      (∀ j, (planned7041.stream j).currentLot ≠ some 7041 ∧ (planned7041.stream j).noBinLot ≠ some 7041)) ∧
    (planned7041.putOutturn (outturnOf 15)).lot.outturn.length < 16 ∧
    16 ≤ (planned7041.putOutturn (outturnOf 16)).lot.outturn.length ∧
    (feeding.stream 2).currentLot = some 7041 ∧ (feeding.stream 0).currentLot ≠ some 7041 ∧
    (feeding.stream 2).state = .feeding ∧ (feeding.stream 0).noBinLot ≠ some 7041 ∧
    ((feeding.putStream 2 { Stream.reset with noBinLot := some 7041 }).stream 2).noBinLot = some 7041) ∧
    LotLaw feeding ∧ LotLaw (lotIn .closing) ∧ LotLaw (planned7041.putOutturn (outturnOf 15)) ∧
    LotLaw (planned7041.putOutturn (outturnOf 16)) :=
  ⟨by decide +kernel, feeding_lotLaw, lotLaw_of (by decide +kernel) (by decide +kernel) (by decide +kernel),
   lotLaw_of (by decide +kernel) (by decide +kernel) (by decide +kernel),
   lotLaw_of (by decide +kernel) (by decide +kernel) (by decide +kernel)⟩

/-- A full list whose record 16 is released, with no lot and with lot 7041 CLOSING and waiting. -/
theorem witness_ReleaseOutturnTaken :
    let s := (lotIn .closing).putOutturn (outturnOf 16)
    let s' := s.putLot 0 (some { lot7041 with state := .closing, attached := IdxSet.empty 8 })
    let r : Outturn := ⟨16, 1, none, 0, 0, IdxSet.empty 8, [], .requested⟩
    s.mgmt.restartLeft = none ∧ (∀ x ∈ s.lot.outturn, x.number ≠ 17) ∧ s.lot.outturn = outturnOf 15 ++ r :: [] ∧
    r.number = 16 ∧ (∀ x ∈ outturnOf 15 ++ [], x.number ≠ 16) ∧
    (∀ k, ∀ l ∈ s.lotAt k, ¬(l.state = .closing ∧ l.attached.isEmpty = true)) ∧
    s'.lot.outturn = outturnOf 15 ++ r :: [] ∧ (outturnOf 15 ++ []).length < 16 ∧
    (∃ l ∈ s'.lotAt 0, l.state = .closing ∧ l.attached.isEmpty = true) := by decide +kernel

theorem witness_HoldAndReleaseStream :
    let held := State.reset.putStream 7 { Stream.reset with
      state := .held, reasons := { HoldSet.none with operator := true }, fromIdle := true }
    State.reset.mgmt.restartLeft = none ∧ (held.stream 7).reasons.operator = true ∧
    (State.reset.stream 7).reasons.operator = false ∧ (State.reset.stream 7).config.meter = none ∧
    (State.reset.stream 7).state = .idle ∧ (State.reset.stream 7).reasons = HoldSet.none ∧
    (State.reset.stream 7).currentLot = none ∧ (∀ u ∈ State.reset.mgmt.unlock, u.stream ≠ 7) ∧
    (held.stream 7).config.meter = none ∧ (held.stream 7).state = .held ∧ (held.stream 7).fromIdle = true ∧
    (held.stream 7).reasons = { HoldSet.none with operator := true } ∧ (held.stream 7).currentLot = none := by
  decide +kernel

theorem witness_AddedReasonActsByState :
    (unlocked.stream 2).state = .idle ∧ (∃ u ∈ unlocked.mgmt.unlock, u.stream = 2) ∧ (waiting2.stream 2).state = .waiting ∧
    (feeding.stream 2).state = .feeding ∧ (draining2.stream 2).state = .draining ∧
    ((ran (.holdStream q (some 2)) idle2).stream 2).state = .held := by decide +kernel

theorem witness_AddedReasonActsByState_kinds :
    (∀ r ∈ [HoldReason.operator, .silent, .meter, .noBin 7041, .segment 5], ((idle2.stream 2).withReason r).reasons ≠ HoldSet.none) ∧
    (waiting2.stream 2).currentLot = some 7041 ∧
    ((waiting2.putStream 2 { waiting2.stream 2 with currentLot := none }).stream 2).currentLot = none := by decide +kernel

/-- HELD for SILENT alone with the mark and without, and for SILENT and OPERATOR; DRAINING with METER; a segment that is the
last of its set and one that is not; a reason that is not in the set. -/
theorem witness_AddedReasonActsByState_removed :
    (∀ mark ∈ [true, false], let x := (heldFor { HoldSet.none with silent := true } none mark).stream 2;
      x.state = .held ∧ x.reasons ≠ HoldSet.none ∧ (x.withoutReason .silent).reasons = HoldSet.none ∧ x.fromIdle = mark) ∧
    (let x := (heldFor { HoldSet.none with silent := true, operator := true } none true).stream 2;
      (x.withoutReason .silent).reasons ≠ HoldSet.none) ∧
    (let x := (suspected none none).stream 2; x.state = .draining ∧ (x.withoutReason .meter).reasons = HoldSet.none) ∧
    (let S := (IdxSet.single (5 : SegIdx)).insert 19;
      (∃ h, S.has h = true ∧ h ≠ 5) ∧ ∀ h, (S.erase 19).has h = true → h = 5) ∧
    ((idle2.stream 2).reasons.operator = false ∧ (idle2.stream 2).faulted.has 5 = false) := by decide +kernel

theorem witness_AddedReasonActsByState_law : (idle2.stream 2).Law := idle2_streamLaw 2

/-- With a reason; wanting lot 7041 with its current bin and without one; wanting none. -/
theorem witness_ExitTestPlacesStream :
    let wants (s : State) (n : Nat) := (s.stream 2).demand = true ∧ (s.stream 2).lastLookup = some (.lot n) ∧
      (s.standing n = some (.inTable .opened) ∨ s.standing n = some (.inTable .discharging)) ∧ (s.tallyOf 2).cal ≠ none
    let binless := draining2.putLot 0 (some { lot7041 with current := none })
    ((suspected none none).stream 2).reasons ≠ HoldSet.none ∧
    ((draining2.stream 2).reasons = HoldSet.none ∧ wants draining2 7041 ∧ draining2.currentBinOf 7041 = some 13) ∧
    ((draining2.stream 2).currentLot = some 7041) ∧
    ((binless.stream 2).reasons = HoldSet.none ∧ wants binless 7041 ∧ binless.currentBinOf 7041 = none) ∧
    ((idle2.stream 2).reasons = HoldSet.none ∧ (idle2.stream 2).demand = false) := by decide +kernel

/-- The set of streams 2 and 3. -/
def both : IdxSet 8 := (IdxSet.single 2).insert 3

/-- `draining2` with a second lot 8 OPEN, wanted instead of 7041. -/
def wanting8 : State :=
  (draining2.putLot 1 (some { lot7041 with number := 8, state := .opened, attached := IdxSet.empty 8 })).putStream 2
    { draining2.stream 2 with lastLookup := some (.lot 8) }

/-- Staying with the lot, parting from it, and coming without one; attach and detach by each state of the lot, its last
stream and not, with 15 and 16 records on the list and OUTTURN-FULL reported and not. -/
theorem witness_ExitTestPlacesStream_lots :
    ((wanting8.stream 2).reasons = HoldSet.none ∧ (wanting8.stream 2).demand = true ∧
      (wanting8.stream 2).lastLookup = some (.lot 8) ∧ wanting8.standing 8 = some (.inTable .opened) ∧
      (wanting8.tallyOf 2).cal ≠ none ∧ wanting8.currentBinOf 8 = some 13 ∧ (wanting8.stream 2).currentLot ≠ some 8) ∧
    (∀ k, ∀ l ∈ feeding.lotAt k, l.number ≠ 65535) ∧
    (∀ st ∈ [LotState.planned, .opened, .discharging, .closing], ∃ l ∈ (lotIn st).lotAt 0, l.number = 7041 ∧
      l.state = st ∧ l.attached.has 3 = false ∧ l.attached.has 2 = true ∧ (l.attached.erase 2).isEmpty = true) ∧
    (both.has 2 = true ∧ (both.erase 2).isEmpty = false) ∧
    (∀ n ∈ [15, 16], ((lotIn .closing).putOutturn (outturnOf n)).lot.outturn.length = n) ∧
    lot7041.outturnFullReported = false := by decide +kernel

theorem witness_ExitTestPlacesStream_lotLaw :
    (∀ st, LotLaw (lotIn st)) ∧ ∀ n ∈ [15, 16], LotLaw ((lotIn .closing).putOutturn (outturnOf n)) := by
  constructor
  · intro st
    cases st <;> exact lotLaw_of (by decide +kernel) (by decide +kernel) (by decide +kernel)
  · intro n h
    simp only [List.mem_cons, List.not_mem_nil, or_false] at h
    rcases h with rfl | rfl <;> exact lotLaw_of (by decide +kernel) (by decide +kernel) (by decide +kernel)

theorem witness_StreamTimerExpiries :
    ((feeding.stream 2).silence = some 1500 ∧ (feeding.stream 2).state = .feeding) ∧
    ((waiting2.stream 2).silence = some 1500 ∧ (waiting2.stream 2).state = .waiting) ∧
    ((draining2.stream 2).silence = some 1500 ∧ (draining2.stream 2).state = .draining) ∧
    (idle2.stream 2).silence = none ∧ (idle2.stream 2).permit = none ∧ (idle2.stream 2).drain = none ∧
    ((feeding.stream 2).permit = some 500 ∧ (feeding.stream 2).config.unloader = some 13 ∧
      (feeding.stream 2).activeRoute = some 9 ∧ feeding.routeAt 9 = some route9 ∧
      (feeding.stream 2).currentLot = some 7041) ∧
    (draining2.stream 2).drain = some 6000 := by decide +kernel

/-! ### Segments and routes -/

/-- `tables` with one segment's record changed. -/
def withSeg (g : SegIdx) (x : Segment) : State := (tables .free).putSeg g x

theorem witness_SegmentTimersAndFaultClearing :
    (feeding.seg 5).travel = none ∧ (feeding.seg 5).flush = none ∧
    (∀ st ∈ [SegState.setting, .flushing, .closing],
      ((withSeg 19 { diverterIn st with travel := some 0 }).seg 19).travel ≠ none ∧
      ((withSeg 19 { diverterIn st with travel := some 0 }).seg 19).state = st) ∧
    (let s := withSeg 5 { conveyorIn .flushing with flush := some 0 };
      (s.seg 5).flush ≠ none ∧ (s.seg 5).state = .flushing ∧ (s.seg 5).gateBin = none) ∧
    (let s := withSeg 40 { gateIn .flushing with flush := some 0 };
      (s.seg 40).flush ≠ none ∧ (s.seg 40).state = .flushing ∧
      (s.seg 40).config = some ⟨.gate 34 13, 90, 12, 2⟩) ∧
    feeding.mgmt.restartLeft = none ∧ (feeding.seg 63).state ≠ .fault ∧
    (let s := withSeg 5 { conveyorIn .fault with owner := some 7041 };
      (s.seg 5).state = .fault ∧ (s.seg 5).config = some ⟨.conveyor, 60, 12, 2⟩ ∧ s.mgmt.restartLeft = none) ∧
    (let s := withSeg 5 { conveyorIn .fault with config := some ⟨.conveyor, 0, 12, 2⟩ };
      (s.seg 5).state = .fault ∧ (s.seg 5).config = some ⟨.conveyor, 0, 12, 2⟩) := by decide +kernel

/-- A fault of segment 5, the intake of stream 2, and of segment 19, with the stream FEEDING, DRAINING and IDLE; a granted
request whose route has it and not; a staging record that has it. -/
theorem witness_SegmentTimersAndFaultClearing_report :
    let on (s : State) (r : Option RouteIdx) (g : SegIdx) := ∃ k ∈ r, ∃ y ∈ s.routeAt k, ∃ st ∈ y.steps, st.segment = g
    (∀ s ∈ [feeding, draining2], ∀ g ∈ [5, 19], on s (s.stream 2).activeRoute g) ∧
    ¬on feeding (feeding.stream 2).activeRoute 63 ∧ (feeding.stream 2).state = .feeding ∧
    (draining2.stream 2).state = .draining ∧ (draining2.stream 2).config.intake = some 5 ∧ (idle2.stream 2).state = .idle ∧
    on feeding (⟨3, 7041, 13, some 9, true⟩ : Request).route 5 ∧ ¬on feeding (⟨3, 7041, 13, none, true⟩ : Request).route 5 ∧
    feeding.stagingOf 2 = none ∧
    (feeding.putStaging 2 (some ⟨14, some 10, IdxSet.single 5⟩)).stagingOf 2 = some ⟨14, some 10, IdxSet.single 5⟩ := by
  decide +kernel

/-- Segment 5 READY on the route of stream 2's request, and 63 on none; its flush ending while stream 2 alone drains on it,
and while no stream does. -/
theorem witness_SegmentTimersAndFaultClearing_others :
    let on (s : State) (r : Option RouteIdx) (g : SegIdx) := ∃ y ∈ r.bind s.routeAt, ∃ st ∈ y.steps, st.segment = g
    let drains (s : State) (i : StreamIdx) := (s.stream i).state = .draining ∧ (s.stream i).config.intake = some 5
    (∃ q ∈ waiting2.alloc.queue, on waiting2 q.route 5 ∧ ¬on waiting2 q.route 63) ∧
    (drains draining2 2 ∧ ∀ j, j ≠ 2 → ¬drains draining2 j) ∧ ∀ i, ¬drains feeding i := by decide +kernel

/-- A DIVERTER at station 33 commanded to 2, in each state, reported at 2 and at 3. -/
theorem witness_PositionReportsJudged :
    feeding.loop.address = 0 ∧ (∀ g, (feeding.seg g).actuator ≠ some 61) ∧
    (∀ st ∈ [SegState.free, .fault, .setting, .ready, .carrying, .flushing, .closing],
      ((withSeg 19 (diverterIn st)).seg 19).actuator = some 33 ∧
      (∀ j, ((withSeg 19 (diverterIn st)).seg j).actuator = some 33 → j = 19) ∧
      ((withSeg 19 (diverterIn st)).seg 19).state = st ∧
      ((withSeg 19 (diverterIn st)).seg 19).commanded = some 2 ∧
      ((withSeg 19 (diverterIn st)).seg 19).commanded ≠ some 3 ∧
      ((withSeg 19 (diverterIn st)).seg 19).travel = none ∧
      ((withSeg 19 (diverterIn st)).seg 19).underFlow = false) ∧
    ((withSeg 19 { diverterIn .setting with underFlow := true }).seg 19).underFlow = true ∧
    ((withSeg 19 { diverterIn .flushing with travel := some 1 }).seg 19).travel ≠ none := by decide +kernel

/-- A holder that feeds alone, with another feeder, with another holder; one that does not feed; READY, flushed and not,
alone and not; SETTING under flow and not; the intake of a DRAINING stream. -/
theorem witness_ReleaseActsByState :
    let x := { conveyorIn .carrying with owner := some 7041, kind := some .active }
    let rest (S : IdxSet 8) := (S.erase 2).isEmpty
    (feeding.seg 5).holders.has 3 = false ∧
    (({ x with holders := both, feeders := both }).holders.has 2 = true ∧ both.has 2 = true ∧ rest both = false) ∧
    ((IdxSet.single (2 : StreamIdx)).has 2 = true ∧ rest (IdxSet.single 2) = true) ∧
    (IdxSet.single (3 : StreamIdx)).has 2 = false ∧
    ((draining2.stream 2).config.intake = some 5 ∧ (draining2.stream 2).state = .draining ∧
      (draining2.seg 5).state = .carrying ∧ (draining2.seg 5).holders.has 2 = true) ∧
    ¬((feeding.stream 2).config.intake = some 19 ∧ (feeding.stream 2).state = .draining) ∧
    ((tables .ready).seg 5).unflushed = false ∧ ((tables .ready).seg 5).holders.has 2 = true ∧
    ((tables .setting).seg 19).underFlow = false ∧ ((tables .setting).seg 19).holders.has 2 = true ∧
    ((withSeg 19 { heldBy (diverterIn .setting) with underFlow := true, feeders := IdxSet.single 2 }).seg 19).underFlow =
      true := by decide +kernel

/-- Stream 3's request for lot 7041 on route 9, as an open route, a route of its own lot's, and one staged for another
lot finds it. -/
def request3 : Request := ⟨3, 7041, 13, some 9, false⟩

/-- Route 9's segments FREE or in a state for lot 8 STAGED, bin 13 AVAILABLE, lot 7041 in the table. -/
def contested (st : SegState) (k : Segment → Segment) : State :=
  (((((tables .free).putSeg 5 (k (heldBy (conveyorIn st)))).putSeg 19 (k (heldBy (diverterIn st)))).putSeg 40
    (k (heldBy (gateIn st)))).putBin 13 { binIn .available with inletGate := some 40 }).putLot 0 (some lot7041)

/-- A segment's record as FREE, or as STAGED for lot 8. -/
def asFree (x : Segment) : Segment :=
  { x with owner := none, kind := none, holders := IdxSet.empty 8, feeders := IdxSet.empty 8 }
def asStaged (x : Segment) : Segment := { x with owner := some 8, kind := some .staged }

theorem witness_GrantTestAndReservation :
    let free := contested .free asFree
    let staged := contested .ready asStaged
    let active := contested .ready id
    free.routeAt 9 = some route9 ∧ request3.route = some 9 ∧ free.findLot 7041 = some lot7041 ∧
    (∃ c, (free.bin 13).config = some c) ∧ (free.bin 13).state = .available ∧ (free.bin 13).cls = none ∧
    obstacles free [] request3 9 = [] ∧
    (obstacles staged [] request3 9 = [5, 19, 40] ∧ ∀ g ∈ obstacles staged [] request3 9,
      (staged.seg g).kind = some .staged ∧ (staged.seg g).owner = some 8) ∧
    (active.findLot 7041 = some lot7041 ∧ obstacles active [] { request3 with stream := 2 } 9 = [5, 19, 40] ∧
      ∀ g ∈ obstacles active [] { request3 with stream := 2 } 9, (active.seg g).kind ≠ some .staged) ∧
    ((free.putBin 13 (binIn .full)).bin 13).state = .full ∧
    ((free.seg 5).state = .free ∧ (free.seg 5).config = some ⟨.conveyor, 60, 12, 2⟩) ∧
    ((free.seg 19).state = .free ∧ (free.seg 19).config = some ⟨.diverter 33 true, 70, 12, 2⟩ ∧
      (free.seg 19).reported = some 2 ∧ (free.seg 19).reported ≠ some 3) ∧
    ((free.seg 63).state = .free ∧ (free.seg 63).config = none) ∧
    ((active.seg 19).owner = some 7041 ∧ (active.seg 19).kind = some .active ∧ (active.seg 19).state = .ready ∧
      (active.seg 19).underFlow = false ∧ (active.seg 19).commanded = some 2 ∧ (active.seg 19).holders.has 3 = false ∧
      (active.seg 19).holders.card < (active.seg 19).shareLimit) ∧
    (let x := { diverterIn .flushing with owner := some 7041, flush := some 1 };
      x.owner = some 7041 ∧ x.state = .flushing ∧ x.travel = none ∧ x.commanded = some 2) := by
  refine ⟨by decide +kernel, by decide +kernel, by decide +kernel, ⟨_, rfl⟩, ?_⟩
  decide +kernel

/-- Stream 2's granted request on route 9, its segments READY. -/
def granted2 (st : SegState) : State :=
  ((tables st).putStream 2 { feeder with state := .waiting, activeRoute := none, permit := none }).putQueue
    [⟨2, 7041, 13, some 9, true⟩]

/-- A blocked list; a request without route or lot; pre-emption's single holder; a grant to an EMPTY bin and to one of a
class; activation with every segment READY or CARRYING and held, with one SETTING, not granted and not asked for; a request
that leaves granted and not; a pass that is due and not. -/
theorem witness_GrantTestAndReservation_effects :
    let carries (s : State) (g : SegIdx) := ((s.seg g).state = .ready ∨ (s.seg g).state = .carrying) ∧
      (s.seg g).holders.has 2 = true
    (5 ∈ obstacles (contested .free asFree) [5] request3 9 ∧ 19 ∉ obstacles (contested .free asFree) [5] request3 9) ∧
    ((⟨3, 7041, 13, none, false⟩ : Request).route = none ∧ (tables .free).findLot 7041 = none) ∧
    ((contested .ready asStaged).seg 5).holders = IdxSet.single 2 ∧
    ((contested .free asFree).bin 13).cls = none ∧ (feeding.bin 13).cls = some 3 ∧
    (∀ st ∈ [SegState.ready, .carrying], (granted2 st).requestOf 2 = some ⟨2, 7041, 13, some 9, true⟩ ∧
      (granted2 st).routeAt 9 = some route9 ∧ ∀ x ∈ route9.steps, carries (granted2 st) x.segment) ∧
    (∃ x ∈ route9.steps, ¬carries (granted2 .setting) x.segment) ∧
    ((granted2 .ready).stream 2).config.unloader = some 13 ∧ ((granted2 .ready).stream 2).currentLot = some 7041 ∧
    (waiting2.requestOf 2 = some ⟨2, 7041, 13, some 9, false⟩ ∧ feeding.requestOf 2 = none) ∧
    (∀ x ∈ route9.steps, x.segment ≠ 63) ∧ feeding.passDue = false ∧
    ({ feeding with passDue := true } : State).passDue = true ∧ feeding.mgmt.restartLeft = none ∧
    restartingNow.mgmt.restartLeft ≠ none := by decide +kernel

theorem witness_StagedHitTest :
    feeding.routeAt 9 = some route9 ∧
    (feeding.putRoute 10 (some { route9 with bin := 14 })).routeAt 10 = some { route9 with bin := 14 } := by decide +kernel

/-- Route 10 of stream 2, to bin 14 over CONVEYOR 5, DIVERTER 19 at 3 and GATE 41. -/
def route10 : Route := ⟨2, 14, [⟨5, none⟩, ⟨19, some 3⟩, ⟨41, some 1⟩]⟩

/-- `feeding` with route 10, its gate in a state; with 41 staged by stream 2 for bin 14 when READY. -/
def changing (st : SegState) : State :=
  (((feeding.putRoute 10 (some route10)).putSeg 41
    { Segment.reset with config := some ⟨.gate 35 14, 90, 12, 2⟩, state := st, commanded := some 1, reported := some 1
                         owner := if st = .free then none else some 7041
                         kind := if st = .free then none else some .staged
                         holders := if st = .free then IdxSet.empty 8 else IdxSet.single 2 }).putBin 14
    { feeding.bin 14 with inletGate := some 41, gateReserved := decide (st ≠ .free) }).putStaging 2
      (if st = .free then none else some ⟨14, some 10, IdxSet.single 41⟩)

/-- The carrying out of a changed bin: a hit, a miss and no bin; a route left, a diverter moved, a gate taken; a stream
that does not feed the lot; HELD for the lot and WAITING for it; requests granted and not. -/
theorem witness_StagedHitTest_changeover :
    let s := changing .ready
    stagedHit s 2 14 = some (9, 10) ∧ s.routeAt 9 = some route9 ∧ s.routeAt 10 = some route10 ∧
    stagedHit (changing .free) 2 14 = none ∧
    ((route9.steps.filter fun o => !route10.steps.any fun st => st.segment == o.segment).map (·.segment) = [40]) ∧
    ((s.seg 5).segKind = some .conveyor ∧ (s.seg 19).segKind = some (.diverter 33 true) ∧
      (s.seg 19).state = .carrying ∧ (s.seg 19).underFlow = false ∧ (s.seg 19).holders = IdxSet.single 2 ∧
      (s.seg 19).feeders = IdxSet.single 2 ∧ (s.seg 19).commanded ≠ some 3 ∧ ¬(s.seg 19).commanded ≠ some 2) ∧
    ((s.seg 41).holders.has 2 = true ∧ ((changing .free).seg 41).holders.has 2 = false) ∧
    ((s.stream 2).state = .feeding ∧ (s.stream 2).currentLot = some 7041 ∧ (s.stream 0).state ≠ .feeding) ∧
    ((s.stream 2).noBinLot ≠ some 7041 ∧
      ((s.putStream 3 { Stream.reset with noBinLot := some 7041 }).stream 3).noBinLot = some 7041) ∧
    ((waiting2.stream 2).state = .waiting ∧ (waiting2.stream 2).currentLot = some 7041) ∧
    ((granted2 .ready).alloc.queue.filter fun q => q.lot == 7041) = [⟨2, 7041, 13, some 9, true⟩] := by decide +kernel

/-- `changing .free` with bin 13 near full. -/
def nearing : State :=
  (changing .free).putBin 13 { (changing .free).bin 13 with nearFull := true }

/-- The staging check: a target and none; no record, one aimed at the target and one elsewhere; a record with a route, one
that finds it and one that finds none; a step apt, on the active route, already staged, not FREE, and on another lot's
request. -/
theorem witness_StagedHitTest_staging :
    stagingTarget nearing 2 = some 14 ∧ stagingTarget feeding 2 = none ∧ nearing.stagingOf 2 = none ∧
    (nearing.stream 2).state = .feeding ∧ (idle2.stream 2).state ≠ .feeding ∧
    ((nearing.putStaging 2 (some ⟨14, none, IdxSet.empty 64⟩)).stagingOf 2 = some ⟨14, none, IdxSet.empty 64⟩) ∧
    some (14 : BinIdx) ≠ some 15 ∧ nearing.routeFor 2 14 = some 10 ∧ nearing.routeFor 2 15 = none ∧
    nearing.routeAt 10 = some route10 ∧ (nearing.stream 2).currentLot = some 7041 ∧ nearing.findLot 7041 = some lot7041 ∧
    (∃ l ∈ nearing.findLot 7041, l.currentBin = some 13 ∧ l.nextBin nearing = some 14) ∧
    (∀ k ∈ (nearing.stream 2).activeRoute, ∀ y ∈ nearing.routeAt k, ∀ o ∈ y.steps, o.segment ≠ 41) ∧
    ((IdxSet.empty 64).has 41 = false ∧ (IdxSet.single (41 : SegIdx)).has 41 = true) ∧
    ((nearing.seg 41).state = .free ∧ (nearing.seg 41).config ≠ none ∧ nearing.alloc.queue = [] ∧
      (nearing.seg 41).gateBin = some 14 ∧ (nearing.seg 5).gateBin = none) ∧
    (∃ y ∈ nearing.routeAt 9, ∃ o ∈ y.steps, o.segment = 5) ∧ ((changing .ready).seg 41).state ≠ .free := by
  decide +kernel

/-! ### Bins -/

/-- A bin without configuration, one reserved, one with a gauge and one without, out of service and in it. -/
theorem witness_BinCommandsTaken :
    feeding.mgmt.restartLeft = none ∧ (feeding.bin 39).config = none ∧
    ((feeding.bin 13).config ≠ none ∧ (feeding.bin 13).gateReserved = true) ∧
    ((feeding.bin 14).config = some ⟨400000, none, 950, 880, 800, 5⟩ ∧ (feeding.bin 14).gateReserved = false ∧
      (feeding.bin 14).state ≠ .outOfService) ∧
    (let s := feeding.putBin 14 (binIn .available);
      (s.bin 14).config = some ⟨400000, some 45, 950, 880, 800, 5⟩ ∧ (s.bin 14).gateReserved = false) ∧
    (feeding.bin 39).state = .outOfService ∧
    (let s := feeding.putBin 14 (binIn .outOfService); (s.bin 14).state = .outOfService ∧ (s.bin 14).config ≠ none) ∧
    (let s := feeding.putBin 14 { binIn .outOfService with config := some ⟨400000, none, 950, 880, 800, 5⟩ };
      (s.bin 14).state = .outOfService ∧ (s.bin 14).config ≠ none) := by decide +kernel

theorem witness_GaugePollsMissesAndLevels :
    ((feeding.bin 13).pollTimer = some 4000 ∧ (feeding.bin 13).config = some ⟨400000, some 45, 950, 880, 800, 5⟩ ∧
      (feeding.bin 13).pollOutstanding = false ∧ (feeding.bin 13).replyTimer = none) ∧
    (feeding.bin 14).pollTimer = none ∧
    (∀ p ∈ [(GaugeState.ok, 1), (.ok, 2), (.lost, 2), (.lost, 3)],
      let s := feeding.putBin 13 { binIn .filling with
        pollOutstanding := true, replyTimer := some 0, gaugeState := p.1, misses := p.2 };
      (s.bin 13).pollOutstanding = true ∧ (s.bin 13).replyTimer ≠ none ∧ (s.bin 13).gaugeState = p.1 ∧
      (s.bin 13).misses = p.2) ∧
    feeding.loop.address = 0 ∧ (∀ j, ∀ k ∈ (feeding.bin j).config, k.gauge ≠ some 46) ∧
    (∀ j, ∀ k ∈ (feeding.bin j).config, k.gauge = some 45 → j = 13) := by decide +kernel

/-- Bins one gram below and at the levels 800 and 950, in each state; empty, and with a gauge at the empty threshold. -/
theorem witness_JudgementAndEmptinessTest :
    (∀ b ∈ [binIn .available, binIn .filling, binIn .full, binIn .outOfService],
      ∀ f ∈ [319999999, 320000000, 379999999, 380000000],
        ((feeding.putBin 13 { b with fill := f }).bin 13).config = some ⟨400000, some 45, 950, 880, 800, 5⟩) ∧
    (319999999 / 400000 = 799 ∧ 320000000 / 400000 = 800 ∧ 379999999 / 400000 = 949 ∧ 380000000 / 400000 = 950) ∧
    (feeding.bin 39).config = none ∧
    (let x := { binIn .available with fill := 9, gaugeLevel := some 5 };
      x.state ≠ .filling ∧ x.gateReserved = false ∧ x.gaugeLevel = some 5 ∧ x.config.map (·.empty) = some 5) ∧
    (let x := { binIn .available with fill := 9, gaugeLevel := some 6 };
      x.fill ≠ 0 ∧ x.gaugeLevel = some 6 ∧ x.config.map (·.empty) = some 5) := by decide +kernel

/-- The period: without gauge and OUT-OF-SERVICE none; FILLING near full and not; AVAILABLE. A change from 4,000 to 1,000
with 999 and 1,001 left, with the timer armed and disarmed; a change to none. -/
theorem witness_JudgementAndEmptinessTest_period :
    (binIn .outOfService).period = none ∧ ({ binIn .filling with nearFull := true } : Bin).period = some 1000 ∧
    (binIn .filling).period = some 4000 ∧ (binIn .available).period = some 30000 ∧
    ({ binIn .full with config := some ⟨400000, none, 950, 880, 800, 5⟩ } : Bin).period = none ∧
    (∃ c ∈ (binIn .filling).config, ∃ a, c.gauge = some a) ∧ (binIn .filling).pollTimer = some 4000 ∧
    ({ binIn .filling with pollTimer := none } : Bin).pollTimer = none ∧
    ({ binIn .available with fill := 0 } : Bin).fill = 0 ∧ (binIn .available).cls = none ∧
    (feeding.bin 13).cls ≠ none := by refine ⟨?_, ?_, ?_, ?_, ?_, ⟨_, rfl, 45, rfl⟩, ?_⟩ <;> decide +kernel

/-! ### Events, lamps, restart -/

/-- A raise that makes the alert output active, with a source to send the NOTICE to, and without; a pattern with 0 and 1
at the first and the last kind. -/
theorem witness_EventsMasksAndAlert :
    let s := (ran (.setMask q (some 2)) State.reset).putMgmt { State.reset.mgmt with lastSource := some 60 }
    s.ind.alert = false ∧ (raise .restarted 0 s).ind.alert = true ∧ s.mgmt.lastSource = some 60 ∧
    State.reset.mgmt.lastSource = none ∧ State.reset.mgmt.restartLeft = none ∧
    (0x20001 : BitVec 24).getLsbD 0 = true ∧ (0x20001 : BitVec 24).getLsbD 17 = true ∧
    (0x1FFFE : BitVec 24).getLsbD 0 = false ∧ (0x1FFFE : BitVec 24).getLsbD 17 = false := by decide +kernel

/-- SET_MASK of POWER-UP's flag with a MANAGE source known makes the alert output active, CLEAR_EVENTS of it ends it. -/
theorem witness_EventsMasksAndAlert_mask :
    let s := State.reset.putMgmt { State.reset.mgmt with lastSource := some 60 }
    s.ind.alert = false ∧ s.mgmt.lastSource = some 60 ∧ s.mgmt.restartLeft = none ∧
    (ran (.setMask q (some 1)) s).ind.alert = true ∧ sent (.setMask q (some 1)) s = [.notice 60 1, .reply 60 7 .done 0 true []] ∧
    (ran (.clearEvents q (some 0xFFFFFE)) (ran (.setMask q (some 1)) s)).ind.alert = false := by decide +kernel

/-- Lamps with each pattern; a FEEDING stream's bin at the judged levels 879, 880 and 1000; a stream in each state. -/
theorem witness_LampCommandsAndPatterns :
    State.reset.mgmt.restartLeft = none ∧ (State.reset.ind.lamps.get 7).shown = some ⟨.off, 0, 0⟩ ∧
    (∀ p ∈ [LampPattern.off, .doubleFlash, .steady, .blink 3, .blink 5, .flashSlow, .flashFast],
      ((State.reset.putInd { State.reset.ind with lamps := State.reset.ind.lamps.set 2 ⟨.stream, 2, some ⟨p, 0, 0⟩⟩ }
        ).ind.lamps.get 2).shown = some ⟨p, 0, 0⟩) ∧
    ((State.reset.putInd { State.reset.ind with lamps := State.reset.ind.lamps.set 2 ⟨.on, 2, none⟩ }
        ).ind.lamps.get 2).shown = none ∧
    (feeding.ind.lamps.get 2).mode = .stream ∧ (feeding.ind.lamps.get 2).assigned = 2 ∧
    (feeding.stream 2).state = .feeding ∧ (feeding.stream 2).activeRoute = some 9 ∧ feeding.routeAt 9 = some route9 ∧
    (∀ j ∈ [879, 880, 1000], ((feeding.putBin 13 { feeding.bin 13 with judged := some j }).bin 13).judged = some j ∧
      ((feeding.putBin 13 { feeding.bin 13 with judged := some j }).bin 13).config =
        some ⟨400000, some 45, 950, 880, 800, 5⟩) ∧
    (idle2.stream 2).state = .idle ∧ (waiting2.stream 2).state = .waiting ∧ (draining2.stream 2).state = .draining ∧
    ((ran (.holdStream q (some 2)) idle2).stream 2).state = .held := by decide +kernel

theorem witness_LampCommandsAndPatterns_target :
    9 < (10 : Nat) ∧ ((7 : LampIdx).val = 7 ∧ (0 : LampIdx).val = 0) ∧ 3 < (4 : Nat) ∧ 7 < (8 : Nat) := by decide

theorem witness_RestartAndItsEnd :
    feeding.mgmt.restartLeft = none ∧ restartingNow.mgmt.restartLeft ≠ none ∧
    (restartingNow.seg 63).state = .free ∧
    ((restartingNow.seg 40).state ≠ .free ∧ (restartingNow.seg 40).config = some ⟨.gate 34 13, 90, 12, 2⟩) ∧
    ((restartingNow.putSeg 5 { conveyorIn .ready with config := some ⟨.conveyor, 0, 12, 2⟩ }).seg 5).config =
      some ⟨.conveyor, 0, 12, 2⟩ ∧
    (∃ l ∈ restartingNow.lotAt 0, l.state = .discharging) ∧
    (∃ l ∈ (lotIn .opened).lotAt 0, l.state = .opened) ∧ (∃ l ∈ (lotIn .planned).lotAt 0, l.state = .planned) ∧
    (let s := capturing.putMgmt { capturing.mgmt with restartLeft := some 0 };
      s.mgmt.restartLeft ≠ none ∧ s.tally.capture = some ⟨2, 60000, 478, 59750⟩ ∧
      (∃ w ∈ s.mgmt.unlock, w.held = true)) ∧
    (∃ k ∈ (restartingNow.bin 13).config, k.gauge ≠ none) ∧ (restartingNow.bin 13).state ≠ .outOfService := by
  decide +kernel

/-- RESTART as the request in hand, with a frame behind it, and commanded with nothing in hand. -/
theorem witness_RestartAndItsEnd_inHand :
    (let s := State.reset.putMgmt { State.reset.mgmt with inHand := some ⟨60, 7, 18, []⟩, input := [⟨61, 8, 18, []⟩] };
      s.mgmt.restartLeft = none ∧ ∃ f ∈ s.mgmt.inHand, decodeRequest f = .restart q (some ())) ∧
    ¬∃ f ∈ State.reset.mgmt.inHand, decodeRequest f = .restart q (some ()) := by decide +kernel

/-- A FEEDING stream with unloader, route and lot, and one that is not; lot 7041 CLOSING behind 15 and behind 16 records,
and a second CLOSING lot behind it. -/
theorem witness_RestartAndItsEnd_closing :
    let closing := restartingNow.putLot 0 (some { lot7041 with state := .closing })
    let slot (s : State) (k : LotIdx) := s.lot.outturn.length + ((List.finRange 32).filter fun j => decide (j < k) &&
      (match s.lotAt j with | some m => decide (m.state = .closing) | none => false)).length
    ((restartingNow.stream 2).state = .feeding ∧ (restartingNow.stream 2).config.unloader = some 13 ∧
      (restartingNow.stream 2).activeRoute = some 9 ∧ restartingNow.routeAt 9 = some route9 ∧
      (restartingNow.stream 2).currentLot = some 7041 ∧ (restartingNow.stream 0).state ≠ .feeding) ∧
    closing.mgmt.restartLeft ≠ none ∧ (∃ l ∈ closing.lotAt 0, l.state = .closing) ∧
    slot (closing.putOutturn (outturnOf 15)) 0 = 15 ∧ slot (closing.putOutturn (outturnOf 16)) 0 = 16 ∧
    slot ((closing.putLot 1 (some { lot7041 with number := 8, state := .closing })).putOutturn (outturnOf 15)) 1 = 16 := by
  decide +kernel

end Sys2Proof.Machine.Tests
end

section
/-! What a request's processing answers, and what WRITE_HOLD_MAP does (R2). -/

namespace Sys2Proof.Machine

/-! ## Requests answered -/

theorem indexed_of_le {n k : Nat} (owner : Fin n → Answer) (h : n ≤ k) : indexed n k owner = .refuse .badIndex := by
  simp [indexed, idx?, Nat.not_lt.mpr h]

@[simp] theorem indexed_val {n : Nat} (owner : Fin n → Answer) (i : Fin n) : indexed n i.val owner = owner i := by
  simp [indexed, idx?]

section Processing

variable {α : Type} {a : α} {owner : α → State → Answer} {s : State} (c : Instr) (q : Requester)

theorem owned_some (hs : s.mgmt.restartLeft = none) : owned (some a) owner s = owner a s := by
  simp [owned, State.restarting, hs]

/-- A well-formed request outside the restart interval that its owner refuses (R163). -/
theorem request_of_refuse {o : ReplyCode} (hs : s.mgmt.restartLeft = none) (h : owner a s = .refuse o) :
    request c q (some a) owner s = answeredWith c q o s := by
  rw [request, owned_some hs, h]; rfl

/-- A well-formed request outside the restart interval that its owner takes (R163, R167). -/
theorem request_of_done {f : State → State} (hs : s.mgmt.restartLeft = none) (h : owner a s = .done f) :
    request c q (some a) owner s = answeredDone c q (f s) := by
  rw [request, owned_some hs, h]; rfl

end Processing

/-! ## The hold map's record and key -/

/-- The fields of a hold-map entry are in their ranges (R2). -/
def HoldEntry.InRange (e : HoldEntry) : Prop := e.hold ≤ 31 ∧ e.layer ≤ 3 ∧ 1 ≤ e.lot ∧ e.lot ≤ 65535

/-- A record is stored as an entry exactly when it gives that entry's three fields, each in its range. -/
theorem holdStored_eq_some_iff (r : HoldWrite) (e : HoldEntry) :
    holdStored r = some e ↔ r = ⟨some e.hold, some e.layer, some e.lot⟩ ∧ e.InRange := by
  obtain ⟨h, l, n⟩ := r
  cases h with
  | none => simp [holdStored]
  | some h => cases l with
    | none => simp [holdStored]
    | some l => cases n with
      | none => simp [holdStored]
      | some n =>
        obtain ⟨h', l', n'⟩ := e
        simp only [holdStored, HoldEntry.InRange, HoldWrite.mk.injEq, Option.some.injEq, Option.ite_none_right_eq_some,
          HoldEntry.mk.injEq]
        constructor
        · rintro ⟨hr, rfl, rfl, rfl⟩; exact ⟨⟨rfl, rfl, rfl⟩, hr⟩
        · rintro ⟨⟨rfl, rfl, rfl⟩, hr⟩; exact ⟨hr, rfl, rfl, rfl⟩

/-- A record that gives no entry in range is not stored. -/
theorem holdStored_eq_none {r : HoldWrite} (h : ∀ e : HoldEntry, r = ⟨some e.hold, some e.layer, some e.lot⟩ →
    ¬e.InRange) : holdStored r = none :=
  Option.eq_none_iff_forall_ne_some.mpr fun e he =>
    have ⟨hr, hin⟩ := (holdStored_eq_some_iff r e).mp he
    h e hr hin

theorem holdDuplicate_iff (s : State) (i : HoldIdx) (e : HoldEntry) :
    holdDuplicate s i e = true ↔
      ∃ j x, j ≠ i ∧ s.lot.holdMap.get j = some x ∧ x.hold = e.hold ∧ x.layer = e.layer := by
  simp only [holdDuplicate, List.any_eq_true, List.mem_finRange, true_and, Bool.and_eq_true, decide_eq_true_eq]
  refine exists_congr fun j => ?_
  cases hx : s.lot.holdMap.get j with
  | none => simp
  | some x => simp

/-! ## The Lot manager's answer to WRITE_HOLD_MAP, test by test (R2) -/

section HoldMap

variable {a : WriteArgs HoldWrite} {i : HoldIdx} {r : HoldWrite} {e : HoldEntry} (s : State)

theorem ownHoldMap_of_index_le (h : 48 ≤ a.index) : ownHoldMap a s = .refuse .badIndex := indexed_of_le _ h

theorem ownHoldMap_absent (hi : i.val = a.index) (ha : a.entry = none) :
    ownHoldMap a s = .done fun s => s.putHold i none := by
  simp [ownHoldMap, ← hi, ha]

theorem ownHoldMap_not_stored (hi : i.val = a.index) (ha : a.entry = some r) (hr : holdStored r = none) :
    ownHoldMap a s = .refuse .badRecord := by
  simp [ownHoldMap, ← hi, ha, hr]

theorem ownHoldMap_duplicate (hi : i.val = a.index) (ha : a.entry = some r) (hr : holdStored r = some e)
    (hd : holdDuplicate s i e = true) : ownHoldMap a s = .refuse .duplicate := by
  simp [ownHoldMap, ← hi, ha, hr, hd]

theorem ownHoldMap_stored (hi : i.val = a.index) (ha : a.entry = some r) (hr : holdStored r = some e)
    (hd : ¬holdDuplicate s i e = true) : ownHoldMap a s = .done fun s => s.putHold i (some e) := by
  simp [ownHoldMap, ← hi, ha, hr, hd]

end HoldMap

theorem exec_writeHoldMap (q : Requester) (a : Option (WriteArgs HoldWrite)) (s : State) :
    exec (.writeHoldMap q a) s = request (.writeHoldMap q a) q a ownHoldMap s := by
  rfl

/-- Settles O37: each of R2's tests gives the owner's answer, which the request's processing carries to the outcome. -/
theorem holdMapWriteTaken : Obligations.HoldMapWriteTaken := by
  intro q a s hs
  simp only [exec_writeHoldMap]
  refine ⟨fun hk => request_of_refuse _ q hs (ownHoldMap_of_index_le s hk), fun i hi => ⟨fun ha => ?absent,
    fun r ha => ⟨fun hbad => ?badRecord, fun h l n hr hh hl hn hn' => ?wellFormed⟩⟩⟩
  case absent => exact request_of_done _ q hs (ownHoldMap_absent s hi ha)
  case badRecord =>
    have hr : holdStored r = none := holdStored_eq_none fun e he hin => hbad ⟨e.hold, e.layer, e.lot, he, hin⟩
    exact request_of_refuse _ q hs (ownHoldMap_not_stored s hi ha hr)
  case wellFormed =>
    have he : holdStored r = some ⟨h, l, n⟩ := (holdStored_eq_some_iff r _).mpr ⟨hr, hh, hl, hn, hn'⟩
    constructor
    · intro hdup
      exact request_of_refuse _ q hs (ownHoldMap_duplicate s hi ha he ((holdDuplicate_iff s i _).mpr hdup))
    · intro hfree
      have hnd : ¬holdDuplicate s i ⟨h, l, n⟩ = true := fun hd =>
        have ⟨j, x, hj, hx, hkey⟩ := (holdDuplicate_iff s i _).mp hd
        hfree j x hj hx hkey
      exact request_of_done _ q hs (ownHoldMap_stored s hi ha he hnd)

end Sys2Proof.Machine
end

section
/-! What the Stream unit's state changes make of a detached stream, and what HOLD_STREAM and RELEASE_STREAM do (R40). -/

namespace Sys2Proof

/-! ## Tables written over, and with what they hold -/

@[simp] theorem Tbl.set_set {α : Type} {n : Nat} (t : Tbl α n) (i : Fin n) (x y : α) :
    (t.set i x).set i y = t.set i y := by
  simp [Tbl.set]

@[simp] theorem Tbl.set_get_self {α : Type} {n : Nat} (t : Tbl α n) (i : Fin n) : t.set i (t.get i) = t :=
  Tbl.ext_get fun j => by
    rw [Tbl.get_set]
    split
    case isTrue h => rw [h]
    case isFalse => rfl

namespace Machine

section StreamRecords

variable (s : State) (i : StreamIdx)

@[simp] theorem State.putStream_putStream (x y : Stream) : (s.putStream i x).putStream i y = s.putStream i y := by
  simp [State.putStream]

@[simp] theorem State.putStream_stream_self : s.putStream i (s.stream i) = s := by
  simp [State.putStream, State.stream]

end StreamRecords

/-! ## Entering HELD and IDLE without a lot to be detached from (R37, R39) -/

section Detached

variable {s : State} {i : StreamIdx}

theorem detachStream_of_detached (h : (s.stream i).currentLot = none) : detachStream i s = s := by
  simp [detachStream, h]

theorem becomeHeld_of_detached (mark : Bool) (h : (s.stream i).currentLot = none) :
    becomeHeld i mark s = refreshLamps (s.putStream i { s.stream i with
      state := .held, activeRoute := none, silence := none, fromIdle := mark }) := by
  rw [becomeHeld, detachStream_of_detached h, State.modStream]

theorem becomeIdle_of_detached (h : (s.stream i).currentLot = none) :
    becomeIdle i s = refreshLamps (s.putStream i { s.stream i with
      state := .idle, activeRoute := none, silence := none, fromIdle := false }) := by
  rw [becomeIdle, detachStream_of_detached h, State.modStream]

/-- Without an unlock in force for it, a stream that leaves IDLE ends nothing (R74). -/
theorem leaveIdle_of_not_unlocked (h : ∀ u, s.mgmt.unlock = some u → u.stream ≠ i) : leaveIdle i s = s := by
  have hu : s.unlockedFor i = false := by
    rw [State.unlockedFor]
    split
    next u hu => simpa using h u hu
    next => rfl
  simp [leaveIdle, hu]

end Detached

/-! ## Reasons joining and leaving a stream's record -/

@[simp] theorem Stream.withReason_currentLot (x : Stream) (r : HoldReason) :
    (x.withReason r).currentLot = x.currentLot := by
  cases r with
  | noBin n => rw [Stream.withReason]; split <;> rfl
  | _ => rfl

@[simp] theorem Stream.withoutReason_currentLot (x : Stream) (r : HoldReason) :
    (x.withoutReason r).currentLot = x.currentLot := by
  cases r <;> rfl

@[simp] theorem Stream.withoutReason_fromIdle (x : Stream) (r : HoldReason) :
    (x.withoutReason r).fromIdle = x.fromIdle := by
  cases r <;> rfl

theorem Stream.withoutReason_operator_of_absent {x : Stream} (h : x.reasons.operator = false) :
    x.withoutReason .operator = x := by
  rw [Stream.withoutReason, ← h]

/-! ## A reason added to an IDLE stream, and the last one removed from a HELD stream -/

section Reasons

variable {s : State} {i : StreamIdx} (r : HoldReason)

/-- An IDLE, detached stream without an unlock goes to HELD, and no more is done (R37). -/
theorem addReason_of_idle (hstate : (s.stream i).state = .idle) (hlot : (s.stream i).currentLot = none)
    (hunlock : ∀ u, s.mgmt.unlock = some u → u.stream ≠ i) :
    addReason i r s = refreshLamps (s.putStream i { (s.stream i).withReason r with
      state := .held, activeRoute := none, silence := none, fromIdle := r.marks }) := by
  have hleave : leaveIdle i (s.modStream i (·.withReason r)) = s.putStream i ((s.stream i).withReason r) :=
    leaveIdle_of_not_unlocked hunlock
  have hheld := becomeHeld_of_detached (s := s.putStream i ((s.stream i).withReason r)) (i := i) r.marks (by simp [hlot])
  simpa [addReason, hstate, hleave] using hheld

/-- A removal that leaves the record as it was changes nothing (R39). -/
theorem removeReason_of_absent (h : (s.stream i).withoutReason r = s.stream i) : removeReason i r s = s := by
  have hset : ¬((s.stream i).state = .held ∧ (s.stream i).reasons ≠ HoldSet.none ∧ (s.stream i).reasons = HoldSet.none) :=
    fun ⟨_, hne, he⟩ => hne he
  simp only [removeReason, h, State.putStream_stream_self, if_neg hset]

/-- A HELD, detached stream with the held-from-idle mark becomes IDLE when its last reason leaves (R39). -/
theorem removeReason_of_last (hstate : (s.stream i).state = .held) (hset : (s.stream i).reasons ≠ HoldSet.none)
    (hlast : ((s.stream i).withoutReason r).reasons = HoldSet.none) (hmark : (s.stream i).fromIdle = true)
    (hlot : (s.stream i).currentLot = none) :
    removeReason i r s = refreshLamps (s.putStream i { (s.stream i).withoutReason r with
      state := .idle, activeRoute := none, silence := none, fromIdle := false }) := by
  have hidle := becomeIdle_of_detached (s := s.putStream i ((s.stream i).withoutReason r)) (i := i) (by simp [hlot])
  simpa [removeReason, leaveHeld, hstate, hset, hlast, hmark] using hidle

end Reasons

/-! ## The Stream unit's answers to HOLD_STREAM and RELEASE_STREAM (R40) -/

section Answers

variable {s : State} {i : StreamIdx}

theorem ownHoldStream_of_index_le {n : Nat} (h : 8 ≤ n) (s : State) : ownHoldStream n s = .refuse .badIndex :=
  indexed_of_le _ h

theorem ownReleaseStream_of_index_le {n : Nat} (h : 8 ≤ n) (s : State) : ownReleaseStream n s = .refuse .badIndex :=
  indexed_of_le _ h

theorem ownHoldStream_val (i : StreamIdx) (s : State) : ownHoldStream i.val s =
    .done fun s => if (s.stream i).reasons.operator then s else addReason i .operator s :=
  indexed_val _ i

theorem ownReleaseStream_val (i : StreamIdx) (s : State) :
    ownReleaseStream i.val s = .done (removeReason i .operator) :=
  indexed_val _ i

theorem exec_holdStream (q : Requester) (k : Option Nat) (s : State) :
    exec (.holdStream q k) s = request (.holdStream q k) q k ownHoldStream s := by
  rfl

theorem exec_releaseStream (q : Requester) (k : Option Nat) (s : State) :
    exec (.releaseStream q k) s = request (.releaseStream q k) q k ownReleaseStream s := by
  rfl

variable (q : Requester) (hs : s.mgmt.restartLeft = none)
include hs

theorem exec_holdStream_of_present (h : (s.stream i).reasons.operator = true) :
    exec (.holdStream q (some i.val)) s = answeredDone (.holdStream q (some i.val)) q s := by
  simpa only [exec_holdStream, h, if_true] using
    request_of_done (.holdStream q (some i.val)) q hs (ownHoldStream_val i s)

theorem exec_holdStream_of_absent (h : (s.stream i).reasons.operator = false) :
    exec (.holdStream q (some i.val)) s =
      answeredDone (.holdStream q (some i.val)) q (addReason i .operator s) := by
  simpa only [exec_holdStream, h, Bool.false_eq_true, if_false] using
    request_of_done (.holdStream q (some i.val)) q hs (ownHoldStream_val i s)

theorem exec_releaseStream_val (i : StreamIdx) : exec (.releaseStream q (some i.val)) s =
    answeredDone (.releaseStream q (some i.val)) q (removeReason i .operator s) :=
  request_of_done _ q hs (ownReleaseStream_val i s)

end Answers

/-- Settles O46: a hold adds OPERATOR by R37 and a release removes it by R39, of which the unused stream's moves from
IDLE to HELD and back are cases. -/
theorem holdAndReleaseStream : Obligations.HoldAndReleaseStream := by
  intro q s hs
  refine ⟨fun n hn => ⟨request_of_refuse _ q hs (ownHoldStream_of_index_le hn s),
    request_of_refuse _ q hs (ownReleaseStream_of_index_le hn s)⟩, fun i => ⟨exec_holdStream_of_present q hs,
    exec_holdStream_of_absent q hs, fun habsent => ?releaseAbsent, fun _ => exec_releaseStream_val q hs i,
    fun _ hidle hset hlot hunlock => ?holdUnused, fun _ hheld hset hmark hlot => ?releaseUnused⟩⟩
  case releaseAbsent =>
    rw [exec_releaseStream_val q hs, removeReason_of_absent _ (Stream.withoutReason_operator_of_absent habsent)]
  case holdUnused =>
    have habsent : (s.stream i).reasons.operator = false := by rw [hset]; rfl
    rw [exec_holdStream_of_absent q hs habsent, addReason_of_idle _ hidle hlot hunlock]
    simp only [Stream.withReason, HoldReason.marks, hset]
  case releaseUnused =>
    have hne : (s.stream i).reasons ≠ HoldSet.none := by rw [hset]; decide
    have hlast : ((s.stream i).withoutReason .operator).reasons = HoldSet.none := by
      rw [Stream.withoutReason, hset]; rfl
    rw [exec_releaseStream_val q hs, removeReason_of_last _ hheld hne hlast hmark hlot]
    simp only [Stream.withoutReason, hset, HoldSet.none]

end Machine
end Sys2Proof
end

section
/-! The Tally engine's arithmetic: differences, numerator, division, and the limits of each (R52 to R58, R67). -/

namespace Sys2Proof.Machine

/-! ## Differences and rate (R52, R53) -/

theorem deltaMod_cast {m : Nat} (hm : 0 < m) (new old : Nat) :
    (deltaMod m new old : Int) = ((new : Int) - old) % m := by
  have hle : old % m ≤ m := (Nat.mod_lt old hm).le
  have hdiv : (m : Int) * (old / m) + old % m = old := Int.mul_ediv_add_emod _ _
  calc (deltaMod m new old : Int)
      = (new + (m - old % m)) % m := by rw [deltaMod]; push_cast [Nat.cast_sub hle]; rfl
    _ = ((new - old) + m * (1 + old / m)) % m := by congr 1; linarith
    _ = ((new : Int) - old) % m := Int.add_mul_emod_self_left _ _ _

theorem deltaMod_lt {m : Nat} (hm : 0 < m) (new old : Nat) : deltaMod m new old < m := Nat.mod_lt _ hm

theorem rateOf_le {counts bound time : Nat} (h : counts ≤ bound) : rateOf counts time ≤ bound * 1000 :=
  (Nat.div_le_self _ _).trans (Nat.mul_le_mul_right _ h)

section Measurement

variable (l : LastSample) (f : SampleFields)

theorem measure_counts_cast : ((measure l f).counts : Int) = ((f.count.toNat : Int) - l.count) % 16777216 :=
  deltaMod_cast (by decide) _ _

theorem measure_counts_le : (measure l f).counts ≤ 16777215 := Nat.le_of_lt_succ (deltaMod_lt (by decide) _ _)

theorem measure_time_cast : ((measure l f).time : Int) = ((f.time.toNat : Int) - l.time) % 65536 :=
  deltaMod_cast (by decide) _ _

theorem measure_time_le : (measure l f).time ≤ 65535 := Nat.le_of_lt_succ (deltaMod_lt (by decide) _ _)

theorem measure_rate : (measure l f).rate = (measure l f).counts * 1000 / (measure l f).time := rfl

theorem measure_rate_le : (measure l f).rate ≤ 16777215000 := rateOf_le (measure_counts_le l f)

end Measurement

/-! ## Net count, factors and numerator (R55 to R57) -/

theorem netCount_cast (k : Calibration) (counts time : Nat) :
    (netCount k counts time : Int) = max 0 ((counts : Int) * 1024000 - k.zero * (min time 4000 : Nat)) := by
  rw [netCount, ← Int.toNat_sub, Int.ofNat_toNat, max_comm, Nat.cast_mul, Nat.cast_mul, Nat.cast_ofNat]

section Numerator

variable {k : Calibration} {counts : Nat} (time : Nat)

theorem netCount_le (hc : counts ≤ 16777215) : netCount k counts time ≤ 17179868160000 :=
  (Nat.sub_le _ _).trans (Nat.mul_le_mul_right 1024000 hc)

theorem zeroTerm_le (hz : k.zero ≤ 65535) : k.zero * min time 4000 ≤ 262140000 :=
  Nat.mul_le_mul hz (min_le_right time 4000)

theorem trimFactor_cast (hlo : -2000 ≤ k.trim) : (trimFactor k : Int) = 100000 + k.trim :=
  Int.toNat_of_nonneg (by omega)

theorem trimFactor_le (hhi : k.trim ≤ 2000) : trimFactor k ≤ 102000 := by
  rw [trimFactor]; omega

theorem le_factors (hspan : 1 ≤ k.span) (hlo : -2000 ≤ k.trim) : 98000 ≤ k.span * (100000 + k.trim) :=
  calc (98000 : Int) = 1 * 98000 := rfl
    _ ≤ k.span * (100000 + k.trim) := mul_le_mul (by omega) (by omega) (by decide) (by omega)

theorem factors_le (hspan : k.span ≤ 1000000) (hlo : -2000 ≤ k.trim) (hhi : k.trim ≤ 2000) :
    k.span * (100000 + k.trim) ≤ 102000000000 :=
  calc k.span * (100000 + k.trim) ≤ 1000000 * 102000 := mul_le_mul (by omega) (by omega) (by omega) (by decide)
    _ = (102000000000 : Int) := rfl

theorem numerator_cast (hlo : -2000 ≤ k.trim) :
    (numerator k counts time : Int) = netCount k counts time * k.span * (100000 + k.trim) := by
  rw [numerator, Nat.cast_mul, Nat.cast_mul, trimFactor_cast hlo]

/-- The greatest numerator is the product of the greatest net count, the greatest span and the greatest trim factor. -/
theorem numerator_le (hspan : k.span ≤ 1000000) (hhi : k.trim ≤ 2000) (hc : counts ≤ 16777215) :
    numerator k counts time ≤ 1752346552320000000000000 :=
  calc numerator k counts time ≤ 17179868160000 * 1000000 * 102000 :=
        Nat.mul_le_mul (Nat.mul_le_mul (netCount_le time hc) hspan) (trimFactor_le hhi)
    _ = 1752346552320000000000000 := rfl

end Numerator

/-! ## The division into grams and residue (R58) -/

section Division

variable (k : Calibration) (r counts time : Nat)

theorem gramsOf_eq : gramsOf k r counts time = (numerator k counts time + r) / 102400000000000 := rfl

theorem residueAfter_add_gramsOf :
    residueAfter k r counts time + gramsOf k r counts time * 102400000000000 = numerator k counts time + r :=
  Nat.mod_add_div' _ _

theorem residueAfter_lt : residueAfter k r counts time < 102400000000000 := Nat.mod_lt _ (by decide)

end Division

/-- A residue below the divisor completes no gram beyond those of the greatest numerator (R67). -/
theorem gramsOf_le {k : Calibration} {r counts time : Nat} (hr : r < 102400000000000)
    (hm : numerator k counts time ≤ 1752346552320000000000000) : gramsOf k r counts time ≤ 17112759300 := by
  rw [gramsOf_eq]; omega

/-- The sample of the greatest numerator, Δc = 16,777,215 over Δt = 65,535 ms with z = 0, K = 1,000,000 and T = 2,000
(R67). -/
theorem greatestSample_quantities :
    let k : Calibration := ⟨1000000, 0, 2000, 16000000, 0⟩
    numerator k 16777215 65535 = 1752346552320000000000000 ∧
    1752346552320000000000000 = 17112759300 * 102400000000000 ∧
    gramsOf k 102399999999999 16777215 65535 = 17112759300 ∧
    rateOf 16777215 65535 = 256003 := by decide

/-- Settles O24: each quantity by its own lemma, from the differences of the sample to the division into grams. -/
theorem tallyQuantitiesInRange : Obligations.TallyQuantitiesInRange := by
  refine ⟨?quantities, greatestSample_quantities, by decide, fun _ _ => rfl⟩
  intro k l f r hspan1 hspan hzero hlo hhi hr htime
  have hm : numerator k (measure l f).counts (measure l f).time ≤ 1752346552320000000000000 :=
    numerator_le _ hspan hhi (measure_counts_le l f)
  have htime1 : 1 ≤ (measure l f).time := Nat.one_le_iff_ne_zero.mpr htime
  exact ⟨measure_counts_cast l f, measure_counts_le l f, measure_time_cast l f, htime1, measure_time_le l f,
    measure_rate l f, measure_rate_le l f, le_min htime1 (by decide), min_le_right _ _, zeroTerm_le _ hzero,
    netCount_cast k _ _, netCount_le _ (measure_counts_le l f), le_factors hspan1 hlo, factors_le hspan hlo hhi,
    numerator_cast _ hlo, hm, Nat.add_le_add hm (Nat.le_of_lt_succ hr), gramsOf_eq k r _ _, gramsOf_le hr hm,
    residueAfter_add_gramsOf k r _ _, Nat.le_of_lt_succ (residueAfter_lt k r _ _)⟩

end Sys2Proof.Machine
end

section
/-! What any command can do to a state, said once: a property that the updates listed in `Robust` leave true is left
true by every step. -/

namespace Sys2Proof.Machine

/-! ## The bounds of each block's records, in the block's own terms -/

/-- `LoopLaw` of the Loop interface's state alone. -/
structure Loop.Law (l : Loop) : Prop where
  forward : l.forward.length ≤ forwardRoom
  own : l.own.length ≤ ownRoom
  permits : (l.own.filterMap OwnFrame.permitStream).Nodup
  crc : l.crc ≤ 255
  fwdDrop : l.fwdDrop ≤ 255
  ownDrop : l.ownDrop ≤ 255
  mgmtDrop : l.mgmtDrop ≤ 255
  address : l.address ≤ 62
  idle : l.tx = none → l.forward = [] ∧ l.own = []

theorem loopLaw_iff (s : State) : LoopLaw s ↔ s.loop.Law :=
  ⟨fun ⟨a, b, c, d, e, f, g, h, i⟩ => ⟨a, b, c, d, e, f, g, h, i⟩,
    fun ⟨a, b, c, d, e, f, g, h, i⟩ => ⟨a, b, c, d, e, f, g, h, i⟩⟩

/-- The input buffer's bound, and nothing waits while the unit is free (R159, R161). -/
structure Management.Law (m : Management) : Prop where
  input : m.input.length ≤ inputRoom
  inHand : m.inHand = none → m.input = []

/-- The bounds of a stream's sums and counters (R31, R44). -/
structure Stream.Bounded (x : Stream) : Prop where
  unassigned : x.unassigned ≤ maxGrams
  sinceRead : x.sinceRead ≤ maxGrams
  missed : x.missed ≤ 255
  discarded : x.discarded ≤ 255

/-- The bounds of a stream's tally record (R50, R59, R70). -/
structure Tally.Bounded (t : Tally) : Prop where
  residue : t.residue < 102400000000000
  serial : t.serial ≤ 65535
  overCount : t.overCount ≤ 255
  jumpCount : t.jumpCount ≤ 255

/-- A configuration's thresholds are in their order (R129). -/
def BinConfig.Ordered (c : BinConfig) : Prop :=
  c.empty < c.resume ∧ c.resume < c.preStage ∧ c.preStage ≤ c.high ∧ c.high ≤ 1000

/-- A bin's update that keeps each of its bounds that held (R129, R131, R133). -/
structure BinUpdate (x y : Bin) : Prop where
  fill : x.fill ≤ maxGrams → y.fill ≤ maxGrams := by exact id
  misses : x.misses ≤ 3 → y.misses ≤ 3 := by exact id
  config : (∀ c, x.config = some c → c.Ordered) → ∀ c, y.config = some c → c.Ordered := by exact id

/-- A bin's update that also leaves its inlet gate and gate marks alone, and makes it FILLING or AVAILABLE only as those
marks allow (R131). -/
structure BinStep (x y : Bin) : Prop extends BinUpdate x y where
  inletGate : y.inletGate = x.inletGate := by rfl
  gateCarrying : y.gateCarrying = x.gateCarrying := by rfl
  gateReserved : y.gateReserved = x.gateReserved := by rfl
  filling : y.state = .filling → x.state = .filling ∨ x.gateCarrying = true := by exact Or.inl
  available : y.state = .available → x.state = .available ∨ x.gateCarrying = false ∨ x.gateReserved = false := by
    exact Or.inl

/-- Two records of one lot, with the same number and the same grams. -/
structure Lot.SameGrams (l l' : Lot) : Prop where
  number : l'.number = l.number
  bins : l'.bins = l.bins
  certified : l'.certified = l.certified
  uncertified : l'.uncertified = l.uncertified

/-- Lot number `n` may stand at index `i`: no other entry and no out-turn record holds it, or entry `i` does (R5). -/
def NumberFits (s : State) (i : LotIdx) (n : Nat) : Prop :=
  lotDuplicate s i n = false ∨ ∃ l, s.lotAt i = some l ∧ l.number = n

/-- No event's count has passed 255 (R171). -/
def EventsBounded (e : Tbl EventRecord 18) : Prop := ∀ k, (e.get k).count ≤ 255

/-- A change of a stream's record that keeps the bounds of its sums and leaves its state as it is, with what that state
requires of the record (R28). -/
structure Stream.Calm (x y : Stream) : Prop where
  state : y.state = x.state := by rfl
  reasons : y.reasons = x.reasons := by rfl
  noBinLot : y.noBinLot = x.noBinLot := by rfl
  faulted : y.faulted = x.faulted := by rfl
  currentLot : y.currentLot = x.currentLot := by rfl
  activeRoute : y.activeRoute = x.activeRoute := by rfl
  fromIdle : y.fromIdle = x.fromIdle := by rfl
  suspect : y.suspect.isSome = x.suspect.isSome := by rfl
  silence : y.silence.isSome = true → x.silence.isSome = true ∨ x.state.timed = true := by exact Or.inl
  permit : y.permit.isSome = x.permit.isSome ∨ (y.permit = none ∧ x.state ≠ .feeding) := by exact Or.inl rfl
  drain : y.drain.isSome = true → x.drain.isSome = true ∨ x.state = .draining := by exact Or.inl
  bounds : x.Bounded → y.Bounded := by exact fun h => ⟨h.unassigned, h.sinceRead, h.missed, h.discarded⟩

/-- A change of a stream's tally record that keeps its bounds and leaves calibration and serial alone. -/
structure Tally.Uncalibrated (t u : Tally) : Prop where
  cal : u.cal = t.cal := by rfl
  serial : u.serial = t.serial := by rfl
  bounds : t.Bounded → u.Bounded

/-- A change of a segment's reported position and timers alone. -/
def Segment.Calm (x y : Segment) : Prop :=
  y = { x with reported := y.reported, flush := y.flush, travel := y.travel }

/-- A property of states that every update a command makes leaves true, when it keeps the bounds it concerns. -/
structure Robust (P : State → Prop) : Prop where
  pending : ∀ s l, P s → P { s with pending := l }
  reports : ∀ s a d, P s → P { s with agenda := a, passDue := d }
  charTime : ∀ s n, P s → P { s with charTime := n }
  reset : ∀ (straps : BitVec 6) calen l, P (State.resetWith straps.toNat calen l)
  loop : ∀ s l, (s.loop.Law → l.Law) → P s → P (s.putLoop l)
  stream : ∀ s i x, ((s.stream i).Bounded → x.Bounded) → P s → P (s.putStream i x)
  tally : ∀ s i x, ((s.tallyOf i).Bounded → x.Bounded) → P s → P (s.putTally i x)
  capture : ∀ s c, P s → P (s.putCapture c)
  lot : ∀ s k l l', s.lotAt k = some l → l.SameGrams l' → P s → P (s.putLot k (some l'))
  book : ∀ s k l b g c, s.lotAt k = some l → l.takes b = true → P s → P (s.putLot k (some (l.book b g c)))
  load : ∀ s k (r : LotRecord), r.bins.Nodup → NumberFits s k r.number → P s → P (s.putLot k (some r.planned))
  extend : ∀ s k l (r : LotRecord), s.lotAt k = some l → r.bins.Nodup → r.continues l = true → P s →
    P (s.putLot k (some (r.extended l)))
  drop : ∀ s k, P s → P (s.putLot k none)
  complete : ∀ s k l, s.lotAt k = some l → s.lot.outturn.length < outturnRoom → P s →
    P ((s.putOutturn (s.lot.outturn ++ [l.outturnRecord])).putLot k none)
  release : ∀ s p, P s → P (s.putOutturn (s.lot.outturn.filter p))
  hold : ∀ s i e, P s → P (s.putHold i e)
  seg : ∀ s g x, P s → P (s.putSeg g x)
  alloc : ∀ s a, P s → P { s with alloc := a }
  bin : ∀ s b x, BinUpdate (s.bin b) x → P s → P (s.putBin b x)
  mgmt : ∀ s m, (s.mgmt.Law → m.Law) → P s → P (s.putMgmt m)
  judged : ∀ s e, (EventsBounded s.ind.events → EventsBounded e) → P s → P (judgeAlert (s.putEvents e))
  lamps : ∀ s x, x.events = s.ind.events → x.alert = s.ind.alert → P s → P (s.putInd x)
  tick : ∀ s, P s → P (tickMs s)

/-- A property of states that every update a command makes leaves true, but for the changes of a calibration and the
starts of a capture. -/
structure Sturdy (P : State → Prop) : Prop where
  pending : ∀ s l, P s → P { s with pending := l }
  reports : ∀ s a d, P s → P { s with agenda := a, passDue := d }
  charTime : ∀ s n, P s → P { s with charTime := n }
  loop : ∀ s l, (s.loop.Law → l.Law) → P s → P (s.putLoop l)
  stream : ∀ s i x, ((s.stream i).Bounded → x.Bounded) → P s → P (s.putStream i x)
  tally : ∀ s i x, (s.tallyOf i).Uncalibrated x → P s → P (s.putTally i x)
  capture : ∀ s c d, s.tally.capture = some c → d.stream = c.stream → P s → P (s.putCapture (some d))
  dropCapture : ∀ s, P s → P (s.putCapture none)
  completeCapture : ∀ s c d, s.tally.capture = some c → d.stream = c.stream → P s → P (completeCapture d s)
  lot : ∀ s k l l', s.lotAt k = some l → l.SameGrams l' → P s → P (s.putLot k (some l'))
  book : ∀ s k l b g c, s.lotAt k = some l → l.takes b = true → P s → P (s.putLot k (some (l.book b g c)))
  load : ∀ s k (r : LotRecord), r.bins.Nodup → NumberFits s k r.number → P s → P (s.putLot k (some r.planned))
  extend : ∀ s k l (r : LotRecord), s.lotAt k = some l → r.bins.Nodup → r.continues l = true → P s →
    P (s.putLot k (some (r.extended l)))
  drop : ∀ s k, P s → P (s.putLot k none)
  complete : ∀ s k l, s.lotAt k = some l → s.lot.outturn.length < outturnRoom → P s →
    P ((s.putOutturn (s.lot.outturn ++ [l.outturnRecord])).putLot k none)
  release : ∀ s p, P s → P (s.putOutturn (s.lot.outturn.filter p))
  hold : ∀ s i e, P s → P (s.putHold i e)
  seg : ∀ s g x, P s → P (s.putSeg g x)
  alloc : ∀ s a, P s → P { s with alloc := a }
  bin : ∀ s b x, BinUpdate (s.bin b) x → P s → P (s.putBin b x)
  mgmt : ∀ s m, (s.mgmt.Law → m.Law) → P s → P (s.putMgmt m)
  judged : ∀ s e, (EventsBounded s.ind.events → EventsBounded e) → P s → P (judgeAlert (s.putEvents e))
  lamps : ∀ s x, x.events = s.ind.events → x.alert = s.ind.alert → P s → P (s.putInd x)
  tick : ∀ s, P s → P (tickMs s)

/-- A property of states that the parts of a command's body leave true which end no unlock, move no stream from its
state, and change a segment only as a reservation or a release does. -/
structure Routine (P : State → Prop) : Prop where
  pending : ∀ s l, P s → P { s with pending := l }
  reports : ∀ s a d, P s → P { s with agenda := a, passDue := d }
  charTime : ∀ s n, P s → P { s with charTime := n }
  loop : ∀ s l, (s.loop.Law → l.Law) → P s → P (s.putLoop l)
  stream : ∀ s i x, (s.stream i).Calm x → P s → P (s.putStream i x)
  tally : ∀ s i x, (s.tallyOf i).Uncalibrated x → P s → P (s.putTally i x)
  capture : ∀ s c d, s.tally.capture = some c → d.stream = c.stream → P s → P (s.putCapture (some d))
  lot : ∀ s k l l', s.lotAt k = some l → l.SameGrams l' → P s → P (s.putLot k (some l'))
  book : ∀ s k l b g c, s.lotAt k = some l → l.takes b = true → P s → P (s.putLot k (some (l.book b g c)))
  load : ∀ s k (r : LotRecord), r.bins.Nodup → NumberFits s k r.number → P s → P (s.putLot k (some r.planned))
  extend : ∀ s k l (r : LotRecord), s.lotAt k = some l → r.bins.Nodup → r.continues l = true → P s →
    P (s.putLot k (some (r.extended l)))
  drop : ∀ s k, P s → P (s.putLot k none)
  complete : ∀ s k l, s.lotAt k = some l → s.lot.outturn.length < outturnRoom → P s →
    P ((s.putOutturn (s.lot.outturn ++ [l.outturnRecord])).putLot k none)
  release : ∀ s p, P s → P (s.putOutturn (s.lot.outturn.filter p))
  hold : ∀ s i e, P s → P (s.putHold i e)
  route : ∀ s k r, P s → P (s.putRoute k r)
  staging : ∀ s i x, P s → P (s.putStaging i x)
  requests : ∀ s q, (q.map (·.stream)).Sublist (s.alloc.queue.map (·.stream)) → P s → P (s.putQueue q)
  segment : ∀ s g x, (s.seg g).Calm x → P s → P (s.putSeg g x)
  reserve : ∀ s g k c, P s → P (reserve g k c s)
  releaseHolder : ∀ s i g, (s.seg g).holders.has i = true → P s → P (releaseHolder i g s)
  bin : ∀ s b x, BinStep (s.bin b) x → P s → P (s.putBin b x)
  mgmt : ∀ s m, m.unlock = s.mgmt.unlock → m.calen = s.mgmt.calen → (s.mgmt.Law → m.Law) → P s → P (s.putMgmt m)
  judged : ∀ s e, (EventsBounded s.ind.events → EventsBounded e) → P s → P (judgeAlert (s.putEvents e))
  lamps : ∀ s x, x.events = s.ind.events → x.alert = s.ind.alert → P s → P (s.putInd x)
  tick : ∀ s, P s → P (tickMs s)

/-- A stream leaves WAITING other than by activation: its request leaves the queue, and it becomes IDLE. -/
def withdraw (i : StreamIdx) (s : State) : State := becomeIdle i (removeRequest i s)

/-- A property of states that every command but a reset leaves true, when the operations listed do that move a stream
from one state to another, change a segment's state, or end an unlock. -/
structure Upheld (P : State → Prop) : Prop extends Routine P where
  completeCapture : ∀ s c d, s.tally.capture = some c → d.stream = c.stream → P s → P (completeCapture d s)
  endCapture : ∀ s o, P s → P (endCapture o s)
  endUnlock : ∀ s c, P s → P (endUnlock c s)
  calenFall : ∀ s, P s → P (setCalen false (Machine.endUnlock .enableLow s))
  calenRise : ∀ s, P s → P (setCalen true s)
  judgeReport : ∀ s g eq, P s → P (judgeReport g eq s)
  faultSeg : ∀ s g, (s.seg g).state ≠ .free → P s → P (faultSeg g s)
  endFlush : ∀ s g, (s.seg g).state = .flushing → P s → P (endFlush g s)
  clearFault : ∀ s g, (s.seg g).state = .fault → P s → P (clearFault g s)
  storeSegConfig : ∀ s g c, (s.seg g).state = .free →
    (∀ d, c = some d → segmentDuplicate s g d.kind = false ∧ ∃ w, segConfigStored w = some d) → P s →
    P (storeSegConfig g c s)
  addReason : ∀ s i r, r ≠ .meter → P s → P (addReason i r s)
  removeReason : ∀ s i r, r ≠ .meter → P s → P (removeReason i r s)
  grossSample : ∀ s i f m, P s → P (grossSample i f m s)
  deleteSuspect : ∀ s i, P s → P (deleteSuspect i s)
  enterDraining : ∀ s i, (s.stream i).state = .feeding → P s → P (enterDraining i s)
  endDraining : ∀ s i, (s.stream i).state = .draining → P s → P (endDraining i s)
  withdraw : ∀ s i, (s.stream i).state = .waiting → P s → P (withdraw i s)
  examineSteps : ∀ s i f, P s → P (examineSteps i f s)
  activate : ∀ s i q r, s.requestOf i = some q → q.route = some r → q.canActivate s = true → P s → P (activate i r s)
  carryHit : ∀ s i b old new, (s.stream i).state = .feeding → stagedHit s i b = some (old, new) → P s →
    P (carryHit i old new s)
  restartBlocks : ∀ s, P s → P (restartBlocks s)

/-! ## The Loop interface keeps its law -/

theorem countUp_le (n k : Nat) : countUp n k ≤ 255 := Nat.min_le_left _ _

theorem satAdd_le (n g : Nat) : satAdd n g ≤ maxGrams := Nat.min_le_left _ _

namespace Loop

variable {l : Loop}

/-- `Law` before an idle transmitter has chosen: all of it but the last clause. -/
structure Filled (l : Loop) : Prop where
  forward : l.forward.length ≤ forwardRoom
  own : l.own.length ≤ ownRoom
  permits : (l.own.filterMap OwnFrame.permitStream).Nodup
  crc : l.crc ≤ 255
  fwdDrop : l.fwdDrop ≤ 255
  ownDrop : l.ownDrop ≤ 255
  mgmtDrop : l.mgmtDrop ≤ 255
  address : l.address ≤ 62

theorem Law.filled (h : l.Law) : l.Filled :=
  ⟨h.forward, h.own, h.permits, h.crc, h.fwdDrop, h.ownDrop, h.mgmtDrop, h.address⟩

theorem Filled.law (h : l.Filled) (hidle : l.tx = none → l.forward = [] ∧ l.own = []) : l.Law :=
  ⟨h.forward, h.own, h.permits, h.crc, h.fwdDrop, h.ownDrop, h.mgmtDrop, h.address, hidle⟩

/-- An idle transmitter that chooses is left with a frame, or with nothing waiting. -/
theorem Filled.choose (h : l.Filled) : l.choose.Law := by
  unfold Loop.choose
  split
  case h_1 f hf => exact h.law fun hn => by rw [hf] at hn; cases hn
  case h_2 htx =>
    split
    case h_1 f r hfwd =>
      have hlen := h.forward
      rw [hfwd] at hlen
      exact Filled.law (l := ({ l with forward := r }).begin f)
        ⟨Nat.le_of_succ_le hlen, h.own, h.permits, h.crc, h.fwdDrop, h.ownDrop, h.mgmtDrop, h.address⟩
        fun hn => absurd hn (Option.some_ne_none _)
    case h_2 hfwd =>
      split
      case h_1 o r hown =>
        have hlen := h.own
        have hper := h.permits
        rw [hown] at hlen hper
        have hper' : (r.filterMap OwnFrame.permitStream).Nodup :=
          hper.sublist ((List.sublist_cons_self o r).filterMap _)
        exact Filled.law (l := ({ l with own := r }).begin _)
          ⟨h.forward, Nat.le_of_succ_le hlen, hper', h.crc, h.fwdDrop, h.ownDrop, h.mgmtDrop, h.address⟩
          fun hn => absurd hn (Option.some_ne_none _)
      case h_2 hown => exact h.law fun _ => ⟨hfwd, hown⟩

theorem isPermitOf_iff (o : OwnFrame) (i : StreamIdx) : o.isPermitOf i = true ↔ o.permitStream = some i := by
  cases o <;> simp [OwnFrame.isPermitOf, OwnFrame.permitStream]

/-- The stream of the PERMIT that a replacement leaves in each place is the one that was there (R154). -/
theorem permits_replacePermit {i : StreamIdx} {f : OwnFrame} (hf : f.permitStream = some i) (q : List OwnFrame) :
    (replacePermit i f q).filterMap OwnFrame.permitStream = q.filterMap OwnFrame.permitStream := by
  rw [replacePermit, List.filterMap_map]
  refine List.filterMap_congr fun o _ => ?_
  simp only [Function.comp]
  split
  case isTrue ho => rw [hf, (isPermitOf_iff o i).mp ho]
  case isFalse => rfl

theorem Law.append (h : l.Law) {f : OwnFrame}
    (hnew : ∀ i, f.permitStream = some i → l.own.any (·.isPermitOf i) = false) :
    (l.append f).Filled := by
  unfold Loop.append
  split
  case isTrue hroom =>
    have hper : ((l.own ++ [f]).filterMap OwnFrame.permitStream).Nodup := by
      rw [List.filterMap_append]
      refine List.Nodup.append h.permits ?_ ?_
      · cases hf : f.permitStream <;> simp [hf]
      · intro i hi hj
        obtain ⟨o, ho, hoi⟩ := List.mem_filterMap.mp hi
        obtain ⟨o', ho', hoi'⟩ := List.mem_filterMap.mp hj
        rw [List.mem_singleton.mp ho'] at hoi'
        have hnone := List.any_eq_false.mp (hnew i hoi') o ho
        exact hnone ((isPermitOf_iff o i).mpr hoi)
    exact ⟨h.forward, by simpa using hroom, hper, h.crc, h.fwdDrop, h.ownDrop, h.mgmtDrop, h.address⟩
  case isFalse =>
    exact ⟨h.forward, h.own, h.permits, h.crc, h.fwdDrop, countUp_le _ _, h.mgmtDrop, h.address⟩

theorem Law.enqueue (h : l.Law) (f : OwnFrame) : (l.enqueue f).Filled := by
  unfold Loop.enqueue
  split
  case h_1 i hf =>
    split
    case isTrue hhas =>
      refine ⟨h.forward, ?_, ?_, h.crc, h.fwdDrop, h.ownDrop, h.mgmtDrop, h.address⟩
      · simpa [replacePermit] using h.own
      · simpa only [permits_replacePermit hf] using h.permits
    case isFalse hnone =>
      refine h.append fun j hj => ?_
      have hij : i = j := Option.some.inj (hf.symm.trans hj)
      simpa [hij] using hnone
  case h_2 hf => exact h.append fun j hj => by rw [hf] at hj; cases hj

theorem Law.choose_enqueue (h : l.Law) (f : OwnFrame) : (l.enqueue f).choose.Law := (h.enqueue f).choose

theorem permits_replyFrames (q : Requester) (o : ReplyCode) (n : Nat) (ds : List (List Byte)) :
    (replyFrames q o n ds).filterMap OwnFrame.permitStream = [] := by
  induction ds generalizing n with
  | nil => rfl
  | cons d ds ih =>
    cases ds with
    | nil => rfl
    | cons e ds => rw [replyFrames, List.filterMap_cons_none rfl, ih]; simp

theorem Law.choose_enqueueReply (h : l.Law) (q : Requester) (o : ReplyCode) (data : List Byte) :
    (l.enqueueReply (replyParts q o data)).choose.Law := by
  unfold Loop.enqueueReply
  split
  case isTrue hroom =>
    refine Filled.choose ⟨h.forward, by simpa using hroom, ?_, h.crc, h.fwdDrop, h.ownDrop, h.mgmtDrop, h.address⟩
    rw [List.filterMap_append, replyParts, permits_replyFrames, List.append_nil]
    exact h.permits
  case isFalse =>
    exact Filled.choose ⟨h.forward, h.own, h.permits, h.crc, h.fwdDrop, countUp_le _ _, h.mgmtDrop, h.address⟩

theorem Law.choose_forwardFrame (h : l.Law) (f : Frame) : (l.forwardFrame f).choose.Law := by
  unfold Loop.forwardFrame
  split
  case isTrue hroom =>
    exact Filled.choose ⟨by simpa using hroom, h.own, h.permits, h.crc, h.fwdDrop, h.ownDrop, h.mgmtDrop, h.address⟩
  case isFalse =>
    exact Filled.choose ⟨h.forward, h.own, h.permits, h.crc, countUp_le _ _, h.ownDrop, h.mgmtDrop, h.address⟩

theorem Law.frameSent (h : l.Law) : l.frameSent.Law := by
  unfold Loop.frameSent
  split
  case h_1 =>
    exact Filled.choose (l := { l with tx := none, txLeft := 0 })
      ⟨h.forward, h.own, h.permits, h.crc, h.fwdDrop, h.ownDrop, h.mgmtDrop, h.address⟩
  case h_2 => exact h

end Loop

/-! ## What the updates of `Robust` make up -/

theorem Management.Law.takeFrame {m : Management} (h : m.input.length ≤ inputRoom) : m.takeFrame.Law := by
  unfold Management.takeFrame
  split
  case h_1 he => exact ⟨by rw [he]; exact Nat.zero_le _, fun _ => he⟩
  case h_2 f r hr => exact ⟨by rw [hr] at h; exact Nat.le_of_succ_le h, fun hn => absurd hn (Option.some_ne_none _)⟩

/-! ### Polling -/

/-- Setting a bin's polls afresh changes its two timers and the poll outstanding, and nothing else. -/
theorem repoll_frame (old : Option Nat) (x : Bin) : Bin.repoll old x = { x with
    pollTimer := (Bin.repoll old x).pollTimer, pollOutstanding := (Bin.repoll old x).pollOutstanding
    replyTimer := (Bin.repoll old x).replyTimer } := by
  unfold Bin.repoll
  split
  · rfl
  · split <;> rfl
  · rfl
  · rfl

section Repoll

variable (old : Option Nat) (x : Bin)

@[simp] theorem repoll_config : (Bin.repoll old x).config = x.config := by rw [repoll_frame]
@[simp] theorem repoll_state : (Bin.repoll old x).state = x.state := by rw [repoll_frame]
@[simp] theorem repoll_inletGate : (Bin.repoll old x).inletGate = x.inletGate := by rw [repoll_frame]
@[simp] theorem repoll_gateCarrying : (Bin.repoll old x).gateCarrying = x.gateCarrying := by rw [repoll_frame]
@[simp] theorem repoll_gateReserved : (Bin.repoll old x).gateReserved = x.gateReserved := by rw [repoll_frame]
@[simp] theorem repoll_cls : (Bin.repoll old x).cls = x.cls := by rw [repoll_frame]
@[simp] theorem repoll_estimate : (Bin.repoll old x).estimate = x.estimate := by rw [repoll_frame]
@[simp] theorem repoll_judged : (Bin.repoll old x).judged = x.judged := by rw [repoll_frame]
@[simp] theorem repoll_nearFull : (Bin.repoll old x).nearFull = x.nearFull := by rw [repoll_frame]

end Repoll

theorem takeFrame_unlock (m : Management) : m.takeFrame.unlock = m.unlock := by
  unfold Management.takeFrame
  split <;> rfl

theorem takeFrame_calen (m : Management) : m.takeFrame.calen = m.calen := by
  unfold Management.takeFrame
  split <;> rfl

theorem BinUpdate.refl (x : Bin) : BinUpdate x x := ⟨id, id, id⟩

theorem BinUpdate.of_account {x y : Bin} (h : y.account = x.account) : BinUpdate x y := by
  obtain ⟨hconfig, hfill, -, -, hmisses, -⟩ := BinAccount.mk.inj h
  exact ⟨fun hx => hfill ▸ hx, fun hx => hmisses ▸ hx, fun hx => hconfig ▸ hx⟩

theorem EventsBounded.set {e : Tbl EventRecord 18} (h : EventsBounded e) (k : Fin 18) {r : EventRecord}
    (hr : r.count ≤ 255) : EventsBounded (e.set k r) := fun j => by
  rw [Tbl.get_set]
  split
  · exact hr
  · exact h j

theorem repoll_update {x y : Bin} (o : Option Nat) (hxy : BinUpdate x y) : BinUpdate x (Bin.repoll o y) := by
  have hr := BinUpdate.of_account (repoll_account o y)
  exact ⟨fun hx => hr.fill (hxy.fill hx), fun hx => hr.misses (hxy.misses hx), fun hx => hr.config (hxy.config hx)⟩

/-- Setting the polls afresh keeps what a bin's update has kept. -/
theorem BinStep.repoll {x y : Bin} (h : BinStep x y) (o : Option Nat) : BinStep x (Bin.repoll o y) where
  toBinUpdate := repoll_update o h.toBinUpdate
  inletGate := by rw [repoll_inletGate, h.inletGate]
  gateCarrying := by rw [repoll_gateCarrying, h.gateCarrying]
  gateReserved := by rw [repoll_gateReserved, h.gateReserved]
  filling := by rw [repoll_state]; exact h.filling
  available := by rw [repoll_state]; exact h.available

theorem BinStep.formLevels (x : Bin) (c : BinConfig) : BinStep x (x.formLevels c) :=
  BinStep.repoll (y := { x with estimate := some (estimateLevel x.fill c.capacity), judged := some (x.judgedLevel c)
                                nearFull := decide (c.preStage ≤ x.judgedLevel c) }) {} _

theorem BinStep.withState {x : Bin} {st : BinState}
    (hf : st = .filling → x.state = .filling ∨ x.gateCarrying = true)
    (ha : st = .available → x.state = .available ∨ x.gateCarrying = false ∨ x.gateReserved = false) :
    BinStep x (x.withState st) :=
  BinStep.repoll (y := { x with state := st }) { filling := hf, available := ha } _

/-- The judgement makes a bin FILLING or AVAILABLE by its gate, or leaves it so (R135). -/
theorem judgedState_cases (x : Bin) (c : BinConfig) :
    (x.judgedState c = .filling → x.state = .filling ∨ x.gateCarrying = true) ∧
    (x.judgedState c = .available → x.state = .available ∨ x.gateCarrying = false) := by
  unfold Bin.judgedState
  dsimp only
  split
  case h_1 | h_2 =>
    split
    · exact ⟨nofun, nofun⟩
    · exact ⟨Or.inl, Or.inl⟩
  case h_3 =>
    split
    · split
      next h => exact ⟨fun _ => Or.inr h, nofun⟩
      next h => exact ⟨nofun, fun _ => Or.inr (Bool.eq_false_iff.mpr h)⟩
    · exact ⟨nofun, nofun⟩
  case h_4 => exact ⟨nofun, nofun⟩

namespace Routine

variable {P : State → Prop} (h : Routine P)
include h

theorem place (s : State) (f : OwnFrame) (hs : P s) : P (s.place f) := h.loop _ _ (fun hl => hl.choose_enqueue f) hs

theorem placeReply (s : State) (q : Requester) (o : ReplyCode) (data : List Byte) (hs : P s) :
    P (s.placeReply q o data) := h.loop _ _ (fun hl => hl.choose_enqueueReply q o data) hs

theorem forward (s : State) (f : Frame) (hs : P s) : P (s.forward f) :=
  h.loop _ _ (fun hl => hl.choose_forwardFrame f) hs

theorem raise (s : State) (k : EventKind) (n : Nat) (hs : P s) : P (raise k n s) :=
  h.judged _ _ (fun he => he.set _ (countUp_le _ _)) hs

theorem refresh (s : State) (hs : P s) : P (refreshLamps s) := h.lamps _ _ rfl rfl hs

theorem emit (s : State) (r : Report) (hs : P s) : P (s.emit r) := h.reports s _ s.passDue hs

theorem occasion (s : State) (hs : P s) : P s.occasion := h.reports s s.agenda true hs

end Routine

namespace Sturdy

variable {P : State → Prop} (h : Sturdy P)
include h

theorem raise (s : State) (k : EventKind) (n : Nat) (hs : P s) : P (raise k n s) :=
  h.judged _ _ (fun he => he.set _ (countUp_le _ _)) hs

theorem refresh (s : State) (hs : P s) : P (refreshLamps s) := h.lamps _ _ rfl rfl hs

theorem unlock (s : State) (u : Option Unlock) (hs : P s) : P (s.putUnlock u) :=
  h.mgmt _ _ (fun hm => ⟨hm.input, hm.inHand⟩) hs

/-- Every update made while reports are taken is one of a command's updates. -/
theorem kept : Kept P where
  reports := h.reports
  stream s i x ha := h.stream s i x fun hx => by
    obtain ⟨-, -, -, -, -, hun, hsince, -, -, -, hmiss, hdisc⟩ := StreamAccount.mk.inj ha
    exact ⟨hun ▸ hx.unassigned, hsince ▸ hx.sinceRead, hmiss ▸ hx.missed, hdisc ▸ hx.discarded⟩
  report s i r := h.tally s i _ { bounds := fun hx => ⟨hx.residue, hx.serial, hx.overCount, hx.jumpCount⟩ }
  capture := h.dropCapture
  unlock s := h.unlock s none
  lot s k l l' hl ha := h.lot s k l l' hl (by
    obtain ⟨hnum, -, -, -, -, -, -, hbins, hcert, hunc, -⟩ := LotAccount.mk.inj ha
    exact ⟨hnum, hbins, hcert, hunc⟩)
  complete s k l hl _ := h.complete s k l hl
  seg s g x _ := h.seg s g x
  bin s b x ha := h.bin s b x (.of_account ha)
  queue s q := h.alloc s { s.alloc with queue := q }
  staging s i x := h.alloc s { s.alloc with staging := s.alloc.staging.set i x }
  place s f := h.loop _ _ fun hl => hl.choose_enqueue f
  raise s k n := h.raise s k n
  lamps := h.refresh

/-- The routine parts of a body are among a command's updates. -/
theorem routine : Routine P where
  pending := h.pending
  reports := h.reports
  charTime := h.charTime
  loop := h.loop
  stream s i x hx := h.stream s i x hx.bounds
  tally := h.tally
  capture := h.capture
  lot := h.lot
  book := h.book
  load := h.load
  extend := h.extend
  drop := h.drop
  complete := h.complete
  release := h.release
  hold := h.hold
  route s k r := h.alloc s { s.alloc with routes := s.alloc.routes.set k r }
  staging s i x := h.alloc s { s.alloc with staging := s.alloc.staging.set i x }
  requests s q _ := h.alloc s { s.alloc with queue := q }
  segment s g x _ := h.seg s g x
  reserve s g k c := h.kept.reserve g k c s
  releaseHolder s i g _ := h.kept.releaseHolder i g s
  bin s b x hx := h.bin s b x hx.toBinUpdate
  mgmt s m _ _ := h.mgmt s m
  judged := h.judged
  lamps := h.lamps
  tick := h.tick

end Sturdy
end Sys2Proof.Machine
end

section
/-! SUPPORT. What the routine parts of a command's body keep (`Routine`), and what the taking of reports, samples and
frames keeps besides (`Upheld`). -/

namespace Sys2Proof.Machine
theorem nextSerial_le (n : Nat) : nextSerial n ≤ 65535 := Nat.le_of_lt_succ (Nat.mod_lt _ (by decide))

/-! ## What the judging of the alert does -/

/-- Judging the alert takes its level from the event records, and may place one frame; no more (R174). -/
theorem judgeAlert_cases (s : State) :
    judgeAlert s = s.putInd { s.ind with alert := anyLive s.ind.events } ∨
    ∃ f, judgeAlert s = (s.putInd { s.ind with alert := anyLive s.ind.events }).place f := by
  unfold judgeAlert
  dsimp only
  split
  · split
    · exact Or.inr ⟨_, rfl⟩
    · exact Or.inl rfl
  · exact Or.inl rfl

/-- A property that the alert's level and a frame's placing leave true is left true by the judging. -/
theorem judgeAlert_keeps {P : State → Prop} (s : State)
    (hlevel : P (s.putInd { s.ind with alert := anyLive s.ind.events }))
    (hplace : ∀ s f, P s → P (s.place f)) : P (judgeAlert s) := by
  obtain he | ⟨f, he⟩ := judgeAlert_cases s <;> rw [he]
  · exact hlevel
  · exact hplace _ f hlevel

section
variable (s : State)

/-! ## The alert's judging -/

theorem judgeAlert_frame : judgeAlert s = { s with loop := (judgeAlert s).loop, ind := (judgeAlert s).ind } := by
  obtain h | ⟨f, h⟩ := judgeAlert_cases s <;> rw [h] <;> rfl

@[simp] theorem judgeAlert_pending : (judgeAlert s).pending = s.pending := by rw [judgeAlert_frame]
@[simp] theorem judgeAlert_agenda : (judgeAlert s).agenda = s.agenda := by rw [judgeAlert_frame]
@[simp] theorem judgeAlert_passDue : (judgeAlert s).passDue = s.passDue := by rw [judgeAlert_frame]
@[simp] theorem judgeAlert_charTime : (judgeAlert s).charTime = s.charTime := by rw [judgeAlert_frame]
@[simp] theorem judgeAlert_streams : (judgeAlert s).streams = s.streams := by rw [judgeAlert_frame]
@[simp] theorem stream_judgeAlert (j : StreamIdx) : (judgeAlert s).stream j = s.stream j := by
  rw [judgeAlert_frame]; rfl
@[simp] theorem judgeAlert_tally : (judgeAlert s).tally = s.tally := by rw [judgeAlert_frame]
@[simp] theorem tallyOf_judgeAlert (j : StreamIdx) : (judgeAlert s).tallyOf j = s.tallyOf j := by
  rw [judgeAlert_frame]; rfl
@[simp] theorem judgeAlert_lot : (judgeAlert s).lot = s.lot := by rw [judgeAlert_frame]
@[simp] theorem lotAt_judgeAlert (j : LotIdx) : (judgeAlert s).lotAt j = s.lotAt j := by
  rw [judgeAlert_frame]; rfl
@[simp] theorem judgeAlert_segs : (judgeAlert s).segs = s.segs := by rw [judgeAlert_frame]
@[simp] theorem seg_judgeAlert (j : SegIdx) : (judgeAlert s).seg j = s.seg j := by
  rw [judgeAlert_frame]; rfl
@[simp] theorem judgeAlert_alloc : (judgeAlert s).alloc = s.alloc := by rw [judgeAlert_frame]
@[simp] theorem routeAt_judgeAlert (j : RouteIdx) : (judgeAlert s).routeAt j = s.routeAt j := by
  rw [judgeAlert_frame]; rfl
@[simp] theorem stagingOf_judgeAlert (j : StreamIdx) : (judgeAlert s).stagingOf j = s.stagingOf j := by
  rw [judgeAlert_frame]; rfl
@[simp] theorem judgeAlert_bins : (judgeAlert s).bins = s.bins := by rw [judgeAlert_frame]
@[simp] theorem bin_judgeAlert (j : BinIdx) : (judgeAlert s).bin j = s.bin j := by
  rw [judgeAlert_frame]; rfl
@[simp] theorem judgeAlert_mgmt : (judgeAlert s).mgmt = s.mgmt := by rw [judgeAlert_frame]

/-! ## A raise -/

theorem raise_frame (k : EventKind) (n : Nat) :
    raise k n s = { s with loop := (raise k n s).loop, ind := (raise k n s).ind } := judgeAlert_frame _

@[simp] theorem raise_pending (k : EventKind) (n : Nat) : (raise k n s).pending = s.pending := by rw [raise_frame]
@[simp] theorem raise_agenda (k : EventKind) (n : Nat) : (raise k n s).agenda = s.agenda := by rw [raise_frame]
@[simp] theorem raise_passDue (k : EventKind) (n : Nat) : (raise k n s).passDue = s.passDue := by rw [raise_frame]
@[simp] theorem raise_charTime (k : EventKind) (n : Nat) : (raise k n s).charTime = s.charTime := by rw [raise_frame]
@[simp] theorem raise_streams (k : EventKind) (n : Nat) : (raise k n s).streams = s.streams := by rw [raise_frame]
@[simp] theorem stream_raise (k : EventKind) (n : Nat) (j : StreamIdx) : (raise k n s).stream j = s.stream j := by
  rw [raise_frame]; rfl
@[simp] theorem raise_tally (k : EventKind) (n : Nat) : (raise k n s).tally = s.tally := by rw [raise_frame]
@[simp] theorem tallyOf_raise (k : EventKind) (n : Nat) (j : StreamIdx) : (raise k n s).tallyOf j = s.tallyOf j := by
  rw [raise_frame]; rfl
@[simp] theorem raise_lot (k : EventKind) (n : Nat) : (raise k n s).lot = s.lot := by rw [raise_frame]
@[simp] theorem lotAt_raise (k : EventKind) (n : Nat) (j : LotIdx) : (raise k n s).lotAt j = s.lotAt j := by
  rw [raise_frame]; rfl
@[simp] theorem raise_segs (k : EventKind) (n : Nat) : (raise k n s).segs = s.segs := by rw [raise_frame]
@[simp] theorem seg_raise (k : EventKind) (n : Nat) (j : SegIdx) : (raise k n s).seg j = s.seg j := by
  rw [raise_frame]; rfl
@[simp] theorem raise_alloc (k : EventKind) (n : Nat) : (raise k n s).alloc = s.alloc := by rw [raise_frame]
@[simp] theorem routeAt_raise (k : EventKind) (n : Nat) (j : RouteIdx) : (raise k n s).routeAt j = s.routeAt j := by
  rw [raise_frame]; rfl
@[simp] theorem stagingOf_raise (k : EventKind) (n : Nat) (j : StreamIdx) :
    (raise k n s).stagingOf j = s.stagingOf j := by
  rw [raise_frame]; rfl
@[simp] theorem raise_bins (k : EventKind) (n : Nat) : (raise k n s).bins = s.bins := by rw [raise_frame]
@[simp] theorem bin_raise (k : EventKind) (n : Nat) (j : BinIdx) : (raise k n s).bin j = s.bin j := by
  rw [raise_frame]; rfl
@[simp] theorem raise_mgmt (k : EventKind) (n : Nat) : (raise k n s).mgmt = s.mgmt := by rw [raise_frame]

theorem stream_sendPermit (i : StreamIdx) (feed : Bool) (j : StreamIdx) :
    (sendPermit i feed s).stream j = s.stream j := by
  unfold sendPermit
  split <;> rfl

end

/-- The entry that takes a booking holds a lot that takes it. -/
theorem takes_of_bookingLot {s : State} {n : Nat} {b : BinIdx} {k : LotIdx} (hk : bookingLot s n b = some k) :
    ∃ l, s.lotAt k = some l ∧ l.takes b = true := by
  unfold bookingLot at hk
  split at hk
  · cases hk
  · split at hk
    next l hl =>
      split at hk
      next ht =>
        cases hk
        exact ⟨l, hl, ht⟩
      next => cases hk
    next => cases hk

namespace Routine

variable {P : State → Prop} (h : Routine P)
include h

/-! ## Bins -/

theorem judgeBin (b : BinIdx) (s : State) (hs : P s) : P (judgeBin b s) := by
  unfold Machine.judgeBin
  split
  · exact hs
  next c _ =>
    have h1 : P (refreshLamps ((if ((s.bin b).formLevels c).nearFull = (s.bin b).nearFull then s
        else s.occasion).putBin b ((s.bin b).formLevels c))) := by
      apply h.refresh
      split
      · exact h.bin _ _ _ (.formLevels _ _) hs
      · exact h.bin _ _ _ (.formLevels _ _) (h.occasion _ hs)
    dsimp only
    split
    · exact h1
    · apply h.emit
      have hform := BinStep.formLevels (s.bin b) c
      obtain ⟨hfill, havail⟩ := judgedState_cases (s.bin b) c
      have hstate : ((s.bin b).formLevels c).state = (s.bin b).state := repoll_state _ _
      have h2 : P ((refreshLamps ((if ((s.bin b).formLevels c).nearFull = (s.bin b).nearFull then s
          else s.occasion).putBin b ((s.bin b).formLevels c))).putBin b
            (((s.bin b).formLevels c).withState ((s.bin b).judgedState c))) := by
        refine h.bin _ _ _ ?_ h1
        rw [bin_refreshLamps, State.bin_putBin_self]
        refine BinStep.withState ?_ ?_ <;> rw [hstate, hform.gateCarrying]
        · exact hfill
        · exact fun ha => (havail ha).imp_right Or.inl
      split
      · exact h.raise _ _ _ h2
      · exact h2

theorem setClass (b : BinIdx) (c : Nat) (s : State) (hs : P s) : P (setClass b c s) := by
  unfold Machine.setClass
  split
  · exact hs
  · exact h.emit _ _ (h.bin _ _ _ {} hs)

theorem emptinessTest (b : BinIdx) (s : State) (hs : P s) : P (emptinessTest b s) := by
  have h1 : P (s.putBin b { s.bin b with fill := 0, cls := none }) :=
    h.bin _ _ _ { fill := fun _ => Nat.zero_le _ } hs
  unfold Machine.emptinessTest
  dsimp only
  split
  · have h2 : P (if (s.bin b).cls = none then s.putBin b { s.bin b with fill := 0, cls := none }
        else (s.putBin b { s.bin b with fill := 0, cls := none }).emit (.bin b)) := by
      split
      · exact h1
      · exact h.emit _ _ h1
    split
    · exact h2
    · exact h.judgeBin _ _ h2
  · exact hs

theorem pollDue (b : BinIdx) (s : State) (hs : P s) : P (pollDue b s) := by
  unfold Machine.pollDue
  dsimp only
  split
  · exact hs
  · split
    · split
      · split
        · exact h.bin _ _ _ {} hs
        · exact h.place _ _ (h.bin _ _ _ {} hs)
      · exact h.bin _ _ _ {} hs
    · exact h.bin _ _ _ {} hs

theorem replyMissed (b : BinIdx) (s : State) (hs : P s) : P (replyMissed b s) := by
  unfold Machine.replyMissed
  dsimp only
  split
  · split
    · split
      next hlt => exact h.bin _ _ _ { misses := fun _ => Nat.le_of_lt (Nat.succ_lt_succ hlt) } hs
      next => exact h.judgeBin _ _ (h.raise _ _ _ (h.bin _ _ _ { misses := fun _ => le_rfl } hs))
    · exact h.bin _ _ _ { misses := fun _ => Nat.min_le_left _ _ } hs
  · exact h.bin _ _ _ {} hs

theorem levelReported (a l : Nat) (s : State) (hs : P s) : P (levelReported a l s) := by
  unfold Machine.levelReported
  split
  · exact hs
  · dsimp only
    refine h.judgeBin _ _ (h.emptinessTest _ _ (h.bin _ _ _ ?_ hs))
    split <;> exact { misses := fun _ => Nat.zero_le _ }

theorem addFill (b : BinIdx) (g : Nat) (s : State) (hs : P s) : P (addFill b g s) := by
  unfold Machine.addFill
  split
  · exact hs
  · exact h.judgeBin _ _ (h.bin _ _ _ { fill := fun _ => satAdd_le _ _ } hs)

theorem emptyBin (b : BinIdx) (s : State) (hgate : (s.bin b).gateReserved = false) (hs : P s) : P (emptyBin b s) := by
  unfold Machine.emptyBin
  dsimp only
  apply h.judgeBin
  have h2 : P (s.putBin b (match { s.bin b with
        fill := 0, cls := none, gaugeLevel := none, state := .available }.period with
      | some _ => { s.bin b with fill := 0, cls := none, gaugeLevel := none, state := .available
                                 pollOutstanding := false, replyTimer := none, pollTimer := some 0 }
      | none => { s.bin b with fill := 0, cls := none, gaugeLevel := none, state := .available })) := by
    refine h.bin _ _ _ ?_ hs
    split <;>
      exact { fill := fun _ => Nat.zero_le _, filling := nofun, available := fun _ => Or.inr (Or.inr hgate) }
  split
  · exact h2
  · exact h.emit _ _ h2

theorem serviceOut (b : BinIdx) (s : State) (hs : P s) : P (serviceOut b s) := by
  unfold Machine.serviceOut
  dsimp only
  split
  · exact hs
  · exact h.emit _ _ (h.bin _ _ _ (.withState nofun nofun) hs)

theorem serviceIn (b : BinIdx) (s : State) (hs : P s) : P (serviceIn b s) := by
  refine h.judgeBin _ _ (h.emit _ _ (h.bin _ _ _ (.withState ?_ ?_) hs))
  · split
    next hg => exact fun _ => Or.inr hg
    next => exact nofun
  · split
    next => exact nofun
    next hg => exact fun _ => Or.inr (Or.inl (Bool.eq_false_iff.mpr hg))

theorem storeBinConfig (b : BinIdx) (c : BinConfig) (hc : c.Ordered) (s : State) (hs : P s) :
    P (storeBinConfig b c s) := by
  have hconfig : ∀ d, some c = some d → d.Ordered := fun d hd => Option.some.inj hd ▸ hc
  unfold Machine.storeBinConfig
  dsimp only
  refine h.emit _ _ (h.judgeBin _ _ (h.bin _ _ _ ?_ hs))
  split
  · exact { config := fun _ => hconfig }
  · exact { misses := fun _ => Nat.zero_le _, config := fun _ => hconfig }

theorem clearBinConfig (b : BinIdx) (s : State) (hs : P s) : P (clearBinConfig b s) :=
  h.emit _ _ (h.bin _ _ _
    { misses := fun _ => Nat.zero_le _, config := fun _ => nofun, filling := nofun, available := nofun } hs)

/-! ## Segments and requests -/

theorem releaseSeg (i : StreamIdx) (g : SegIdx) (s : State) (hs : P s) : P (releaseSeg i g s) := by
  unfold Machine.releaseSeg
  dsimp only
  split
  next hheld =>
    have h1 := h.releaseHolder s i g hheld hs
    split
    next hd =>
      have hdraining := of_decide_eq_true (Bool.and_eq_true_iff.mp hd).2
      exact h.stream _ _ _ { drain := fun _ => Or.inr hdraining } h1
    · exact h1
  next => exact hs

theorem releaseRoute (i : StreamIdx) (r : RouteIdx) (s : State) (hs : P s) : P (releaseRoute i r s) :=
  Kept.foldl _ (fun s _ => h.releaseSeg i _ s) _ s hs

theorem releaseGrant (q : Request) (s : State) (hs : P s) : P (releaseGrant q s) := by
  unfold Machine.releaseGrant
  split
  · exact h.releaseRoute _ _ s hs
  · exact hs

theorem removeRequest (i : StreamIdx) (s : State) (hs : P s) : P (removeRequest i s) := by
  unfold Machine.removeRequest
  split
  · exact hs
  · exact h.occasion _ (h.requests _ _ (List.filter_sublist.map _) (h.releaseGrant _ s hs))

/-- A request changed in its place stays the request of its stream. -/
theorem modRequest (i : StreamIdx) (f : Request → Request) (hf : ∀ q, (f q).stream = q.stream) (s : State) (hs : P s) :
    P (s.modRequest i f) := by
  have hsame : (s.alloc.queue.map fun q => if q.stream = i then f q else q).map (·.stream) =
      s.alloc.queue.map (·.stream) := by
    rw [List.map_map]
    refine List.map_congr_left fun q _ => ?_
    simp only [Function.comp]
    split
    · exact hf q
    · rfl
  exact h.requests _ _ (hsame ▸ List.Sublist.refl _) hs

theorem dropStaging (i : StreamIdx) (s : State) (hs : P s) : P (dropStaging i s) := by
  unfold Machine.dropStaging
  split
  · exact hs
  · exact h.occasion _ (h.staging _ _ _ (Kept.foldl _ (fun s _ => h.releaseSeg i _ s) _ s hs))

theorem loseStaged (i : StreamIdx) (g : SegIdx) (s : State) (hs : P s) : P (loseStaged i g s) := by
  unfold Machine.loseStaged
  split
  · exact hs
  · exact h.staging _ _ _ hs

theorem sendPermit (i : StreamIdx) (f : Bool) (s : State) (hs : P s) : P (sendPermit i f s) := by
  unfold Machine.sendPermit
  split
  · exact h.place _ _ hs
  · exact hs

theorem preemptSeg (g : SegIdx) (s : State) (hs : P s) : P (preemptSeg g s) :=
  Kept.foldl _ (fun s _ hs => h.loseStaged _ g _ (h.releaseSeg _ g s hs)) _ s hs

theorem stageStep (i : StreamIdx) (n c : Nat) (st : Step) (s : State) (hs : P s) : P (stageStep i n c st s) := by
  unfold Machine.stageStep
  split
  · exact hs
  · split
    · refine h.staging _ _ _ (h.reserve _ _ _ _ ?_)
      split
      · exact h.setClass _ _ s hs
      · exact hs
    · exact hs

theorem stageRecord (i : StreamIdx) (x : Staging) (s : State) (hs : P s) : P (stageRecord i x s) := by
  unfold Machine.stageRecord
  have h1 : ∀ y, P (s.putStaging i y) := fun y => h.staging s i y hs
  dsimp only
  split
  · split
    · exact Kept.foldl _ (fun s _ => h.stageStep i _ _ _ s) _ _ (h1 _)
    · exact h1 _
  · exact h1 _

theorem stagingCheck (i : StreamIdx) (s : State) (hs : P s) : P (stagingCheck i s) := by
  unfold Machine.stagingCheck
  split
  · split
    · split
      · exact h.stageRecord i _ s hs
      · exact h.dropStaging i s hs
    · exact h.dropStaging i s hs
    · exact h.stageRecord i _ s hs
    · exact hs
  · exact hs

theorem retargetLot (n : Nat) (b : Option BinIdx) (s : State) (hs : P s) : P (retargetLot n b s) := by
  refine Kept.foldl _ (fun s q hs => ?_) _ s hs
  split
  · exact h.occasion _ (h.modRequest _ _ (by exact fun _ => rfl) _ (h.releaseGrant q s hs))
  · exact h.removeRequest _ s hs

/-! ## Lots -/

theorem setCurrent (k : LotIdx) (l : Lot) (p : Option Nat) (s : State) (hl : s.lotAt k = some l) (hs : P s) :
    P (setCurrent k l p s) := h.emit _ _ (h.lot s k l _ hl ⟨rfl, rfl, rfl, rfl⟩ hs)

theorem chooseCurrent (k : LotIdx) (s : State) (hs : P s) : P (chooseCurrent k s) := by
  unfold Machine.chooseCurrent
  split
  · exact hs
  next l hl =>
    split
    · exact h.setCurrent k l _ s hl hs
    · exact hs

theorem moveCurrent (k : LotIdx) (s : State) (hs : P s) : P (moveCurrent k s) := by
  unfold Machine.moveCurrent
  split
  · exact hs
  next l hl =>
    split
    · exact h.setCurrent k l _ s hl hs
    · exact h.chooseCurrent k s hs

theorem examineLots (b : BinIdx) (n : Nat) (s : State) (hs : P s) : P (examineLots b n s) := by
  unfold Machine.examineLots
  split
  · exact hs
  · exact h.emit _ _ (h.moveCurrent _ s hs)

theorem completionTest (k : LotIdx) (s : State) (hs : P s) : P (completionTest k s) := by
  unfold Machine.completionTest
  split
  · exact hs
  next l hl =>
    split
    · split
      next hroom => exact h.raise _ _ _ (h.complete s k l hl hroom hs)
      next =>
        split
        · exact hs
        · exact h.raise _ _ _ (h.lot s k l _ hl ⟨rfl, rfl, rfl, rfl⟩ hs)
    · exact hs

theorem openLotAt (k : LotIdx) (s : State) (hs : P s) : P (openLotAt k s) := by
  unfold Machine.openLotAt
  split
  next l hl => exact h.chooseCurrent _ _ (h.lot _ _ l _ hl ⟨rfl, rfl, rfl, rfl⟩ hs)
  next => exact hs

theorem overrunAfterBooking (k : LotIdx) (s : State) (hs : P s) : P (overrunAfterBooking k s) := by
  unfold Machine.overrunAfterBooking
  split
  · exact hs
  next l hl =>
    split
    · exact h.raise _ _ _ (h.lot _ _ l _ hl ⟨rfl, rfl, rfl, rfl⟩ hs)
    · exact hs

theorem overrunAfterWrite (k : LotIdx) (s : State) (hs : P s) : P (overrunAfterWrite k s) := by
  unfold Machine.overrunAfterWrite
  split
  · exact hs
  next l hl => exact h.overrunAfterBooking _ _ (h.lot _ _ l _ hl ⟨rfl, rfl, rfl, rfl⟩ hs)

theorem extendLot (k : LotIdx) (l : Lot) (r : LotRecord) (s : State) (hl : s.lotAt k = some l) (hr : r.bins.Nodup)
    (hc : r.continues l = true) (hs : P s) : P (extendLot k r s) := by
  have h1 := h.extend s k l r hl hr hc hs
  unfold Machine.extendLot
  rw [hl]
  dsimp only
  apply h.chooseCurrent
  split
  · exact h1
  · exact h.overrunAfterWrite _ _ h1

theorem bookLot (k : LotIdx) (l : Lot) (b : BinIdx) (g : Nat) (c : Bool) (s : State) (hl : s.lotAt k = some l)
    (ht : l.takes b = true) (hs : P s) : P (bookLot k b g c s) := by
  unfold Machine.bookLot
  rw [hl]
  exact h.overrunAfterBooking _ _ (h.book s k l b g c hl ht hs)

theorem addUnassigned (i : StreamIdx) (g : Nat) (s : State) (hs : P s) : P (addUnassigned i g s) := by
  unfold Machine.addUnassigned
  dsimp only
  split
  · exact h.raise _ _ _
      (h.stream _ _ _ { bounds := fun hx => ⟨satAdd_le _ _, satAdd_le _ _, hx.missed, hx.discarded⟩ } hs)
  · exact h.stream _ _ _ { bounds := fun hx => ⟨satAdd_le _ _, satAdd_le _ _, hx.missed, hx.discarded⟩ } hs

theorem bookOrKeep (i : StreamIdx) (lot : Option Nat) (bin : Option BinIdx) (g : Nat) (c : Bool) (s : State)
    (hs : P s) : P (bookOrKeep i lot bin g c s) := by
  unfold Machine.bookOrKeep
  split
  · split
    next k hk =>
      obtain ⟨l, hl, ht⟩ := takes_of_bookingLot hk
      exact h.addFill _ _ _ (h.bookLot k l _ _ _ s hl ht hs)
    next => exact h.addUnassigned _ _ _ hs
  · exact h.addUnassigned _ _ _ hs

theorem enterClosing (k : LotIdx) (l : Lot) (c : CloseKind) (s : State) (hl : s.lotAt k = some l) (hs : P s) :
    P (enterClosing k l c s) := h.lot _ _ l _ hl ⟨rfl, rfl, rfl, rfl⟩ hs

theorem releaseOutturnOf (n : Nat) (s : State) (hs : P s) : P (releaseOutturnOf n s) := by
  have h1 := h.release s (·.number != n) hs
  unfold Machine.releaseOutturnOf
  dsimp only
  split
  · exact h.completionTest _ _ h1
  · exact h1

/-! ## Tally and samples -/

theorem countOverRange (i : StreamIdx) (s : State) (hs : P s) : P (countOverRange i s) :=
  h.raise _ _ _ (h.tally _ _ _ { bounds := fun hx => ⟨hx.residue, hx.serial, countUp_le _ _, hx.jumpCount⟩ } hs)

theorem countRateJump (i : StreamIdx) (s : State) (hs : P s) : P (countRateJump i s) :=
  h.raise _ _ _ (h.tally _ _ _ { bounds := fun hx => ⟨hx.residue, hx.serial, hx.overCount, countUp_le _ _⟩ } hs)

/-- The residue of a division is below the divisor (R59). -/
theorem divided (s : State) (i : StreamIdx) (k : Calibration) (c t : Nat) (hs : P s) :
    P (s.modTally i fun x => { x with residue := residueAfter k x.residue c t }) :=
  h.tally _ _ _ { bounds := fun hx => ⟨residueAfter_lt _ _ _ _, hx.serial, hx.overCount, hx.jumpCount⟩ } hs

theorem tallyEffects (i : StreamIdx) (k : Calibration) (f : SampleFields) (m : Measured) (s : State) (hs : P s) :
    P (tallyEffects i k f m s) := by
  unfold Machine.tallyEffects
  dsimp only
  refine h.stream _ _ _ {} (h.divided _ _ _ _ _ ?_)
  have h1 : P (if isOverRange k m then Machine.countOverRange i s else s) := by
    split
    · exact h.countOverRange _ _ hs
    · exact hs
  split
  · exact h.countRateJump _ _ h1
  · exact h1

theorem bookSample (i : StreamIdx) (g : Nat) (c : Bool) (s : State) (hs : P s) : P (bookSample i g c s) := by
  have h1 : P (if c then s else s.modStream i fun x => { x with certifiedSinceRead := false }) := by
    split
    · exact hs
    · exact h.stream _ _ _ {} hs
  unfold Machine.bookSample
  dsimp only
  split
  · exact h.bookOrKeep _ _ _ _ _ _ h1
  · exact h.addUnassigned _ _ _ h1

theorem acceptSuspectRecord (i : StreamIdx) (r : Suspect) (s : State) (hs : P s) :
    P (acceptSuspectRecord i r s) := by
  have h1 : P (s.modStream i fun x => { x with certifiedSinceRead := false }) := h.stream _ _ _ {} hs
  unfold Machine.acceptSuspectRecord
  dsimp only
  split
  · exact h.bookOrKeep _ _ _ _ _ _ h1
  · exact h.bookOrKeep _ _ _ _ _ _ (h.divided _ _ _ _ _ h1)

/-! ## Frames -/

theorem badFrame (s : State) (hs : P s) : P (badFrame s) := by
  have h1 : P (s.putLoop { s.loop with crc := countUp s.loop.crc 1 }) :=
    h.loop _ _ (fun hl => { hl with crc := countUp_le _ _ }) hs
  unfold Machine.badFrame
  dsimp only
  split
  · exact h.raise _ _ _ h1
  · exact h1

theorem manageReceived (f : MFrame) (s : State) (hs : P s) : P (manageReceived f s) := by
  unfold Machine.manageReceived
  dsimp only
  split
  next hroom =>
    have hlen : (s.mgmt.input ++ [f]).length ≤ inputRoom := by simpa using hroom
    refine h.mgmt _ _ ?_ ?_ (fun hm => ?_) hs
    · split
      · rfl
      · exact takeFrame_unlock _
    · split
      · rfl
      · exact takeFrame_calen _
    split
    next y hy => exact ⟨hlen, fun hn => absurd (hy.symm.trans hn) (Option.some_ne_none _)⟩
    next => exact Management.Law.takeFrame hlen
  next =>
    exact h.loop _ _ (fun hl => { hl with mgmtDrop := countUp_le _ _ })
      (h.mgmt _ _ rfl rfl (fun hm => ⟨hm.input, hm.inHand⟩) hs)

end Routine

namespace Upheld

variable {P : State → Prop} (h : Upheld P)
include h

/-! ## Evaluation passes and activation (R114 to R117) -/

theorem tryActivate (i : StreamIdx) (s : State) (hs : P s) : P (tryActivate i s) := by
  unfold Machine.tryActivate
  split
  · exact hs
  next q hq =>
    split
    next r hr =>
      split
      next hcan => exact h.activate s i q r hq hr hcan hs
      next => exact hs
    next => exact hs

theorem grant (q : Request) (r : RouteIdx) (c : Nat) (s : State) (hs : P s) : P (grant q r c s) :=
  h.tryActivate _ _ (h.modRequest _ _ (by exact fun _ => rfl) _
    (Kept.foldl _ (fun s _ => h.reserve s _ _ _) _ _ (h.setClass _ _ s hs)))

theorem grantOrPreempt (q : Request) (r : RouteIdx) (l : Lot) (bl : List SegIdx) (s : State) (hs : P s) :
    P (grantOrPreempt q r l bl s).1 := by
  unfold Machine.grantOrPreempt
  dsimp only
  split
  · exact h.grant q r _ s hs
  · split
    · exact Kept.foldl _ (fun s _ => h.preemptSeg _ s) _ s hs
    · exact hs

theorem tryGrant (q : Request) (bl : List SegIdx) (s : State) (hs : P s) : P (tryGrant q bl s).1 := by
  unfold Machine.tryGrant
  split
  · split
    · exact h.grantOrPreempt q _ _ bl s hs
    · exact hs
  · exact hs

omit h in
theorem routed_stream (s : State) (q : Request) : (q.routed s).stream = q.stream := by
  unfold Request.routed
  split <;> rfl

theorem evaluateRequest (i : StreamIdx) (p : State × List SegIdx) (hs : P p.1) : P (evaluateRequest i p).1 := by
  unfold Machine.evaluateRequest
  split
  · exact hs
  next q hq =>
    split
    · exact hs
    · have hi : q.stream = i := by simpa using List.find?_some hq
      refine h.tryGrant _ _ _ (h.requests _ _ ?_ hs)
      have hsame : (p.1.alloc.queue.map fun y => if y.stream = i then q.routed p.1 else y).map (·.stream) =
          p.1.alloc.queue.map (·.stream) := by
        rw [List.map_map]
        refine List.map_congr_left fun y _ => ?_
        simp only [Function.comp]
        split
        next hy => rw [routed_stream, hi, hy]
        next => rfl
      exact hsame ▸ List.Sublist.refl _

theorem evaluateRequests (s : State) (hs : P s) : P (evaluateRequests s) :=
  List.foldlRecOn (motive := fun p => P p.1) s.alloc.queue _ (b := (s, [])) hs
    fun p hp q _ => h.evaluateRequest q.stream p hp

theorem evaluationPass (s : State) (hs : P s) : P (evaluationPass s) :=
  Kept.forEach _ (fun i s => h.stagingCheck i s) _ (h.evaluateRequests s hs)

/-! ## Reports -/

theorem changeStream (n : Nat) (b : Option BinIdx) (i : StreamIdx) (s : State) (hs : P s) :
    P (changeStream n b i s) := by
  unfold Machine.changeStream
  split
  next hfeeding =>
    split
    · split
      next hhit => exact h.carryHit s i _ _ _ hfeeding.1 hhit hs
      next => exact h.enterDraining _ i (by rw [stream_raise]; exact hfeeding.1) (h.raise _ _ _ hs)
    · exact h.addReason _ i _ nofun (h.raise _ _ _ hs)
  next => exact hs

theorem noteCurrentBin (n : Nat) (b : Option BinIdx) (i : StreamIdx) (s : State) (hs : P s) :
    P (noteCurrentBin n b i s) := by
  unfold Machine.noteCurrentBin
  dsimp only
  split
  · split
    · exact h.removeReason s i _ nofun hs
    · exact hs
  · split
    · exact h.addReason s i _ nofun hs
    · exact hs

theorem currentBinChanged (n : Nat) (b : Option BinIdx) (s : State) (hs : P s) : P (currentBinChanged n b s) :=
  h.emit _ _ (Kept.forEach _ (fun i s => h.noteCurrentBin n b i s) _
    (h.retargetLot n b _ (Kept.forEach _ (fun i s => h.changeStream n b i s) _ hs)))

theorem faultOnStream (g : SegIdx) (i : StreamIdx) (s : State) (hs : P s) : P (faultOnStream g i s) := by
  unfold Machine.faultOnStream
  dsimp only
  split
  · refine h.addReason _ i (.segment g) nofun ?_
    split
    · exact h.stream _ _ _ { drain := nofun } hs
    · exact hs
  · exact hs

theorem faultOnRequest (g : SegIdx) (q : Request) (s : State) (hs : P s) : P (faultOnRequest g q s) := by
  unfold Machine.faultOnRequest
  split
  · split
    · exact h.addReason _ _ _ nofun (h.modRequest _ _ (by exact fun _ => rfl) _ (h.releaseGrant q s hs))
    · exact hs
  · exact hs

theorem segmentFaulted (g : SegIdx) (s : State) (hs : P s) : P (segmentFaulted g s) :=
  h.occasion _ (Kept.forEach _ (fun i s => h.loseStaged i g s) _
    (Kept.foldl _ (fun s q => h.faultOnRequest g q s) _ _ (Kept.forEach _ (fun i s => h.faultOnStream g i s) _ hs)))

theorem segmentCleared (g : SegIdx) (s : State) (hs : P s) : P (segmentCleared g s) :=
  h.occasion _ (Kept.forEach _ (fun i s => h.removeReason s i (.segment g) nofun) _ hs)

theorem flushEnded (g : SegIdx) (s : State) (hs : P s) : P (flushEnded g s) := by
  refine Kept.forEach _ (fun i s hs => ?_) _ hs
  split
  next hdraining => exact h.endDraining s i hdraining.1 hs
  next => exact hs

theorem segmentReady (g : SegIdx) (s : State) (hs : P s) : P (segmentReady g s) := by
  refine Kept.foldl _ (fun s q hs => ?_) _ s hs
  split
  · split
    · exact h.tryActivate _ s hs
    · exact hs
  · exact hs

theorem passUnlessRestarting (s : State) (hs : P s) : P (passUnlessRestarting s) := by
  have h1 := h.reports s s.agenda false hs
  unfold Machine.passUnlessRestarting
  dsimp only
  split
  · exact h1
  · exact h.evaluationPass _ h1

theorem takeReport (r : Report) (s : State) (hs : P s) : P (takeReport r s) := by
  cases r with
  | bin b => exact h.emit _ _ (h.occasion _ hs)
  | examineLots b n => exact h.examineLots b n s hs
  | currentBin n b => exact h.currentBinChanged n b s hs
  | ready g => exact h.segmentReady g s hs
  | endOfFlush g => exact h.flushEnded g s hs
  | faulted g => exact h.segmentFaulted g s hs
  | cleared g => exact h.segmentCleared g s hs
  | pass =>
    show P (if _ then _ else _)
    split
    · exact h.emit _ _ (h.passUnlessRestarting s hs)
    · exact hs
  | passNow => exact h.emit _ _ (h.passUnlessRestarting s hs)

theorem takeNext (s : State) (hs : P s) : P (takeNext s) := by
  unfold Machine.takeNext
  split
  · exact hs
  · exact h.reports _ _ _ (h.takeReport _ _ (h.reports s [] s.passDue hs))

theorem settle (n : Nat) (s : State) (hs : P s) : P (settle n s) := by
  induction n generalizing s with
  | zero => exact hs
  | succ n ih =>
    unfold Machine.settle
    split
    · exact hs
    · exact ih _ (h.takeNext s hs)

theorem settled (s : State) (hs : P s) : P (settled s) := h.refresh _ (h.settle _ _ (h.emit _ _ hs))

/-! ## Segments -/

theorem posrepReceived (a q : Nat) (s : State) (hs : P s) : P (posrepReceived a q s) := by
  unfold Machine.posrepReceived
  split
  · exact h.judgeReport _ _ _ (h.segment _ _ _ rfl hs)
  · exact hs

theorem travelExpired (g : SegIdx) (s : State) (hs : P s) : P (travelExpired g s) := by
  unfold Machine.travelExpired
  dsimp only
  split
  · exact hs
  · split
    case h_1 hst | h_2 hst | h_3 hst => exact h.faultSeg s g (by rw [hst]; exact nofun) hs
    case h_4 => exact h.segment _ _ _ rfl hs

theorem flushExpired (g : SegIdx) (s : State) (hs : P s) : P (flushExpired g s) := by
  unfold Machine.flushExpired
  dsimp only
  split
  · exact hs
  · split
    next hst => exact h.endFlush s g hst hs
    next => exact h.segment _ _ _ rfl hs

/-! ## Lots and streams -/

theorem closeStream (n : Nat) (i : StreamIdx) (s : State) (hs : P s) : P (closeStream n i s) := by
  unfold Machine.closeStream
  dsimp only
  split
  · split
    next hst => exact h.enterDraining s i hst hs
    next hst => exact h.withdraw s i hst hs
    next => exact hs
  · exact hs

theorem freeHeldFor (n : Nat) (i : StreamIdx) (s : State) (hs : P s) : P (freeHeldFor n i s) := by
  unfold Machine.freeHeldFor
  split
  · exact h.removeReason s i _ nofun hs
  · exact hs

theorem closeLotAt (k : LotIdx) (s : State) (hs : P s) : P (closeLotAt k s) := by
  unfold Machine.closeLotAt
  split
  · exact hs
  next l hl =>
    have h1 := fun c => h.enterClosing k l c s hl hs
    refine Kept.forEach _ (fun i s => h.freeHeldFor _ i s) _ (Kept.forEach _ (fun i s => h.closeStream _ i s) _
      (Kept.foldl _ (fun s q => h.removeRequest _ s) _ _ ?_))
    split
    · exact h.completionTest _ _ (h1 _)
    · exact h1 _

theorem silenceExpired (i : StreamIdx) (s : State) (hs : P s) : P (silenceExpired i s) := by
  unfold Machine.silenceExpired
  dsimp only
  split
  · exact hs
  · have h1 : P (s.putStream i { s.stream i with silence := none }) := h.stream s i _ { silence := nofun } hs
    split
    · exact h.raise _ _ _ (h.addReason _ _ _ nofun h1)
    · exact h1

theorem permitExpired (i : StreamIdx) (s : State) (hs : P s) : P (permitExpired i s) := by
  unfold Machine.permitExpired
  dsimp only
  split
  · exact hs
  next ms hms =>
    split
    · refine h.stream _ _ _ { permit := Or.inl ?_ } (h.sendPermit i true s hs)
      rw [stream_sendPermit, hms]
      rfl
    next hst => exact h.stream _ _ _ { permit := Or.inr ⟨rfl, hst⟩ } hs

theorem drainExpired (i : StreamIdx) (s : State) (hs : P s) : P (drainExpired i s) := by
  unfold Machine.drainExpired
  dsimp only
  split
  · exact hs
  · split
    next hst => exact h.endDraining _ _ hst hs
    next => exact h.stream _ _ _ { drain := nofun } hs

/-! ## Samples -/

theorem captureCause (i : StreamIdx) (c : Option AbortCause) (s : State) (hs : P s) : P (captureCause i c s) := by
  unfold Machine.captureCause
  split
  · split
    · exact h.endCapture _ _ hs
    · exact hs
  · exact hs

theorem captureSample (i : StreamIdx) (m : Measured) (s : State) (hs : P s) : P (captureSample i m s) := by
  unfold Machine.captureSample
  split
  · exact hs
  next c hc =>
    split
    · dsimp only
      split
      · exact h.completeCapture s c _ hc rfl hs
      · exact h.capture s c _ hc rfl hs
    · exact hs

theorem tallyStep (i : StreamIdx) (f : SampleFields) (m : Measured) (s : State) (hs : P s) : P (tallyStep i f m s) := by
  unfold Machine.tallyStep
  dsimp only
  split
  · exact h.stream _ _ _ {} hs
  · split
    · exact h.grossSample s i f m hs
    · exact h.bookSample _ _ _ _ (h.captureSample _ _ _ (h.tallyEffects _ _ _ _ _ hs))

theorem primeSample (i : StreamIdx) (f : SampleFields) (s : State) (hs : P s) : P (primeSample i f s) :=
  h.examineSteps _ _ _ (h.stream _ _ _ {} (h.captureCause _ _ _ hs))

theorem acceptSample (i : StreamIdx) (f : SampleFields) (m : Measured) (s : State) (hs : P s) :
    P (acceptSample i f m s) :=
  h.stream _ _ _ {} (h.tallyStep _ _ _ _ (h.examineSteps _ _ _ (h.captureCause _ _ _
    (h.stream _ _ _ { bounds := fun hx => ⟨hx.unassigned, hx.sinceRead, countUp_le _ _, hx.discarded⟩ } hs))))

theorem streamSample (i : StreamIdx) (f : SampleFields) (s : State) (hs : P s) : P (streamSample i f s) := by
  unfold Machine.streamSample
  split
  · exact h.primeSample _ _ _ hs
  · split
    · exact h.primeSample _ _ _ hs
    · split
      · exact h.acceptSample _ _ _ _ hs
      · exact h.stream _ _ _ { bounds := fun hx => ⟨hx.unassigned, hx.sinceRead, hx.missed, countUp_le _ _⟩ } hs

theorem examineSample (src : Byte) (f : SampleFields) (s : State) (hs : P s) : P (examineSample src f s) := by
  unfold Machine.examineSample Machine.sampleExamined
  split
  · exact hs
  · split
    · exact h.streamSample _ _ _ hs
    · exact hs

/-! ## Frames -/

theorem consume (f : Frame) (s : State) (hs : P s) : P (consume f s) := by
  unfold Machine.consume
  split
  · exact h.levelReported _ _ _ hs
  · split
    · exact h.posrepReceived _ _ _ hs
    · split
      · split
        · exact h.manageReceived _ _ hs
        · exact hs
      · exact hs

theorem receiveGood (f : Frame) (s : State) (hs : P s) : P (receiveGood f s) := by
  have h1 := h.forward s f hs
  unfold Machine.receiveGood
  split
  · exact hs
  · split
    · exact h.consume _ _ hs
    · split
      · split
        · exact h.examineSample _ _ _ h1
        · exact h1
      · exact h1

end Upheld
end Sys2Proof.Machine
end

section
/-! SUPPORT. What every request's answer, every command and every step keeps (`Upheld`). -/

namespace Sys2Proof.Machine

/-! ## Records that pass their tests -/

theorem clamp_le {lo hi : Nat} (h : lo ≤ hi) (n : Nat) : clamp lo hi n ≤ hi := max_le h (min_le_left _ _)

theorem le_clamp (lo hi n : Nat) : lo ≤ clamp lo hi n := le_max_left _ _

theorem setting_le {d lo hi : Nat} (hd : d ≤ hi) (h : lo ≤ hi) (o : Option Nat) : setting d lo hi o ≤ hi := by
  cases o with
  | none => exact hd
  | some n => exact clamp_le h n

theorem le_setting {d lo : Nat} (hd : lo ≤ d) (hi : Nat) (o : Option Nat) : lo ≤ setting d lo hi o := by
  cases o with
  | none => exact hd
  | some n => exact le_clamp lo hi n

/-- Each threshold is clamped below the one before it (R130). -/
theorem binConfigClamped_ordered (w : BinConfigWrite) (n : Nat) : (binConfigClamped w n).Ordered := by
  have hhi : setting 950 3 1000 w.high ≤ 1000 := setting_le (by decide) (by decide) _
  have hlo : 3 ≤ setting 950 3 1000 w.high := le_setting (by decide) _ _
  have hpre := clamp_le (show 2 ≤ setting 950 3 1000 w.high by omega) (w.preStage.getD 880)
  have hpre2 := le_clamp 2 (setting 950 3 1000 w.high) (w.preStage.getD 880)
  have hres := clamp_le (show 1 ≤ clamp 2 (setting 950 3 1000 w.high) (w.preStage.getD 880) - 1 by omega)
    (w.resume.getD 800)
  have hres1 := le_clamp 1 (clamp 2 (setting 950 3 1000 w.high) (w.preStage.getD 880) - 1) (w.resume.getD 800)
  have hemp := clamp_le (Nat.zero_le (clamp 1 (clamp 2 (setting 950 3 1000 w.high) (w.preStage.getD 880) - 1)
    (w.resume.getD 800) - 1)) (w.empty.getD 5)
  simp only [binConfigClamped, BinConfig.Ordered]
  omega

theorem binConfigStored_ordered {w : BinConfigWrite} {c : BinConfig} (h : binConfigStored w = some c) : c.Ordered := by
  unfold binConfigStored at h
  split at h
  · split at h
    · cases h
    · cases h
      exact binConfigClamped_ordered _ _
  · cases h

theorem lotStored_nodup {w : LotWrite} {r : LotRecord} (h : lotStored w = some r) : r.bins.Nodup := by
  unfold lotStored at h
  split at h
  · split at h
    · split at h
      next hok =>
        cases h
        exact of_decide_eq_true hok.2.2.2.2
      · cases h
    · cases h
  · cases h

theorem numberFits_of_not_duplicate {s : State} {i : LotIdx} {n : Nat} (h : ¬lotDuplicate s i n = true) :
    NumberFits s i n := Or.inl (Bool.eq_false_iff.mpr h)

/-! ## Answers -/

/-- What an answer's effect makes of the state it was formed in has the property. -/
def Answer.Keeps (P : State → Prop) (s : State) : Answer → Prop
  | .refuse _ => True
  | .done f => P (f s)

/-- An index outside its table is refused, so only the owner's answers matter. -/
theorem Answer.keeps_indexed {P : State → Prop} {s : State} {n k : Nat} {owner : Fin n → Answer}
    (h : ∀ i, (owner i).Keeps P s) : (indexed n k owner).Keeps P s := by
  unfold indexed
  split
  · exact h _
  · trivial

/-- The answers of the three tables and commands that change a calibration, grant an unlock or start a capture keep a
property. -/
structure Entrusted (P : State → Prop) (s : State) : Prop where
  calibration : ∀ a, (ownCalibration a s).Keeps P s
  unlock : ∀ a, (ownUnlock a s).Keeps P s
  capture : ∀ a, (ownCapture a s).Keeps P s

namespace Upheld

variable {P : State → Prop} (h : Upheld P) {s : State}
include h

section Owners

variable (hs : P s)
include hs

theorem ownOpenLot (n : Nat) : (ownOpenLot n s).Keeps P s := by
  unfold Machine.ownOpenLot
  split
  · trivial
  · split
    · trivial
    · split
      · exact h.openLotAt _ _ hs
      · trivial

theorem ownCloseLot (n : Nat) : (ownCloseLot n s).Keeps P s := by
  unfold Machine.ownCloseLot
  split
  · trivial
  · split
    · trivial
    · split
      · trivial
      · exact h.closeLotAt _ _ hs

theorem ownReleaseOutturn (n : Nat) : (ownReleaseOutturn n s).Keeps P s := by
  unfold Machine.ownReleaseOutturn
  split
  · exact h.releaseOutturnOf _ _ hs
  · trivial

theorem ownHoldStream (k : Nat) : (ownHoldStream k s).Keeps P s := Answer.keeps_indexed fun i => by
  show P (if _ then _ else _)
  split
  · exact hs
  · exact h.addReason _ _ _ nofun hs

theorem ownReleaseStream (k : Nat) : (ownReleaseStream k s).Keeps P s :=
  Answer.keeps_indexed fun i => h.removeReason _ i .operator nofun hs

theorem ownAcceptSuspect (k : Nat) : (ownAcceptSuspect k s).Keeps P s := Answer.keeps_indexed fun i => by
  split
  · trivial
  · exact h.deleteSuspect _ i (h.acceptSuspectRecord _ _ _ hs)

theorem ownDiscardSuspect (k : Nat) : (ownDiscardSuspect k s).Keeps P s := Answer.keeps_indexed fun i => by
  split
  · trivial
  · exact h.deleteSuspect _ _ hs

theorem ownBinEmptied (k : Nat) : (ownBinEmptied k s).Keeps P s := Answer.keeps_indexed fun b => by
  split
  · trivial
  · split
    · trivial
    next hgate => exact h.emptyBin _ _ (Bool.eq_false_iff.mpr hgate) hs

theorem ownServiceOut (k : Nat) : (ownServiceOut k s).Keeps P s :=
  Answer.keeps_indexed fun b => h.serviceOut b _ hs

theorem ownServiceIn (k : Nat) : (ownServiceIn k s).Keeps P s := Answer.keeps_indexed fun b => by
  split
  · exact h.serviceIn _ _ hs
  · trivial

theorem ownClearFault (k : Nat) : (ownClearFault k s).Keeps P s := Answer.keeps_indexed fun g => by
  split
  next hst => exact h.clearFault _ _ hst hs
  next => trivial

omit hs in
theorem setLamp (n : LampIdx) (m : LampMode) (i : Option StreamIdx) (s : State) (hs : P s) : P (setLamp n m i s) :=
  h.lamps _ _ rfl rfl hs

theorem ownLampMode (a : LampArgs) : (ownLampMode a s).Keeps P s := by
  unfold Machine.ownLampMode
  split
  · trivial
  · split
    · trivial
    · split
      · exact h.setLamp _ _ _ _ hs
      · split
        · exact h.setLamp _ _ _ _ hs
        · split
          · trivial
          · exact h.setLamp _ _ _ _ hs

omit hs in
theorem setForce (on level : Bool) (s : State) (hs : P s) : P (setForce on level s) := by
  unfold Machine.setForce
  split <;> exact h.lamps _ _ rfl rfl hs

theorem ownLampForce (a : ForceArgs) : (ownLampForce a s).Keeps P s := by
  unfold Machine.ownLampForce
  split
  · exact h.setForce _ _ _ hs
  · split
    · exact h.setForce _ _ _ hs
    · trivial

theorem setMasks (p : BitVec 24) : P (setMasks p s) := h.judged _ _ (fun he k => by simpa using he k) hs

theorem clearEventRecords (p : BitVec 24) : P (clearEventRecords p s) := h.judged _ _ (fun he k => by
  rw [Tbl.get_ofIndex]
  dsimp only
  split
  · exact he k
  · exact Nat.zero_le _) hs

theorem storeStreamConfig (i : StreamIdx) (c : StreamConfig) : P (storeStreamConfig i c s) := by
  unfold Machine.storeStreamConfig State.modStream
  dsimp only
  split <;> exact h.stream s i _ {} hs

theorem ownStreamConfig (a : WriteArgs StreamConfigWrite) : (ownStreamConfig a s).Keeps P s :=
  Answer.keeps_indexed fun i => by
    split
    · trivial
    · split
      · split
        · trivial
        · exact h.storeStreamConfig hs _ _
      · split
        · trivial
        · split
          · trivial
          · split
            · trivial
            · exact h.storeStreamConfig hs _ _

theorem ownHoldMap (a : WriteArgs HoldWrite) : (ownHoldMap a s).Keeps P s := Answer.keeps_indexed fun i => by
  split
  · exact h.hold _ _ _ hs
  · split
    · trivial
    · split
      · trivial
      · exact h.hold _ _ _ hs

theorem ownLot (a : WriteArgs LotWrite) : (ownLot a s).Keeps P s := Answer.keeps_indexed fun k => by
  split
  · split
    · exact hs
    · split
      case h_1 => exact h.drop _ _ hs
      all_goals trivial
  · split
    · trivial
    next w r hr =>
      have hnd := lotStored_nodup hr
      split
      next hl =>
        split
        · trivial
        · split
          · trivial
          next hdup _ => exact h.load _ _ _ hnd (numberFits_of_not_duplicate hdup) hs
      next l hl =>
        split
        case h_1 =>
          split
          · trivial
          · split
            · trivial
            next hdup _ =>
              refine h.load _ _ _ hnd ?_ hs
              by_cases he : r.number = l.number
              · exact Or.inr ⟨l, hl, he.symm⟩
              · exact numberFits_of_not_duplicate fun hd => hdup ⟨he, hd⟩
        case h_2 | h_3 =>
          split
          next hc => exact h.extendLot _ _ _ _ hl hnd hc hs
          · trivial
        case h_4 => trivial

theorem ownRoute (a : WriteArgs RouteWrite) : (ownRoute a s).Keeps P s := Answer.keeps_indexed fun k => by
  have h1 : ∀ r, P ((s.putRoute k r).occasion) := fun r => h.occasion _ (h.route _ _ _ hs)
  split
  · trivial
  · split
    · exact h1 _
    · split
      · trivial
      · split
        · trivial
        · exact h1 _

theorem ownSegConfig (a : WriteArgs SegConfigWrite) : (ownSegConfig a s).Keeps P s := Answer.keeps_indexed fun g => by
  split
  · trivial
  next hfree =>
    have hst := not_not.mp hfree
    split
    · split
      · trivial
      · exact h.storeSegConfig s g none hst nofun hs
    next w _ =>
      split
      · trivial
      next c hc =>
        split
        · trivial
        next hdup =>
          split
          · trivial
          · refine h.storeSegConfig s g (some c) hst (fun d hd => ?_) hs
            cases hd
            exact ⟨Bool.eq_false_iff.mpr hdup, w, hc⟩

theorem ownBinConfig (a : WriteArgs BinConfigWrite) : (ownBinConfig a s).Keeps P s := Answer.keeps_indexed fun b => by
  split
  · split
    · trivial
    · exact h.clearBinConfig _ _ hs
  · split
    · trivial
    next c hc =>
      split
      · trivial
      · exact h.storeBinConfig _ _ (binConfigStored_ordered hc) _ hs

end Owners

/-! ## Requests, commands, steps -/

theorem event (f : State → State) (s : State) (hf : P (f s)) : P (event f s) := h.settled _ hf

theorem finishRequest (c : Instr) (s : State) (hs : P s) : P (finishRequest c s) := by
  unfold Machine.finishRequest
  split
  · split
    · exact h.mgmt _ _ (takeFrame_unlock _) (takeFrame_calen _) (fun hm => Management.Law.takeFrame hm.input) hs
    · exact hs
  · exact hs

theorem replied (c : Instr) (q : Requester) (o : ReplyCode) (s : State) (hs : P s) : P (replied c q o s) :=
  h.finishRequest _ _ (h.placeReply _ _ _ _ hs)

theorem answer (c : Instr) (q : Requester) (a : Answer) (s : State) (ha : a.Keeps P s) (hs : P s) :
    P (answer c q a s) := by
  cases a with
  | refuse o => exact h.replied _ _ _ _ hs
  | done f => exact h.replied _ _ _ _ (h.event _ _ ha)

theorem request {α : Type} (c : Instr) (q : Requester) (a : Option α) (owner : α → State → Answer) (s : State)
    (ho : ∀ x, (owner x s).Keeps P s) (hs : P s) {t : State} (ht : request c q a owner s = .next t) : P t := by
  cases ht
  refine h.answer _ _ _ _ ?_ hs
  unfold owned
  split
  · trivial
  · split
    · trivial
    · exact ho _

theorem readRequest {n : Nat} (c : Instr) (q : Requester) (table : Nat) (entry : State → Fin n → List Byte)
    (effect : Fin n → State → State) (a : Option ReadArgs) (s : State) (he : ∀ k s, P s → P (effect k s)) (hs : P s)
    {t : State} (ht : readRequest c q table entry effect a s = .next t) : P t := by
  cases ht
  apply h.finishRequest
  unfold readAnswer readOwner
  split
  case h_1 => exact h.placeReply _ _ _ _ hs
  case h_2 data eff heff =>
    apply h.placeReply
    revert heff
    split
    · exact nofun
    · split
      · exact nofun
      · split
        · exact nofun
        · split
          · dsimp only
            split
            · rintro ⟨⟩
              exact Kept.foldl _ (fun s k => he k s) _ s hs
            · exact nofun
          · exact nofun

omit h in
theorem noEffect {n : Nat} (k : Fin n) (s : State) (hs : P s) : P (noEffect k s) := hs

theorem statusRead (i : StreamIdx) (s : State) (hs : P s) : P (statusRead i s) :=
  h.stream _ _ _ { bounds := fun hx => ⟨hx.unassigned, Nat.zero_le _, hx.missed, hx.discarded⟩ } hs

theorem countersRead (k : Fin 9) (s : State) (hs : P s) : P (countersRead k s) := by
  unfold Machine.countersRead
  split
  · exact h.tally _ _ _ { bounds := fun hx => ⟨hx.residue, hx.serial, Nat.zero_le _, Nat.zero_le _⟩ }
      (h.stream _ _ _ { bounds := fun hx => ⟨hx.unassigned, hx.sinceRead, Nat.zero_le _, Nat.zero_le _⟩ } hs)
  · exact h.loop _ _ (fun hl => { hl with
      crc := Nat.zero_le _, fwdDrop := Nat.zero_le _, ownDrop := Nat.zero_le _, mgmtDrop := Nat.zero_le _ }) hs

theorem restart (q : Requester) (a : Option Unit) (s : State) (hs : P s) {t : State}
    (ht : execRestart q a s = .next t) : P t := by
  cases ht
  split
  · exact h.replied _ _ _ _ hs
  · split
    · exact h.replied _ _ _ _ hs
    · exact h.finishRequest _ _ (h.mgmt _ _ rfl rfl (fun hm => ⟨hm.input, hm.inHand⟩) (h.placeReply _ _ _ _ hs))

/-- A command that is no request: its body, then the reports. -/
theorem happens (f : State → State) (s : State) (hf : P (f s)) {t : State}
    (ht : (Host.Outcome.next (Machine.event f s) : Host.Outcome State Fault Refusal) = .next t) : P t := by
  cases ht
  exact h.event f s hf

/-- Every command but a reset leaves true what is upheld. -/
theorem exec (c : Instr) (s t : State) (hreset : ∀ straps calen, c ≠ .reset straps calen) (howns : Entrusted P s)
    (hs : P s) (ht : exec c s = .next t) : P t := by
  cases c with
  | reset straps calen => exact absurd rfl (hreset straps calen)
  | calenFall =>
    cases ht
    split
    · exact h.event _ s (h.calenFall s hs)
    · exact hs
  | calenRise => cases ht; exact h.calenRise _ hs
  | frameReceived chars =>
    cases ht
    split
    · exact h.event _ _ (h.receiveGood _ _ hs)
    · exact h.event _ _ (h.badFrame _ hs)
  | sample source fields =>
    refine h.happens _ s ?_ ht
    split
    · exact hs
    · exact h.examineSample _ _ _ (h.forward _ _ hs)
  | level source value =>
    refine h.happens _ s ?_ ht
    split
    · exact hs
    · exact h.levelReported _ _ _ hs
  | posrep source position =>
    refine h.happens _ s ?_ ht
    split
    · exact hs
    · exact h.posrepReceived _ _ _ hs
  | manage source tag code args =>
    refine h.happens _ s ?_ ht
    split
    · exact hs
    · exact h.manageReceived _ _ hs
  | unknownRequest q bad => exact h.request _ _ _ _ s (fun _ => by trivial) hs ht
  | writeReadOnlyTable q table => exact h.request _ _ _ _ s (fun _ => by trivial) hs ht
  | readStreamStatus q a => exact h.readRequest _ _ _ _ _ _ s h.statusRead hs ht
  | readCounters q a => exact h.readRequest _ _ _ _ _ _ s h.countersRead hs ht
  | readStreamConfig q a | readCalibration q a | readHoldMap q a | readLot q a | readOutturn q a | readRoute q a
  | readSegmentConfig q a | readSegmentStatus q a | readBinConfig q a | readBinStatus q a | readEvents q a =>
    exact h.readRequest _ _ _ _ _ _ s noEffect hs ht
  | writeStreamConfig q a => exact h.request _ _ _ _ s (fun x => h.ownStreamConfig hs x) hs ht
  | writeCalibration q a => exact h.request _ _ _ _ s howns.calibration hs ht
  | writeHoldMap q a => exact h.request _ _ _ _ s (fun x => h.ownHoldMap hs x) hs ht
  | writeLot q a => exact h.request _ _ _ _ s (fun x => h.ownLot hs x) hs ht
  | writeRoute q a => exact h.request _ _ _ _ s (fun x => h.ownRoute hs x) hs ht
  | writeSegmentConfig q a => exact h.request _ _ _ _ s (fun x => h.ownSegConfig hs x) hs ht
  | writeBinConfig q a => exact h.request _ _ _ _ s (fun x => h.ownBinConfig hs x) hs ht
  | openLot q lot => exact h.request _ _ _ _ s (fun x => h.ownOpenLot hs x) hs ht
  | closeLot q lot => exact h.request _ _ _ _ s (fun x => h.ownCloseLot hs x) hs ht
  | holdStream q stream => exact h.request _ _ _ _ s (fun x => h.ownHoldStream hs x) hs ht
  | releaseStream q stream => exact h.request _ _ _ _ s (fun x => h.ownReleaseStream hs x) hs ht
  | acceptSuspect q stream => exact h.request _ _ _ _ s (fun x => h.ownAcceptSuspect hs x) hs ht
  | discardSuspect q stream => exact h.request _ _ _ _ s (fun x => h.ownDiscardSuspect hs x) hs ht
  | binEmptied q bin => exact h.request _ _ _ _ s (fun x => h.ownBinEmptied hs x) hs ht
  | binServiceOut q bin => exact h.request _ _ _ _ s (fun x => h.ownServiceOut hs x) hs ht
  | binServiceIn q bin => exact h.request _ _ _ _ s (fun x => h.ownServiceIn hs x) hs ht
  | clearSegmentFault q g => exact h.request _ _ _ _ s (fun x => h.ownClearFault hs x) hs ht
  | unlockCalibration q a => exact h.request _ _ _ _ s howns.unlock hs ht
  | captureZero q a => exact h.request _ _ _ _ s howns.capture hs ht
  | releaseOutturn q lot => exact h.request _ _ _ _ s (fun x => h.ownReleaseOutturn hs x) hs ht
  | clearEvents q p => exact h.request _ _ _ _ s (fun x => by exact h.clearEventRecords hs x) hs ht
  | setMask q p => exact h.request _ _ _ _ s (fun x => by exact h.setMasks hs x) hs ht
  | setLampMode q a => exact h.request _ _ _ _ s (fun x => h.ownLampMode hs x) hs ht
  | setLampForce q a => exact h.request _ _ _ _ s (fun x => h.ownLampForce hs x) hs ht
  | restart q a => exact h.restart q a s hs ht
  | restartIntervalEnd =>
    cases ht
    split
    · exact h.event _ _ (h.restartBlocks _ hs)
    · exact hs
  | silenceTimerExpiry i => exact h.happens _ s (h.silenceExpired _ _ hs) ht
  | permitTimerExpiry i => exact h.happens _ s (h.permitExpired _ _ hs) ht
  | drainTimerExpiry i => exact h.happens _ s (h.drainExpired _ _ hs) ht
  | unlockExpiry => exact h.happens _ s (h.endUnlock _ _ hs) ht
  | travelTimerExpiry g => exact h.happens _ s (h.travelExpired _ _ hs) ht
  | flushTimerExpiry g => exact h.happens _ s (h.flushExpired _ _ hs) ht
  | pollTimerExpiry b => exact h.happens _ s (h.pollDue _ _ hs) ht
  | replyTimerExpiry b => exact h.happens _ s (h.replyMissed _ _ hs) ht
  | transmitEnd => cases ht; exact h.loop _ _ (fun hl => hl.frameSent) hs
  | lampPhaseEnd n => cases ht; exact h.lamps _ _ rfl rfl hs

theorem tickChar (s : State) (hs : P s) : P (tickChar s) := by
  have h1 : P (s.putLoop { s.loop with txLeft := s.loop.txLeft - 1 }) := h.loop _ _ (fun hl => { hl with }) hs
  unfold Machine.tickChar
  dsimp only
  split
  · exact h.charTime _ _ h1
  · exact h.tick _ h1

end Upheld

/-! ## What the updates of `Sturdy` make up -/

namespace Sturdy

variable {P : State → Prop} (h : Sturdy P)
include h

theorem gateChanged (b : BinIdx) (st : SegState) (s : State) (hs : P s) : P (gateChanged b st s) := by
  by_cases hf : st = .free
  · subst hf
    unfold Machine.gateChanged
    dsimp only
    rw [if_pos rfl]
    apply h.routine.emptinessTest
    split
    · exact h.kept.emit _ _ (h.kept.bin _ _ _ (by rw [withState_account, withGate_account]) hs)
    · split
      · exact h.kept.judgeBin _ _
          (h.kept.emit _ _ (h.kept.bin _ _ _ (by rw [withState_account, withGate_account]) hs))
      · exact h.kept.bin _ _ _ rfl hs
  · exact h.kept.gateChanged b st hf s hs

theorem changeSeg (g : SegIdx) (x : Segment) (s : State) (hs : P s) : P (changeSeg g x s) := by
  have h1 := h.seg s g x hs
  unfold Machine.changeSeg
  dsimp only
  split
  · split
    · exact h1
    · exact h.gateChanged _ _ _ h1
  · exact h1

theorem freeSeg (g : SegIdx) (s : State) (hs : P s) : P (freeSeg g s) := h.kept.occasion _ (h.changeSeg _ _ _ hs)

theorem faultSeg (g : SegIdx) (s : State) (hs : P s) : P (faultSeg g s) :=
  h.kept.emit _ _ (h.raise _ _ _ (h.changeSeg _ _ _ hs))

theorem clearFault (g : SegIdx) (s : State) (hs : P s) : P (clearFault g s) :=
  h.kept.emit _ _ (h.kept.beginFlush _ _ (h.seg _ _ _ hs))

theorem judgeReport (g : SegIdx) (eq : Bool) (s : State) (hs : P s) : P (judgeReport g eq s) := by
  unfold Machine.judgeReport
  dsimp only
  split
  case h_1 | h_2 => exact hs
  case h_3 =>
    split
    · exact hs
    · split
      · exact h.changeSeg _ _ _ hs
      · exact h.kept.reportReady _ _ (h.changeSeg _ _ _ hs)
  case h_4 | h_5 =>
    split
    · exact hs
    · exact h.faultSeg _ _ hs
  case h_6 =>
    split
    · split
      · exact h.seg _ _ _ hs
      · exact hs
    · split
      · exact hs
      · exact h.faultSeg _ _ hs
  case h_7 =>
    split
    · exact h.freeSeg _ _ hs
    · exact hs

theorem restartSeg (g : SegIdx) (s : State) (hs : P s) : P (restartSeg g s) := by
  unfold Machine.restartSeg
  dsimp only
  split
  · exact hs
  · exact h.kept.beginFlush _ _ (h.seg _ _ _ hs)

theorem setInlet (b : Option BinIdx) (g : Option SegIdx) (s : State) (hs : P s) : P (setInlet b g s) := by
  unfold Machine.setInlet
  split
  · exact h.bin _ _ _ ⟨id, id, id⟩ hs
  · exact hs

theorem storeSegConfig (g : SegIdx) (c : Option SegConfig) (s : State) (hs : P s) : P (storeSegConfig g c s) := by
  unfold Machine.storeSegConfig
  dsimp only
  apply h.kept.occasion
  split
  · exact h.seg _ _ _ hs
  · exact h.setInlet _ _ _ (h.setInlet _ _ _ (h.seg _ _ _ hs))

theorem restartBin (b : BinIdx) (s : State) (hs : P s) : P (restartBin b s) :=
  h.bin _ _ _ ⟨id, fun _ => Nat.zero_le _, id⟩ hs

theorem restartLot (k : LotIdx) (s : State) (hs : P s) : P (restartLot k s) := by
  unfold Machine.restartLot
  split
  · exact hs
  next l hl =>
    have h1 : ∀ l', l.SameGrams l' → P (s.putLot k (some l')) := fun l' hg => h.lot _ _ l l' hl hg hs
    split
    case h_1 => exact h1 _ ⟨rfl, rfl, rfl, rfl⟩
    case h_2 => exact h.kept.completionTest _ _ (h1 _ ⟨rfl, rfl, rfl, rfl⟩)
    case h_3 | h_4 => exact hs

/-- An update of a stream's record that leaves its sums and counters alone. -/
theorem sums (s : State) (i : StreamIdx) (x : Stream) (hun : x.unassigned = (s.stream i).unassigned)
    (hsince : x.sinceRead = (s.stream i).sinceRead) (hmiss : x.missed = (s.stream i).missed)
    (hdisc : x.discarded = (s.stream i).discarded) (hs : P s) : P (s.putStream i x) :=
  h.stream s i x (fun hx => ⟨hun ▸ hx.unassigned, hsince ▸ hx.sinceRead, hmiss ▸ hx.missed, hdisc ▸ hx.discarded⟩) hs

theorem restartStream (i : StreamIdx) (s : State) (hs : P s) : P (restartStream i s) := by
  refine h.refresh _ (h.sums _ _ _ rfl rfl rfl rfl ?_)
  split
  · exact h.kept.sendPermit _ _ _ hs
  · exact hs

theorem restartSilence (i : StreamIdx) (s : State) (hs : P s) : P (restartSilence i s) := by
  unfold Machine.restartSilence
  split
  · exact h.sums _ _ _ rfl rfl rfl rfl hs
  · exact hs

theorem noLot (i : StreamIdx) (b : Option Lookup) (s : State) (hs : P s) : P (noLot i b s) := by
  unfold Machine.noLot
  split
  · exact hs
  · exact h.raise _ _ _ hs

theorem startStream (i : StreamIdx) (n : Nat) (s : State) (hs : P s) : P (startStream i n s) := by
  have h1 := h.kept.leaveIdle i s hs
  unfold Machine.startStream
  dsimp only
  split
  · exact h.kept.becomeWaiting _ _ _ _ h1
  · exact h.kept.holdNoBin _ _ _ (h.sums _ _ _ rfl rfl rfl rfl (h.kept.attach _ _ _ h1))

theorem idleRule (i : StreamIdx) (b : Option Lookup) (s : State) (hs : P s) : P (idleRule i b s) := by
  unfold Machine.idleRule
  dsimp only
  split
  · split
    · split
      · split
        · exact h.startStream _ _ _ hs
        · exact hs
      · exact h.noLot _ _ _ hs
    · exact h.noLot _ _ _ hs
  · exact hs

theorem transitions (i : StreamIdx) (b : Option Lookup) (e : Bool) (s : State) (hs : P s) :
    P (transitions i b e s) := by
  have hfree := h.kept.becomeIdle i _ (h.kept.removeRequest i s hs)
  unfold Machine.transitions
  dsimp only
  split
  case h_1 => exact h.idleRule _ _ _ hs
  case h_2 =>
    split
    · split
      · exact hs
      · exact h.idleRule _ _ _ hfree
    · exact hfree
  case h_3 =>
    split
    · exact hs
    · exact h.kept.enterDraining _ _ hs
  case h_4 => exact hs
  case h_5 =>
    split
    · exact h.kept.leaveHeld _ _ hs
    · exact hs

omit h in
theorem clearBySample_account (x : Stream) : x.clearBySample.account = x.account := by
  unfold Stream.clearBySample
  dsimp only
  split
  · split
    · exact withoutReason_account _ _
    · rw [withoutReason_account, withoutReason_account]
  · exact withoutReason_account _ _

theorem examineSteps (i : StreamIdx) (f : SampleFields) (s : State) (hs : P s) : P (examineSteps i f s) := by
  refine h.restartSilence _ _ (h.transitions _ _ _ _ (h.restartSilence _ _ (h.stream _ _ _ (fun hx => ?_) hs)))
  obtain ⟨-, -, -, -, -, hun, hsince, -, -, -, hmiss, hdisc⟩ := StreamAccount.mk.inj (clearBySample_account
    { s.stream i with lastLookup := some (s.lookup f.hold.toNat f.layer.toNat), demand := sampleDemand f })
  exact ⟨hun.le.trans hx.unassigned, hsince.le.trans hx.sinceRead, hmiss.le.trans hx.missed,
    hdisc.le.trans hx.discarded⟩

theorem grossSample (i : StreamIdx) (f : SampleFields) (m : Measured) (s : State) (hs : P s) :
    P (grossSample i f m s) :=
  h.raise _ _ _ (h.kept.addReason _ _ _ (h.sums _ _ _ rfl rfl rfl rfl hs))

theorem deleteSuspect (i : StreamIdx) (s : State) (hs : P s) : P (deleteSuspect i s) :=
  h.kept.removeReason _ _ _ (h.sums _ _ _ rfl rfl rfl rfl hs)

theorem setCalen (b : Bool) (s : State) (hs : P s) : P (setCalen b s) := h.mgmt _ _ (fun hm => ⟨hm.input, hm.inHand⟩) hs

theorem restartBlocks (s : State) (hs : P s) : P (restartBlocks s) := by
  have h1 := h.kept.endUnlock .restart _
    (h.mgmt s { s.mgmt with restartLeft := none } (fun hm => ⟨hm.input, hm.inHand⟩) hs)
  have h2 := Kept.forEach _ (fun k s => h.restartLot k s) _ (Kept.forEach _ (fun i s => h.restartStream i s) _ h1)
  exact h.raise _ _ _ (Kept.forEach _ (fun g s => h.restartSeg g s) _
    (Kept.forEach _ (fun b s => h.restartBin b s) _ (h.alloc _ _ h2)))

/-- The operations that move a stream, a segment or an unlock are made of a command's updates too. -/
theorem upheld : Upheld P where
  toRoutine := h.routine
  completeCapture := h.completeCapture
  endCapture s o := h.kept.endCapture o s
  endUnlock s c := h.kept.endUnlock c s
  calenFall s hs := h.setCalen _ _ (h.kept.endUnlock _ s hs)
  calenRise s := h.setCalen _ s
  judgeReport s g eq := h.judgeReport g eq s
  faultSeg s g _ := h.faultSeg g s
  endFlush s g _ := h.kept.endFlush g s
  clearFault s g _ := h.clearFault g s
  storeSegConfig s g c _ _ := h.storeSegConfig g c s
  addReason s i r _ := h.kept.addReason i r s
  removeReason s i r _ := h.kept.removeReason i r s
  grossSample s i f m := h.grossSample i f m s
  deleteSuspect s i := h.deleteSuspect i s
  enterDraining s i _ := h.kept.enterDraining i s
  endDraining s i _ := h.kept.endDraining i s
  withdraw s i _ hs := h.kept.becomeIdle i _ (h.kept.removeRequest i s hs)
  examineSteps s i f := h.examineSteps i f s
  activate s i _ r _ _ _ := h.kept.activate i r s
  carryHit s i _ old new _ _ := h.kept.carryHit i old new s
  restartBlocks s := h.restartBlocks s

end Sturdy

namespace Robust

variable {P : State → Prop} (h : Robust P)
include h

theorem sturdy : Sturdy P where
  pending := h.pending
  reports := h.reports
  charTime := h.charTime
  loop := h.loop
  stream := h.stream
  tally s i x hx := h.tally s i x hx.bounds
  capture s _ d _ _ := h.capture s (some d)
  dropCapture s := h.capture s none
  completeCapture s _ d _ _ hs := by
    have hunlock : ∀ v u, P v → P (v.putUnlock u) := fun v u => h.mgmt v _ fun hm => ⟨hm.input, hm.inHand⟩
    have hreport : ∀ v i r, P v → P (v.putTally i { v.tallyOf i with report := r }) := fun v i r =>
      h.tally v i _ fun hx => ⟨hx.residue, hx.serial, hx.overCount, hx.jumpCount⟩
    exact h.judged _ _ (fun he => he.set _ (countUp_le _ _)) (hunlock _ _ (h.capture _ none (hreport _ _ _
      (h.tally _ _ _ (fun hx => ⟨hx.residue, nextSerial_le _, hx.overCount, hx.jumpCount⟩)
        (h.capture _ (some d) hs)))))
  lot := h.lot
  book := h.book
  load := h.load
  extend := h.extend
  drop := h.drop
  complete := h.complete
  release := h.release
  hold := h.hold
  seg := h.seg
  alloc := h.alloc
  bin := h.bin
  mgmt := h.mgmt
  judged := h.judged
  lamps := h.lamps
  tick := h.tick

theorem storeCalibration (i : StreamIdx) (k : Option Calibration) (s : State) (hs : P s) : P (storeCalibration i k s) :=
  h.sturdy.unlock _ _ (h.tally _ _ _ (fun hx => ⟨hx.residue, nextSerial_le _, hx.overCount, hx.jumpCount⟩) hs)

theorem entrusted (s : State) (hs : P s) : Entrusted P s where
  calibration a := Answer.keeps_indexed fun i => by
    split
    · trivial
    · split
      · trivial
      · split
        · trivial
        · split
          · exact h.storeCalibration _ _ _ hs
          · split
            · exact h.storeCalibration _ _ _ hs
            · trivial
  unlock a := Answer.keeps_indexed fun i => by
    split
    · trivial
    · split
      · trivial
      · split
        · trivial
        · exact h.sturdy.unlock _ _ (h.sturdy.kept.endUnlock _ _ hs)
  capture a := Answer.keeps_indexed fun i => by
    split
    · trivial
    · split
      · trivial
      · split
        · trivial
        · split
          · trivial
          · exact h.sturdy.unlock _ _ (h.capture _ _ hs)

end Robust

/-! ## Steps -/

namespace Upheld

variable {P : State → Prop} (h : Upheld P) (howns : ∀ s, P s → Entrusted P s)
  (hreset : ∀ (straps : BitVec 6) calen l, P (State.resetWith straps.toNat calen l))
include h howns hreset

/-- Every command leaves true what is upheld. -/
theorem command (c : Instr) (s t : State) (hs : P s) (ht : Machine.exec c s = .next t) : P t := by
  by_cases hc : ∃ straps calen, c = .reset straps calen
  · obtain ⟨straps, calen, rfl⟩ := hc
    cases ht
    exact hreset straps calen _
  · exact h.exec c s t (fun straps calen he => hc ⟨straps, calen, he⟩) (howns s hs) hs ht

theorem idle (s t : State) (hs : P s) (ht : idle s = .next t) : P t := by
  unfold Machine.idle at ht
  split at ht
  · split at ht
    · exact h.command howns hreset _ _ _ hs ht
    · split at ht
      · exact h.command howns hreset _ _ _ hs ht
      · cases ht
        exact h.tickChar _ hs
  · cases ht
    exact h.refresh _ (h.settle _ _ hs)

/-- Every step leaves true what is upheld. -/
theorem step (s t : State) (hs : P s) (ht : step s = .next t) : P t := by
  unfold Machine.step at ht
  split at ht
  · exact h.command howns hreset _ _ _ (h.pending _ _ hs) ht
  · exact h.idle howns hreset _ _ hs ht

end Upheld

/-- Every step leaves true what the updates of `Robust` leave true. -/
theorem Robust.step {P : State → Prop} (h : Robust P) (s t : State) (hs : P s) (ht : step s = .next t) : P t :=
  h.sturdy.upheld.step h.entrusted h.reset s t hs ht

end Sys2Proof.Machine
end

section
/-! The Loop interface's bounds, the accounts' bounds, the alert output and the bins' thresholds are kept by every
step. -/

namespace Sys2Proof.Machine

/-! ## The alert's level -/

theorem anyLive_iff (e : Tbl EventRecord 18) :
    anyLive e = true ↔ ∃ k, (e.get k).flag = true ∧ (e.get k).mask = true := by
  simp only [anyLive, List.any_eq_true, EventRecord.live, Bool.and_eq_true]
  constructor
  · rintro ⟨r, hr, hlive⟩
    obtain ⟨n, hn, rfl⟩ := List.getElem_of_mem hr
    exact ⟨⟨n, by rw [← e.len]; exact hn⟩, hlive⟩
  · rintro ⟨k, hlive⟩
    exact ⟨e.get k, List.getElem_mem _, hlive⟩

@[simp] theorem judgeAlert_events (s : State) : (judgeAlert s).ind.events = s.ind.events :=
  judgeAlert_keeps (P := fun t => t.ind.events = s.ind.events) s rfl fun _ _ h => h

@[simp] theorem judgeAlert_alert (s : State) : (judgeAlert s).ind.alert = anyLive s.ind.events :=
  judgeAlert_keeps (P := fun t => t.ind.alert = anyLive s.ind.events) s rfl fun _ _ h => h

/-! ## The Loop interface (R149, R152, R153, R154, R156, R157) -/

theorem latchAddress_le (straps : BitVec 6) : latchAddress straps.toNat ≤ 62 := by
  unfold latchAddress
  split
  · exact le_rfl
  · have := straps.isLt
    omega

theorem Loop.law_reset (straps : BitVec 6) : (Loop.reset straps.toNat).Law :=
  ⟨Nat.zero_le _, Nat.zero_le _, List.nodup_nil, Nat.zero_le _, Nat.zero_le _, Nat.zero_le _, Nat.zero_le _,
    latchAddress_le straps, fun _ => ⟨rfl, rfl⟩⟩

theorem robust_loopLaw : Robust fun s => s.loop.Law where
  pending _ _ := id
  reports _ _ _ := id
  charTime _ _ := id
  reset straps _ _ := Loop.law_reset straps
  loop _ _ h := h
  stream _ _ _ _ := id
  tally _ _ _ _ := id
  capture _ _ := id
  lot _ _ _ _ _ _ := id
  book _ _ _ _ _ _ _ _ := id
  load _ _ _ _ _ := id
  extend _ _ _ _ _ _ _ := id
  drop _ _ := id
  complete _ _ _ _ _ := id
  release _ _ := id
  hold _ _ _ := id
  seg _ _ _ := id
  alloc _ _ := id
  bin _ _ _ _ := id
  mgmt _ _ _ := id
  judged _ _ _ hs := judgeAlert_keeps (P := fun s => s.loop.Law) _ hs fun _ f h => h.choose_enqueue f
  lamps _ _ _ _ := id
  tick _ := id

/-- Settles O5: the Loop interface's law is about its state alone, and each update of that state keeps it. -/
theorem loopLawKept : Obligations.LoopLawKept := by
  intro s t hs ht
  exact (loopLaw_iff t).mpr (robust_loopLaw.step s t ((loopLaw_iff s).mp hs) ht)

/-! ## The alert output (R174) -/

/-- The alert output is what its judging would make it. -/
theorem alertLaw_iff (s : State) : AlertLaw s ↔ s.ind.alert = anyLive s.ind.events := by
  rw [AlertLaw, ← anyLive_iff, Bool.coe_iff_coe]

theorem robust_alertLaw : Robust fun s => s.ind.alert = anyLive s.ind.events where
  pending _ _ := id
  reports _ _ _ := id
  charTime _ _ := id
  reset _ _ _ := by
    show false = anyLive eventsAtReset
    decide
  loop _ _ _ := id
  stream _ _ _ _ := id
  tally _ _ _ _ := id
  capture _ _ := id
  lot _ _ _ _ _ _ := id
  book _ _ _ _ _ _ _ _ := id
  load _ _ _ _ _ := id
  extend _ _ _ _ _ _ _ := id
  drop _ _ := id
  complete _ _ _ _ _ := id
  release _ _ := id
  hold _ _ _ := id
  seg _ _ _ := id
  alloc _ _ := id
  bin _ _ _ _ := id
  mgmt _ _ _ := id
  judged _ _ _ _ := by rw [judgeAlert_alert, judgeAlert_events]
  lamps _ _ he ha hs := by rw [State.putInd_ind, he, ha, hs]
  tick _ := id

/-- Settles O7: every change of the event records is followed by the alert's judging. -/
theorem alertLawKept : Obligations.AlertLawKept := by
  intro s t hs ht
  exact (alertLaw_iff t).mpr (robust_alertLaw.step s t ((alertLaw_iff s).mp hs) ht)

/-! ## The bins' thresholds (R129) -/

theorem bin_tickMs (s : State) (b : BinIdx) : (tickMs s).bin b = (s.bin b).tick := Tbl.get_map _ _ _

theorem bin_resetWith (straps : Nat) (calen : Bool) (l : List Instr) (b : BinIdx) :
    (State.resetWith straps calen l).bin b = Bin.reset := Tbl.get_fill _ _

theorem robust_binLaw : Robust BinLaw where
  pending _ _ := id
  reports _ _ _ := id
  charTime _ _ := id
  reset _ _ _ b c hc := by
    rw [bin_resetWith] at hc
    cases hc
  loop _ _ _ := id
  stream _ _ _ _ := id
  tally _ _ _ _ := id
  capture _ _ := id
  lot _ _ _ _ _ _ := id
  book _ _ _ _ _ _ _ _ := id
  load _ _ _ _ _ := id
  extend _ _ _ _ _ _ _ := id
  drop _ _ := id
  complete _ _ _ _ _ := id
  release _ _ := id
  hold _ _ _ := id
  seg _ _ _ := id
  alloc _ _ := id
  bin s b x hx hs j c hc := by
    rw [State.bin_putBin] at hc
    split at hc
    · exact hx.config (hs b) c hc
    · exact hs j c hc
  mgmt _ _ _ := id
  judged s e _ hs := judgeAlert_keeps (P := BinLaw) _ hs fun _ _ h => h
  lamps _ _ _ _ := id
  tick s hs b c hc := by
    rw [bin_tickMs] at hc
    exact hs b c hc

/-- Settles O8: a bin's thresholds change only by a record that is stored, and R130's clamping puts those in order. -/
theorem binThresholdOrderKept : Obligations.BinThresholdOrderKept := robust_binLaw.step

end Sys2Proof.Machine
end

section
/-! The bounds of the accounts, the lot numbers and the delivery sums are kept by every step. -/

namespace Sys2Proof.Machine

theorem tallyOf_tickMs (s : State) (i : StreamIdx) : (tickMs s).tallyOf i = s.tallyOf i := rfl

theorem stream_tickMs (s : State) (i : StreamIdx) : (tickMs s).stream i = (s.stream i).tick := Tbl.get_map _ _ _

theorem seg_tickMs (s : State) (g : SegIdx) : (tickMs s).seg g = (s.seg g).tick := Tbl.get_map _ _ _

theorem stream_resetWith (straps : Nat) (calen : Bool) (l : List Instr) (i : StreamIdx) :
    (State.resetWith straps calen l).stream i = Stream.reset := Tbl.get_fill _ _

theorem tallyOf_resetWith (straps : Nat) (calen : Bool) (l : List Instr) (i : StreamIdx) :
    (State.resetWith straps calen l).tallyOf i = Tally.reset := Tbl.get_fill _ _

theorem seg_resetWith (straps : Nat) (calen : Bool) (l : List Instr) (g : SegIdx) :
    (State.resetWith straps calen l).seg g = Segment.reset := Tbl.get_fill _ _

theorem lotAt_resetWith (straps : Nat) (calen : Bool) (l : List Instr) (k : LotIdx) :
    (State.resetWith straps calen l).lotAt k = none := Tbl.get_fill _ _

/-! ## Lots whose gram sums are in bounds (R20) -/

/-- The bounds of a lot's gram sums. -/
structure Lot.Bounded (l : Lot) : Prop where
  certified : l.certified ≤ maxGrams
  uncertified : l.uncertified ≤ maxGrams
  delivered : ∀ d ∈ l.bins, d.grams ≤ maxGrams

theorem Lot.Bounded.of_sameGrams {l l' : Lot} (h : l.Bounded) (hs : l.SameGrams l') : l'.Bounded :=
  ⟨hs.certified ▸ h.certified, hs.uncertified ▸ h.uncertified, hs.bins ▸ h.delivered⟩

theorem Lot.Bounded.book {l : Lot} (h : l.Bounded) (b : BinIdx) (g : Nat) (c : Bool) : (l.book b g c).Bounded := by
  refine ⟨?_, ?_, fun d hd => ?_⟩
  · show (if c then _ else _) ≤ _
    split
    · exact satAdd_le _ _
    · exact h.certified
  · show (if c then _ else _) ≤ _
    split
    · exact h.uncertified
    · exact satAdd_le _ _
  · obtain ⟨e, he, rfl⟩ := List.mem_map.mp hd
    split
    · exact satAdd_le _ _
    · exact h.delivered e he

theorem LotRecord.planned_bounded (r : LotRecord) : r.planned.Bounded :=
  ⟨Nat.zero_le _, Nat.zero_le _, fun d hd => by
    obtain ⟨b, -, rfl⟩ := List.mem_map.mp hd
    exact Nat.zero_le _⟩

theorem Lot.Bounded.extended {l : Lot} (h : l.Bounded) (r : LotRecord) : (r.extended l).Bounded :=
  ⟨h.certified, h.uncertified, fun d hd => by
    rcases List.mem_append.mp hd with hd | hd
    · exact h.delivered d hd
    · obtain ⟨b, -, rfl⟩ := List.mem_map.mp hd
      exact Nat.zero_le _⟩

/-! ## The accounts -/

/-- `AccountLaw` in the terms of each block's records. -/
structure Accounts (s : State) : Prop where
  tally : ∀ i, (s.tallyOf i).Bounded
  stream : ∀ i, (s.stream i).Bounded
  lot : ∀ k l, s.lotAt k = some l → l.Bounded
  outturn : s.lot.outturn.length ≤ outturnRoom
  fill : ∀ b, (s.bin b).fill ≤ maxGrams
  misses : ∀ b, (s.bin b).misses ≤ 3
  mgmt : s.mgmt.Law
  events : EventsBounded s.ind.events

theorem accountLaw_iff (s : State) : AccountLaw s ↔ Accounts s where
  mp h := {
    tally i := ⟨h.residue i, h.serial i, h.overCount i, h.jumpCount i⟩
    stream i := ⟨h.unassigned i, h.sinceRead i, h.missed i, h.discarded i⟩
    lot k l hl := ⟨h.certified k l hl, h.uncertified k l hl, h.delivered k l hl⟩
    outturn := h.outturn, fill := h.fill, misses := h.misses, mgmt := ⟨h.input, h.inHand⟩, events := h.events }
  mpr h := {
    residue i := (h.tally i).residue, serial i := (h.tally i).serial
    overCount i := (h.tally i).overCount, jumpCount i := (h.tally i).jumpCount
    unassigned i := (h.stream i).unassigned, sinceRead i := (h.stream i).sinceRead
    missed i := (h.stream i).missed, discarded i := (h.stream i).discarded
    certified k l hl := (h.lot k l hl).certified, uncertified k l hl := (h.lot k l hl).uncertified
    delivered k l hl := (h.lot k l hl).delivered
    outturn := h.outturn, fill := h.fill, misses := h.misses
    input := h.mgmt.input, inHand := h.mgmt.inHand, events := h.events }

theorem forall_stream_putStream {Q : Stream → Prop} {s : State} (i : StreamIdx) {x : Stream}
    (h : ∀ j, Q (s.stream j)) (hx : Q x) (j : StreamIdx) : Q ((s.putStream i x).stream j) := by
  rw [State.stream_putStream]
  split
  · exact hx
  · exact h j

theorem forall_tallyOf_putTally {Q : Tally → Prop} {s : State} (i : StreamIdx) {x : Tally}
    (h : ∀ j, Q (s.tallyOf j)) (hx : Q x) (j : StreamIdx) : Q ((s.putTally i x).tallyOf j) := by
  rw [State.tallyOf_putTally]
  split
  · exact hx
  · exact h j

theorem forall_bin_putBin {Q : Bin → Prop} {s : State} (b : BinIdx) {x : Bin} (h : ∀ j, Q (s.bin j)) (hx : Q x)
    (j : BinIdx) : Q ((s.putBin b x).bin j) := by
  rw [State.bin_putBin]
  split
  · exact hx
  · exact h j

theorem forall_lotAt_putLot {Q : Lot → Prop} {s : State} (k : LotIdx) {x : Option Lot}
    (h : ∀ j l, s.lotAt j = some l → Q l) (hx : ∀ l, x = some l → Q l) (j : LotIdx) (l : Lot)
    (hl : (s.putLot k x).lotAt j = some l) : Q l := by
  rw [State.lotAt_putLot] at hl
  split at hl
  · exact hx l hl
  · exact h j l hl

/-- A lot's record put where it keeps its bounds. -/
theorem Accounts.putLot {s : State} (hs : Accounts s) (k : LotIdx) {l : Lot} (hl : l.Bounded) :
    Accounts (s.putLot k (some l)) :=
  { hs with
    tally := hs.tally, stream := hs.stream, fill := hs.fill, misses := hs.misses
    lot := forall_lotAt_putLot k hs.lot fun _ hm => Option.some.inj hm ▸ hl }

theorem robust_accounts : Robust Accounts where
  pending _ _ hs := { hs with }
  reports _ _ _ hs := { hs with }
  charTime _ _ hs := { hs with }
  reset straps calen l := {
    tally i := by rw [tallyOf_resetWith]; exact ⟨by decide, Nat.zero_le _, Nat.zero_le _, Nat.zero_le _⟩
    stream i := by rw [stream_resetWith]; exact ⟨Nat.zero_le _, Nat.zero_le _, Nat.zero_le _, Nat.zero_le _⟩
    lot k m hm := by rw [lotAt_resetWith] at hm; cases hm
    outturn := Nat.zero_le _
    fill b := by rw [bin_resetWith]; exact Nat.zero_le _
    misses b := by rw [bin_resetWith]; exact Nat.zero_le _
    mgmt := ⟨Nat.zero_le _, fun _ => rfl⟩
    events := by
      show EventsBounded eventsAtReset
      exact EventsBounded.set (fun k => by rw [Tbl.get_fill]; exact Nat.zero_le _) _ (by decide) }
  loop _ _ _ hs := { hs with }
  stream s i x hx hs := { hs with
    tally := hs.tally, lot := hs.lot, fill := hs.fill, misses := hs.misses
    stream := forall_stream_putStream i hs.stream (hx (hs.stream i)) }
  tally s i x hx hs := { hs with
    stream := hs.stream, lot := hs.lot, fill := hs.fill, misses := hs.misses
    tally := forall_tallyOf_putTally i hs.tally (hx (hs.tally i)) }
  capture _ _ hs := { hs with }
  lot s k l l' hl hg hs := hs.putLot k ((hs.lot k l hl).of_sameGrams hg)
  book s k l b g c hl _ hs := hs.putLot k ((hs.lot k l hl).book b g c)
  load s k r _ _ hs := hs.putLot k r.planned_bounded
  extend s k l r hl _ _ hs := hs.putLot k ((hs.lot k l hl).extended r)
  drop s k hs := { hs with
    tally := hs.tally, stream := hs.stream, fill := hs.fill, misses := hs.misses
    lot := forall_lotAt_putLot k hs.lot nofun }
  complete s k l _ hroom hs := { hs with
    tally := hs.tally, stream := hs.stream, fill := hs.fill, misses := hs.misses
    lot := forall_lotAt_putLot k hs.lot nofun
    outturn := by simpa using hroom }
  release s p hs := { hs with outturn := (List.length_filter_le _ _).trans hs.outturn }
  hold _ _ _ hs := { hs with }
  seg _ _ _ hs := { hs with }
  alloc _ _ hs := { hs with }
  bin s b x hx hs := { hs with
    tally := hs.tally, stream := hs.stream, lot := hs.lot
    fill := forall_bin_putBin (Q := fun y => y.fill ≤ maxGrams) b hs.fill (hx.fill (hs.fill b))
    misses := forall_bin_putBin (Q := fun y => y.misses ≤ 3) b hs.misses (hx.misses (hs.misses b)) }
  mgmt s m hm hs := { hs with mgmt := hm hs.mgmt }
  judged s e he hs := judgeAlert_keeps (P := Accounts) _ { hs with events := he hs.events } fun _ _ h => { h with }
  lamps s x he _ hs := { hs with events := by rw [State.putInd_ind, he]; exact hs.events }
  tick s hs := { hs with
    tally := hs.tally, lot := hs.lot
    stream := fun i => by rw [stream_tickMs]; exact { hs.stream i with }
    fill := fun b => by rw [bin_tickMs]; exact hs.fill b
    misses := fun b => by rw [bin_tickMs]; exact hs.misses b
    mgmt := { hs.mgmt with } }

/-- Settles O6: every sum saturates, every counter stops at 255, a residue is a remainder, a serial is reduced, and each
buffer is tested for room before it grows. -/
theorem accountLawKept : Obligations.AccountLawKept := by
  intro s t hs ht
  exact (accountLaw_iff t).mpr (robust_accounts.step s t ((accountLaw_iff s).mp hs) ht)

/-! ## Lot numbers (R5, R22) -/

/-- The lot table's changes that keep every number where it stands alone. -/
theorem LotLaw.putLot_some {s : State} (hs : LotLaw s) {k : LotIdx} {l' : Lot}
    (htable : ∀ j m, j ≠ k → s.lotAt j = some m → l'.number ≠ m.number)
    (happart : ∀ r ∈ s.lot.outturn, r.number ≠ l'.number) : LotLaw (s.putLot k (some l')) where
  table i j l m hl hm hn := by
    rw [State.lotAt_putLot] at hl hm
    split at hl
    case isTrue hi =>
      split at hm
      case isTrue hj => exact hi.symm.trans hj
      case isFalse hj =>
        cases hl
        exact absurd hn (htable j m (Ne.symm hj) hm)
    case isFalse hi =>
      split at hm
      case isTrue hj =>
        cases hm
        exact absurd hn.symm (htable i l (Ne.symm hi) hl)
      case isFalse => exact hs.table i j l m hl hm hn
  apart i l hl r hr := by
    rw [State.lotAt_putLot] at hl
    split at hl
    · cases hl
      exact happart r hr
    · exact hs.apart i l hl r hr
  list := hs.list

theorem LotLaw.putLot_same {s : State} (hs : LotLaw s) {k : LotIdx} {l l' : Lot} (hl : s.lotAt k = some l)
    (hn : l'.number = l.number) : LotLaw (s.putLot k (some l')) :=
  hs.putLot_some (fun j m hj hm he => hj (hs.table j k m l hm hl (he.symm.trans hn)))
    fun r hr he => hs.apart k l hl r hr (he.trans hn)

theorem lotAt_putLot_none {s : State} {k i : LotIdx} {l : Lot} (h : (s.putLot k none).lotAt i = some l) :
    i ≠ k ∧ s.lotAt i = some l := by
  rw [State.lotAt_putLot] at h
  split at h
  · cases h
  next hk => exact ⟨fun he => hk he.symm, h⟩

theorem LotLaw.putLot_none {s : State} (hs : LotLaw s) (k : LotIdx) : LotLaw (s.putLot k none) where
  table i j l m hl hm := hs.table i j l m (lotAt_putLot_none hl).2 (lotAt_putLot_none hm).2
  apart i l hl := hs.apart i l (lotAt_putLot_none hl).2
  list := hs.list

/-- A completing lot takes its number from the table to the out-turn list. -/
theorem LotLaw.complete {s : State} (hs : LotLaw s) {k : LotIdx} {l : Lot} (hl : s.lotAt k = some l) :
    LotLaw ((s.putOutturn (s.lot.outturn ++ [l.outturnRecord])).putLot k none) where
  table i j l m hl hm := hs.table i j l m (lotAt_putLot_none hl).2 (lotAt_putLot_none hm).2
  apart i m hm r hr := by
    obtain ⟨hi, hm⟩ := lotAt_putLot_none hm
    rcases List.mem_append.mp hr with hr | hr
    · exact hs.apart i m hm r hr
    · rw [List.mem_singleton.mp hr]
      exact fun he => hi (hs.table i k m l hm hl he.symm)
  list := by
    show ((s.lot.outturn ++ [l.outturnRecord]).map _).Nodup
    rw [List.map_append, List.map_singleton]
    refine List.Nodup.append hs.list (List.nodup_singleton _) fun n hn hn' => ?_
    obtain ⟨r, hr, rfl⟩ := List.mem_map.mp hn
    exact hs.apart k l hl r hr (List.mem_singleton.mp hn')

/-- What a number that is no duplicate differs from (R5). -/
theorem not_lotDuplicate {s : State} {i : LotIdx} {n : Nat} (h : lotDuplicate s i n = false) :
    (∀ j m, j ≠ i → s.lotAt j = some m → m.number ≠ n) ∧ ∀ r ∈ s.lot.outturn, r.number ≠ n := by
  obtain ⟨htable, hout⟩ := Bool.or_eq_false_iff.mp h
  refine ⟨fun j m hj hm hn => ?_, fun r hr hn => ?_⟩
  · have := List.any_eq_false.mp htable j (List.mem_finRange j)
    simp [hj, hm, hn] at this
  · have := List.any_eq_false.mp hout r hr
    simp [hn] at this

theorem LotLaw.load {s : State} (hs : LotLaw s) {k : LotIdx} {l' : Lot} (hf : NumberFits s k l'.number) :
    LotLaw (s.putLot k (some l')) := by
  rcases hf with hf | ⟨l, hl, hn⟩
  · have ⟨htable, hout⟩ := not_lotDuplicate hf
    exact hs.putLot_some (fun j m hj hm he => htable j m hj hm he.symm) hout
  · exact hs.putLot_same hl hn.symm

theorem robust_lotLaw : Robust LotLaw where
  pending _ _ hs := { hs with }
  reports _ _ _ hs := { hs with }
  charTime _ _ hs := { hs with }
  reset _ _ _ := {
    table i j l m hl := by rw [lotAt_resetWith] at hl; cases hl
    apart i l hl := by rw [lotAt_resetWith] at hl; cases hl
    list := List.nodup_nil }
  loop _ _ _ hs := { hs with }
  stream _ _ _ _ hs := { hs with }
  tally _ _ _ _ hs := { hs with }
  capture _ _ hs := { hs with }
  lot _ _ _ _ hl hg hs := hs.putLot_same hl hg.number
  book _ _ _ _ _ _ hl _ hs := hs.putLot_same hl rfl
  load _ _ _ _ hf hs := hs.load hf
  extend _ _ _ _ hl _ _ hs := hs.putLot_same hl rfl
  drop _ k hs := hs.putLot_none k
  complete _ _ _ hl _ hs := hs.complete hl
  release s p hs := { hs with
    apart := fun i l hl r hr => hs.apart i l hl r (List.mem_of_mem_filter hr)
    list := hs.list.sublist (List.filter_sublist.map _) }
  hold _ _ _ hs := { hs with }
  seg _ _ _ hs := { hs with }
  alloc _ _ hs := { hs with }
  bin _ _ _ _ hs := { hs with }
  mgmt _ _ _ hs := { hs with }
  judged _ _ _ hs := judgeAlert_keeps (P := LotLaw) _ { hs with } fun _ _ h => { h with }
  lamps _ _ _ _ hs := { hs with }
  tick _ hs := { hs with }

/-- Settles O13: a number enters the table only where no other entry and no out-turn record holds it, and leaves it for
the out-turn list when its lot completes. -/
theorem lotNumbersStayUnique : Obligations.LotNumbersStayUnique := robust_lotLaw.step

/-! ## Delivery sums (R20) -/

/-- None of a lot's gram sums has reached its saturation. -/
def Lot.Unsaturated (l : Lot) : Prop :=
  l.certified < maxGrams ∧ l.uncertified < maxGrams ∧ ∀ d ∈ l.bins, d.grams < maxGrams

/-- No bin is named twice, and what is delivered sums to what is booked, unless a sum has saturated. -/
structure Lot.Delivered (l : Lot) : Prop where
  once : (l.bins.map (·.bin)).Nodup
  sum : l.Unsaturated → (l.bins.map (·.grams)).sum = l.certified + l.uncertified

theorem satAdd_lt {n g : Nat} (h : satAdd n g < maxGrams) : n < maxGrams ∧ satAdd n g = n + g := by
  unfold satAdd at h ⊢
  omega

theorem addDelivery_bins (b : BinIdx) (g : Nat) (l : List Delivery) :
    (addDelivery b g l).map (·.bin) = l.map (·.bin) := by
  rw [addDelivery, List.map_map]
  refine List.map_congr_left fun d _ => ?_
  simp only [Function.comp]
  split <;> rfl

theorem addDelivery_of_not_mem {b : BinIdx} {l : List Delivery} (g : Nat) (h : b ∉ l.map (·.bin)) :
    addDelivery b g l = l := by
  refine (List.map_congr_left fun d hd => ?_).trans (List.map_id l)
  rw [if_neg fun he => h (List.mem_map.mpr ⟨d, hd, he⟩)]
  rfl

/-- A booking to a bin named once adds its grams to the deliveries' sum, while the entry does not saturate. -/
theorem addDelivery_sum {b : BinIdx} {g : Nat} {l : List Delivery} (hnd : (l.map (·.bin)).Nodup)
    (hb : b ∈ l.map (·.bin)) (hsat : ∀ d ∈ l, d.bin = b → satAdd d.grams g = d.grams + g) :
    ((addDelivery b g l).map (·.grams)).sum = (l.map (·.grams)).sum + g := by
  induction l with
  | nil => cases hb
  | cons d l ih =>
    obtain ⟨hd, hnd'⟩ := List.nodup_cons.mp hnd
    have hcons : addDelivery b g (d :: l) =
        (if d.bin = b then { d with grams := satAdd d.grams g } else d) :: addDelivery b g l := rfl
    by_cases he : d.bin = b
    · rw [hcons, if_pos he, addDelivery_of_not_mem g (he ▸ hd)]
      simp only [List.map_cons, List.sum_cons, hsat d List.mem_cons_self he]
      omega
    · have hb' : b ∈ l.map (·.bin) := (List.mem_cons.mp hb).resolve_left fun h => he h.symm
      rw [hcons, if_neg he]
      simp only [List.map_cons, List.sum_cons]
      rw [ih hnd' hb' fun e hm => hsat e (List.mem_cons_of_mem d hm)]
      omega

theorem mem_bins_of_takes {l : Lot} {b : BinIdx} (h : l.takes b = true) : b ∈ l.bins.map (·.bin) := by
  obtain ⟨-, hany⟩ := Bool.and_eq_true_iff.mp h
  obtain ⟨d, hd, he⟩ := List.any_eq_true.mp hany
  exact List.mem_map.mpr ⟨d, hd, by simpa using he⟩

/-- A booking adds the same grams to one delivery entry and to one of the two sums. -/
theorem Lot.Delivered.book {l : Lot} (h : l.Delivered) {b : BinIdx} (hb : b ∈ l.bins.map (·.bin)) (g : Nat) (c : Bool) :
    (l.book b g c).Delivered := by
  refine ⟨(addDelivery_bins b g l.bins).symm ▸ h.once, fun ⟨hcert, hunc, hdel⟩ => ?_⟩
  have hentry : ∀ d ∈ l.bins, d.bin = b → d.grams < maxGrams ∧ satAdd d.grams g = d.grams + g := fun d hd he => by
    have hmem : { d with grams := satAdd d.grams g } ∈ addDelivery b g l.bins :=
      List.mem_map.mpr ⟨d, hd, if_pos he⟩
    exact satAdd_lt (hdel _ hmem)
  have hold : ∀ d ∈ l.bins, d.grams < maxGrams := fun d hd => by
    by_cases he : d.bin = b
    · exact (hentry d hd he).1
    · exact hdel d (List.mem_map.mpr ⟨d, hd, if_neg he⟩)
  have hsum := addDelivery_sum h.once hb fun d hd he => (hentry d hd he).2
  show ((addDelivery b g l.bins).map _).sum = _
  rw [hsum]
  cases c with
  | true =>
    obtain ⟨hlt, heq⟩ := satAdd_lt hcert
    have hs := h.sum ⟨hlt, hunc, hold⟩
    show _ = satAdd l.certified g + l.uncertified
    omega
  | false =>
    obtain ⟨hlt, heq⟩ := satAdd_lt hunc
    have hs := h.sum ⟨hcert, hlt, hold⟩
    show _ = l.certified + satAdd l.uncertified g
    omega

theorem map_grams_fresh (bs : List BinIdx) : ((bs.map fun b => (⟨b, 0⟩ : Delivery)).map (·.grams)).sum = 0 := by
  induction bs with
  | nil => rfl
  | cons b bs ih => simp only [List.map_cons, List.sum_cons, ih, Nat.add_zero]

theorem map_bin_fresh (bs : List BinIdx) : (bs.map fun b => (⟨b, 0⟩ : Delivery)).map (·.bin) = bs := by
  rw [List.map_map]
  exact List.map_id bs

theorem LotRecord.planned_delivered {r : LotRecord} (h : r.bins.Nodup) : r.planned.Delivered :=
  ⟨(map_bin_fresh r.bins).symm ▸ h, fun _ => map_grams_fresh r.bins⟩

/-- The bins a write appends follow those the lot holds, so the list is the record's (R6). -/
theorem LotRecord.extended_bins {r : LotRecord} {l : Lot} (h : r.continues l = true) :
    (r.extended l).bins.map (·.bin) = r.bins := by
  obtain ⟨-, htake⟩ := Bool.and_eq_true_iff.mp h
  have ht : r.bins.take l.bins.length = l.bins.map (·.bin) := of_decide_eq_true htake
  show (l.bins ++ (r.bins.drop l.bins.length).map fun b => (⟨b, 0⟩ : Delivery)).map (·.bin) = r.bins
  rw [List.map_append, map_bin_fresh, ← ht, List.take_append_drop]

theorem Lot.Delivered.extended {l : Lot} (h : l.Delivered) {r : LotRecord} (hr : r.bins.Nodup)
    (hc : r.continues l = true) : (r.extended l).Delivered := by
  refine ⟨(LotRecord.extended_bins hc).symm ▸ hr, fun ⟨hcert, hunc, hdel⟩ => ?_⟩
  have hs := h.sum ⟨hcert, hunc, fun d hd => hdel d (List.mem_append_left _ hd)⟩
  show ((l.bins ++ (r.bins.drop l.bins.length).map fun b => (⟨b, 0⟩ : Delivery)).map (·.grams)).sum = _
  rw [List.map_append, List.sum_append, map_grams_fresh, hs]
  rfl

/-- Every lot of the table is `Delivered`. -/
def Deliveries (s : State) : Prop := ∀ k l, s.lotAt k = some l → l.Delivered

theorem Deliveries.putLot {s : State} (hs : Deliveries s) (k : LotIdx) {l : Lot} (hl : l.Delivered) :
    Deliveries (s.putLot k (some l)) := forall_lotAt_putLot k hs fun _ hm => Option.some.inj hm ▸ hl

theorem robust_deliveries : Robust Deliveries where
  pending _ _ := id
  reports _ _ _ := id
  charTime _ _ := id
  reset _ _ _ k l hl := by rw [lotAt_resetWith] at hl; cases hl
  loop _ _ _ := id
  stream _ _ _ _ := id
  tally _ _ _ _ := id
  capture _ _ := id
  lot s k l l' hl hg hs := hs.putLot k ⟨hg.bins ▸ (hs k l hl).once, fun hu => by
    rw [Lot.Unsaturated, hg.bins, hg.certified, hg.uncertified] at hu
    rw [hg.bins, hg.certified, hg.uncertified]
    exact (hs k l hl).sum hu⟩
  book s k l b g c hl ht hs := hs.putLot k ((hs k l hl).book (mem_bins_of_takes ht) g c)
  load s k r hnd _ hs := hs.putLot k (LotRecord.planned_delivered hnd)
  extend s k l r hl hnd hc hs := hs.putLot k ((hs k l hl).extended hnd hc)
  drop _ k hs := forall_lotAt_putLot k hs nofun
  complete _ k _ _ _ hs := forall_lotAt_putLot (s := State.putOutturn _ _) k hs nofun
  release _ _ := id
  hold _ _ _ := id
  seg _ _ _ := id
  alloc _ _ := id
  bin _ _ _ _ := id
  mgmt _ _ _ := id
  judged _ _ _ hs := judgeAlert_keeps (P := Deliveries) _ hs fun _ _ h => h
  lamps _ _ _ _ := id
  tick _ := id

/-- Settles O14: a sum that has saturated stays so, and until then a booking enters one delivery entry and one of the
lot's two sums alike. -/
theorem deliverySumsKept : Obligations.DeliverySumsKept := by
  intro s t hs ht hunsat k l hl
  have hd : Deliveries s := fun k l hl => ⟨(hs k l hl).1, fun _ => (hs k l hl).2⟩
  have hkept := robust_deliveries.step s t hd ht k l hl
  exact ⟨hkept.once, hkept.sum (hunsat k l hl)⟩

end Sys2Proof.Machine
end

section
/-! Steps, resets, and what the taking of reports leaves alone. -/

namespace Sys2Proof.Machine

/-! ## Steps and outcomes -/

/-- Settles O1. -/
theorem stepRunsFrontCommand : Obligations.StepRunsFrontCommand := by
  intro c rest s hs
  rw [step, hs]

/-- Settles O2: every arm of `exec` ends in `next`. -/
theorem everyCommandAnswersNext : Obligations.EveryCommandAnswersNext := by
  intro c s
  cases c <;> exact ⟨_, rfl⟩

/-! ## Reset -/

theorem latchAddress_toNat (straps : BitVec 6) :
    latchAddress straps.toNat = if straps = 63 then 62 else straps.toNat := by
  have h : straps.toNat = 63 ↔ straps = 63 := ⟨fun h => BitVec.eq_of_toNat_eq h, fun h => h ▸ rfl⟩
  simp only [latchAddress, h]

theorem eventsAtReset_get (k : Fin 18) :
    eventsAtReset.get k = if k = 0 then ⟨true, 1, 0, false⟩ else ⟨false, 0, 0, false⟩ := by
  simp only [eventsAtReset, Tbl.get_set, Tbl.get_fill, eq_comm (a := (0 : Fin 18))]

/-- Settles O3: each block's table is filled with its record's reset values. -/
theorem resetLeavesResetValues : Obligations.ResetLeavesResetValues := by
  intro straps calen s
  refine ⟨State.resetWith straps.toNat calen s.pending, rfl, ?loop, fun i => ?stream, tallyOf_resetWith _ _ _, rfl,
    Tbl.get_fill _, lotAt_resetWith _ _ _, rfl, seg_resetWith _ _ _, Tbl.get_fill _, rfl, Tbl.get_fill _,
    bin_resetWith _ _ _, rfl, eventsAtReset_get, rfl, rfl, rfl, fun n => ?lamp⟩
  case loop => rw [← latchAddress_toNat]; rfl
  case stream => simp [stream_resetWith, Stream.reset, StreamConfig.reset]
  case lamp =>
    have hn : (State.resetWith straps.toNat calen s.pending).ind.lamps.get n = lampAtReset n := Tbl.get_ofIndex _ _
    rw [hn]
    exact ⟨rfl, rfl⟩

@[simp] theorem IdxSet.isEmpty_empty (n : Nat) : (IdxSet.empty n).isEmpty = true := by
  simp [IdxSet.isEmpty, IdxSet.card, IdxSet.empty, Tbl.fill, List.count_replicate]

theorem Segment.law_reset : Segment.reset.Law where
  configured h := absurd rfl h
  settings _ h := by cases h
  owner := ⟨fun _ => rfl, fun _ => rfl⟩
  atRest _ := ⟨rfl, IdxSet.isEmpty_empty 8⟩
  kind h := by rcases h with h | h | h <;> cases h
  feeders := ⟨fun h => absurd (IdxSet.isEmpty_empty 8) (ne_true_of_eq_false h), fun h => by
    rcases h with h | ⟨h, -⟩ <;> cases h⟩
  active h := absurd (IdxSet.isEmpty_empty 8) (ne_true_of_eq_false h)
  subset i h := absurd h (by simp [Segment.reset])
  share := ⟨by decide, by decide⟩
  staged h := by cases h
  underFlow h := by cases h

theorem Stream.law_reset : Stream.reset.Law where
  held h := by cases h
  free _ := rfl
  lot := ⟨nofun, fun h => by rcases h with h | h | h <;> cases h⟩
  route := ⟨nofun, fun h => by rcases h with h | h <;> cases h⟩
  mark h := by cases h
  noBin := rfl
  faulted := by simp [Stream.reset, HoldSet.none]
  meter := rfl
  silence h := by cases h
  permit := ⟨nofun, nofun⟩
  drain h := by cases h

/-- Settles O4. -/
theorem resetMeetsEveryLaw : Obligations.ResetMeetsEveryLaw := by
  refine ⟨rfl, fun straps calen waiting => ?_⟩
  refine ⟨(loopLaw_iff _).mpr (Loop.law_reset straps), (accountLaw_iff _).mpr (robust_accounts.reset _ _ _),
    (alertLaw_iff _).mpr (robust_alertLaw.reset _ _ _), robust_binLaw.reset _ _ _,
    fun g => (seg_resetWith _ _ _ g).symm ▸ Segment.law_reset, ?gate, ?control,
    fun i => (stream_resetWith _ _ _ i).symm ▸ Stream.law_reset, robust_lotLaw.reset _ _ _,
    fun k l hl => by rw [lotAt_resetWith] at hl; cases hl⟩
  case gate => exact {
    gate g b h := by rw [seg_resetWith] at h; cases h
    inlet b g h := by rw [bin_resetWith] at h; cases h
    none b _ := by rw [bin_resetWith]; exact ⟨rfl, rfl⟩
    filling b h := by rw [bin_resetWith] at h; cases h
    available b h := by rw [bin_resetWith] at h; cases h }
  case control => exact {
    once := List.nodup_nil
    waiting q hq := by cases hq
    unlock u hu := by cases hu
    held u hu := by cases hu
    capture c hc := by cases hc }

/-! ## The taking of reports (logs 5 and 16) -/

theorem lotKept_trans {l1 l2 : List Outturn} (hl : l1 <+: l2) {a b c : Option Lot} (h1 : lotKept l1 a b)
    (h2 : lotKept l2 b c) : lotKept l2 a c := by
  cases a with
  | none =>
    have hb : b = none := h1
    subst hb
    exact h2
  | some l =>
    cases b with
    | none =>
      have hc : c = none := h2
      subst hc
      obtain ⟨hcl, r, hr, hsame⟩ := h1
      exact ⟨hcl, r, hl.subset hr, hsame⟩
    | some l' =>
      have ha : l'.account = l.account := h1
      cases c with
      | some l'' => exact Eq.trans (show l''.account = l'.account from h2) ha
      | none =>
        obtain ⟨hcl, r, hr, hnum, hcert, hunc, hdel⟩ := h2
        obtain ⟨hnum', -, -, -, hclosing, -, -, hbins', hcert', hunc', -⟩ := LotAccount.mk.inj ha
        exact ⟨of_decide_eq_true (hclosing.symm.trans (decide_eq_true hcl)), r, hr, hnum.trans hnum',
          hcert.trans hcert', hunc.trans hunc', hdel.trans hbins'⟩

theorem lotKept_refl (out : List Outturn) (a : Option Lot) : lotKept out a a := by
  cases a with
  | none => rfl
  | some l => exact (rfl : l.account = l.account)

theorem KeptByReports.refl (s : State) : KeptByReports s s where
  pending := rfl
  charTime := rfl
  address := rfl
  crc := rfl
  fwdDrop := rfl
  mgmtDrop := rfl
  streams _ := rfl
  tallies _ := rfl
  holdMap := rfl
  outturn := List.prefix_rfl
  lots _ := lotKept_refl _ _
  segs _ := rfl
  routes := rfl
  bins _ := rfl
  input := rfl
  inHand := rfl
  lastSource := rfl
  restartLeft := rfl
  calen := rfl
  unlock := Or.inl rfl
  masks _ := rfl
  modes _ := rfl
  assigned _ := rfl
  forceOff := rfl
  forceOn := rfl

/-- Placing a frame changes the own-frame queue, its counter and the transmitter alone. -/
theorem choose_counters (l : Loop) : l.choose.address = l.address ∧ l.choose.crc = l.crc ∧
    l.choose.fwdDrop = l.fwdDrop ∧ l.choose.ownDrop = l.ownDrop ∧ l.choose.mgmtDrop = l.mgmtDrop := by
  unfold Loop.choose
  split
  · exact ⟨rfl, rfl, rfl, rfl, rfl⟩
  · split
    · exact ⟨rfl, rfl, rfl, rfl, rfl⟩
    · split <;> exact ⟨rfl, rfl, rfl, rfl, rfl⟩

theorem enqueue_counters (l : Loop) (f : OwnFrame) : (l.enqueue f).address = l.address ∧ (l.enqueue f).crc = l.crc ∧
    (l.enqueue f).fwdDrop = l.fwdDrop ∧ (l.enqueue f).mgmtDrop = l.mgmtDrop := by
  have happ : (l.append f).address = l.address ∧ (l.append f).crc = l.crc ∧ (l.append f).fwdDrop = l.fwdDrop ∧
      (l.append f).mgmtDrop = l.mgmtDrop := by
    unfold Loop.append
    split <;> exact ⟨rfl, rfl, rfl, rfl⟩
  unfold Loop.enqueue
  split
  · split
    · exact ⟨rfl, rfl, rfl, rfl⟩
    · exact happ
  · exact happ

theorem place_counters (s : State) (f : OwnFrame) : (s.place f).loop.address = s.loop.address ∧
    (s.place f).loop.crc = s.loop.crc ∧ (s.place f).loop.fwdDrop = s.loop.fwdDrop ∧
    (s.place f).loop.mgmtDrop = s.loop.mgmtDrop := by
  obtain ⟨ha, hc, hf, -, hm⟩ := choose_counters (s.loop.enqueue f)
  obtain ⟨ha', hc', hf', hm'⟩ := enqueue_counters s.loop f
  exact ⟨ha.trans ha', hc.trans hc', hf.trans hf', hm.trans hm'⟩

theorem refreshLamp_mode (s : State) (n : LampIdx) (l : Lamp) :
    (refreshLamp s n l).mode = l.mode ∧ (refreshLamp s n l).assigned = l.assigned := by
  unfold refreshLamp
  split
  · dsimp only
    split
    · split <;> exact ⟨rfl, rfl⟩
    · exact ⟨rfl, rfl⟩
  · exact ⟨rfl, rfl⟩

namespace KeptByReports

variable {s t : State} (h : KeptByReports s t)
include h

theorem withReports (a : List Report) (d : Bool) : KeptByReports s { t with agenda := a, passDue := d } := { h with
  streams := h.streams, tallies := h.tallies, lots := h.lots, segs := h.segs, bins := h.bins }

theorem place (f : OwnFrame) : KeptByReports s (t.place f) := by
  obtain ⟨ha, hc, hf, hm⟩ := place_counters t f
  exact { h with
    streams := h.streams, tallies := h.tallies, lots := h.lots, segs := h.segs, bins := h.bins
    address := ha.trans h.address, crc := hc.trans h.crc, fwdDrop := hf.trans h.fwdDrop
    mgmtDrop := hm.trans h.mgmtDrop }

theorem putInd (x : Indication) (hmask : ∀ k, (x.events.get k).mask = (t.ind.events.get k).mask)
    (hlamps : ∀ n, (x.lamps.get n).mode = (t.ind.lamps.get n).mode ∧
      (x.lamps.get n).assigned = (t.ind.lamps.get n).assigned)
    (hoff : x.forceOff = t.ind.forceOff) (hon : x.forceOn = t.ind.forceOn) : KeptByReports s (t.putInd x) := { h with
  streams := h.streams, tallies := h.tallies, lots := h.lots, segs := h.segs, bins := h.bins
  masks := fun k => (hmask k).trans (h.masks k)
  modes := fun n => (hlamps n).1.trans (h.modes n)
  assigned := fun n => (hlamps n).2.trans (h.assigned n)
  forceOff := hoff.trans h.forceOff
  forceOn := hon.trans h.forceOn }

theorem raise (k : EventKind) (n : Nat) : KeptByReports s (raise k n t) := by
  refine judgeAlert_keeps (P := KeptByReports s) _ ?_ fun _ f ht => ht.place f
  refine h.putInd _ (fun j => ?_) (fun _ => ⟨rfl, rfl⟩) rfl rfl
  show ((t.ind.events.set k.num _).get j).mask = _
  rw [Tbl.get_set]
  split
  next hj => subst hj; rfl
  next => rfl

theorem refresh : KeptByReports s (refreshLamps t) :=
  h.putInd _ (fun _ => rfl) (fun n => by rw [Tbl.get_ofIndex]; exact refreshLamp_mode t n _) rfl rfl

theorem putStream {i : StreamIdx} {x : Stream} (hx : x.account = (t.stream i).account) :
    KeptByReports s (t.putStream i x) := { h with
  tallies := h.tallies, lots := h.lots, segs := h.segs, bins := h.bins
  streams := fun j => by
    rw [State.stream_putStream]
    split
    next hj => exact hj ▸ hx.trans (h.streams i)
    next => exact h.streams j }

theorem putTally {i : StreamIdx} {x : Tally} (hx : x.account = (t.tallyOf i).account) :
    KeptByReports s (t.putTally i x) := { h with
  streams := h.streams, lots := h.lots, segs := h.segs, bins := h.bins
  tallies := fun j => by
    rw [State.tallyOf_putTally]
    split
    next hj => exact hj ▸ hx.trans (h.tallies i)
    next => exact h.tallies j }

theorem putSeg {g : SegIdx} {x : Segment} (hx : x.account = (t.seg g).account) : KeptByReports s (t.putSeg g x) := {
  h with
  streams := h.streams, tallies := h.tallies, lots := h.lots, bins := h.bins
  segs := fun j => by
    rw [State.seg_putSeg]
    split
    next hj => exact hj ▸ hx.trans (h.segs g)
    next => exact h.segs j }

theorem putBin {b : BinIdx} {x : Bin} (hx : x.account = (t.bin b).account) : KeptByReports s (t.putBin b x) := { h with
  streams := h.streams, tallies := h.tallies, lots := h.lots, segs := h.segs
  bins := fun j => by
    rw [State.bin_putBin]
    split
    next hj => exact hj ▸ hx.trans (h.bins b)
    next => exact h.bins j }

/-- A lot table entry replaced, the out-turn list grown, so that the entry is kept. -/
theorem putLot {k : LotIdx} {x : Option Lot} {out : List Outturn} (hout : t.lot.outturn <+: out)
    (hx : lotKept out (t.lotAt k) x) : KeptByReports s ((t.putOutturn out).putLot k x) := { h with
  streams := h.streams, tallies := h.tallies, segs := h.segs, bins := h.bins
  outturn := h.outturn.trans hout
  lots := fun j => by
    rw [State.lotAt_putLot]
    split
    next hj => exact hj ▸ lotKept_trans hout (h.lots k) hx
    next => exact lotKept_trans hout (h.lots j) (lotKept_refl _ _) }

end KeptByReports

theorem kept_keptByReports (s : State) : Kept (KeptByReports s) where
  reports _ a d h := h.withReports a d
  stream _ _ _ hx h := h.putStream hx
  report _ _ _ h := h.putTally rfl
  capture _ h := { h with
    streams := h.streams, tallies := h.tallies, lots := h.lots, segs := h.segs, bins := h.bins }
  unlock _ h := { h with
    streams := h.streams, tallies := h.tallies, lots := h.lots, segs := h.segs, bins := h.bins, unlock := Or.inr rfl }
  lot t _ _ _ hl ha h := h.putLot (out := t.lot.outturn) List.prefix_rfl (hl ▸ ha)
  complete _ _ l hl hc _ h := h.putLot (List.prefix_append _ _)
    (hl ▸ ⟨hc, l.outturnRecord, List.mem_append_right _ (List.mem_singleton_self _), rfl, rfl, rfl, rfl⟩)
  seg _ _ _ hx h := h.putSeg hx
  bin _ _ _ hx h := h.putBin hx
  queue _ _ h := { h with
    streams := h.streams, tallies := h.tallies, lots := h.lots, segs := h.segs, bins := h.bins }
  staging _ _ _ h := { h with
    streams := h.streams, tallies := h.tallies, lots := h.lots, segs := h.segs, bins := h.bins }
  place _ f h := h.place f
  raise _ k n h := h.raise k n
  lamps _ h := h.refresh

/-- With no report waiting and no occasion for a pass, the one report taken is the pass that finds none. -/
theorem settled_of_quiet {s : State} (h : s.quiet = true) : settled s = refreshLamps s := by
  obtain ⟨ha, hd⟩ := Bool.and_eq_true_iff.mp h
  have hagenda : s.agenda = [] := List.isEmpty_iff.mp ha
  have hdue : s.passDue = false := by simpa using hd
  have hnext : takeNext (s.emit .pass) = s := by
    simp only [takeNext, State.emit_agenda, hagenda, List.nil_append, takeReport, State.emit_passDue, hdue,
      Bool.false_eq_true, if_false]
    cases s
    subst hagenda hdue
    rfl
  have hne : (s.emit .pass).agenda.isEmpty = false := by rw [State.emit_agenda, hagenda]; rfl
  have hsettle : ∀ n, settle n s = s := fun n => by
    cases n with
    | zero => rfl
    | succ n => rw [settle, ha, if_pos rfl]
  rw [settled, show reportBound = 4095 + 1 from rfl, settle, hne, if_neg Bool.false_ne_true, hnext, hsettle]

/-- Settles O16: each update made while reports are taken differs from its state within the frame. -/
theorem settlementFrame : Obligations.SettlementFrame :=
  ⟨fun s => (kept_keptByReports s).settled s (KeptByReports.refl s), fun _ => settled_of_quiet⟩

end Sys2Proof.Machine
end

section
/-! Received frames: their bytes, their judgement and their disposition (R147, R148, R150, R157). -/

namespace Sys2Proof.Machine

/-! ## Fields of more than one byte (R158) -/

@[simp] theorem length_bytesOf (k n : Nat) : (bytesOf k n).length = k := by
  induction k with
  | zero => rfl
  | succ k ih => rw [bytesOf, List.length_cons, ih]

theorem toNat_append_byte {w : Nat} (x : BitVec w) (b : Byte) : (x ++ b).toNat = x.toNat * 256 + b.toNat := by
  rw [BitVec.toNat_append, ← Nat.shiftLeft_add_eq_or_of_lt b.isLt, Nat.shiftLeft_eq]

theorem ofNat_toNat_byte (b : Byte) : BitVec.ofNat 8 b.toNat = b := by simp

theorem bytesOf_one (n : Nat) : bytesOf 1 n = [BitVec.ofNat 8 n] := by simp [bytesOf]

theorem bytesOf_succ_append (k : Nat) {w : Nat} (x : BitVec w) (b : Byte) :
    bytesOf (k + 1) (x ++ b).toNat = bytesOf k x.toNat ++ [b] := by
  induction k with
  | zero =>
    refine (bytesOf_one _).trans (congrArg (fun c : Byte => [c]) (BitVec.eq_of_toNat_eq ?_))
    have hb := b.isLt
    simp only [toNat_append_byte, BitVec.toNat_ofNat]
    omega
  | succ k ih =>
    have hb : b.toNat < 256 := b.isLt
    rw [bytesOf, ih, bytesOf, List.cons_append]
    congr 2
    rw [toNat_append_byte, Nat.pow_succ', ← Nat.div_div_eq_div_mul]
    congr 1
    omega

@[simp] theorem bytesOf_append_two (a b : Byte) : bytesOf 2 (a ++ b).toNat = [a, b] := by
  rw [bytesOf_succ_append 1 a b, bytesOf_one, ofNat_toNat_byte]
  rfl

@[simp] theorem bytesOf_append_three (a b c : Byte) : bytesOf 3 (a ++ b ++ c).toNat = [a, b, c] := by
  rw [bytesOf_succ_append 2 (a ++ b) c, bytesOf_append_two]
  rfl

@[simp] theorem natOfBytes_singleton (b : Byte) : natOfBytes [b] = b.toNat := by simp [natOfBytes]

@[simp] theorem natOfBytes_pair (a b : Byte) : natOfBytes [a, b] = (a ++ b).toNat := by
  rw [toNat_append_byte]
  simp [natOfBytes]

/-! ## The envelope (R147, R148) -/

/-- What `judgeFrame` tests, and the frame it reads. -/
theorem judgeFrame_eq_some_iff (d src kind len : Byte) (rest : List Byte) (f : Frame) :
    judgeFrame (d :: src :: kind :: len :: rest) = some f ↔
      len.toNat ≤ 48 ∧ rest.length = len.toNat + 2 ∧ f = ⟨d, src, kind, rest.take len.toNat⟩ ∧
        rest.drop len.toNat = bytesOf 2 (crcOf f.body).toNat := by
  simp only [judgeFrame, Option.ite_none_right_eq_some, Option.some.injEq, and_assoc]
  constructor
  · rintro ⟨hle, hlen, hcrc, rfl⟩
    exact ⟨hle, hlen, rfl, hcrc⟩
  · rintro ⟨hle, hlen, rfl, hcrc⟩
    exact ⟨hle, hlen, hcrc, rfl⟩

theorem Frame.bytes_eq (f : Frame) : f.bytes =
    f.dst :: f.src :: f.kind :: BitVec.ofNat 8 f.payload.length :: (f.payload ++ bytesOf 2 (crcOf f.body).toNat) := rfl

theorem judgeFrame_bytes {f : Frame} (h : f.payload.length ≤ 48) : judgeFrame f.bytes = some f := by
  have hlen : (BitVec.ofNat 8 f.payload.length).toNat = f.payload.length := by
    rw [BitVec.toNat_ofNat]
    omega
  rw [Frame.bytes_eq, judgeFrame_eq_some_iff, hlen]
  refine ⟨h, by simp, by rw [List.take_left], by rw [List.drop_left]⟩

/-- Settles O17: the length byte says where the payload ends and the CRC begins, so the bytes fix the frame. -/
theorem goodFramesAreFrameBytes : Obligations.GoodFramesAreFrameBytes := by
  intro chars f
  constructor
  · match chars with
    | d :: src :: kind :: len :: rest =>
      intro h
      obtain ⟨hle, hlen, rfl, hcrc⟩ := (judgeFrame_eq_some_iff ..).mp h
      have hpay : (rest.take len.toNat).length = len.toNat := by
        rw [List.length_take]
        omega
      refine ⟨hpay.trans_le hle, ?_⟩
      rw [Frame.bytes_eq, ← hcrc]
      dsimp only
      rw [hpay, ofNat_toNat_byte, List.take_append_drop]
    | [] | [_] | [_, _] | [_, _, _] => exact nofun
  · rintro ⟨h, rfl⟩
    exact judgeFrame_bytes h

/-! ## Disposition (R150, R151, R157) -/

theorem exec_frameReceived_bad {chars : List Byte} (h : judgeFrame chars = none) (s : State) :
    exec (.frameReceived chars) s = happens (badFrame s) := by
  show execFrameReceived chars s = _
  rw [execFrameReceived, h]
  rfl

theorem exec_frameReceived_good {chars : List Byte} {f : Frame} (h : judgeFrame chars = some f) (s : State) :
    exec (.frameReceived chars) s = happens (receiveGood f s) := by
  show execFrameReceived chars s = _
  rw [execFrameReceived, h]
  rfl

section Good

variable {f : Frame} {s : State}

theorem receiveGood_own (h : f.src.toNat = s.loop.address) : receiveGood f s = s := by
  simp [receiveGood, ownSource, h]

theorem receiveGood_consumed (h : f.src.toNat ≠ s.loop.address) (hd : f.dst.toNat = s.loop.address) :
    receiveGood f s = consume f s := by
  simp [receiveGood, ownSource, h, hd]

theorem sampleOf_eq_none {l : List Byte} (h : l.length ≠ 9) : sampleOf l = none := by
  unfold sampleOf
  split
  · exact absurd rfl h
  · rfl

theorem receiveGood_forwarded (h : f.src.toNat ≠ s.loop.address) (hd : f.dst.toNat ≠ s.loop.address)
    (hk : ¬(f.dst = 63 ∧ f.kind = 1 ∧ f.payload.length = 9)) : receiveGood f s = s.forward f := by
  have hns : (f.dst = broadcast ∧ f.kind = kindSample) → sampleOf f.payload = none := fun hb =>
    sampleOf_eq_none fun hl => hk ⟨hb.1, hb.2, hl⟩
  simp only [receiveGood, ownSource, h, hd, decide_false, Bool.false_eq_true, if_false]
  split
  next hb => rw [hns hb]
  next => rfl

/-- A broadcast SAMPLE of length 9 is the frame its fields spell, so it is examined and forwarded as SAMPLE is. -/
theorem receiveGood_sample {a t u c d e hc l g : Byte} (h : f.src.toNat ≠ s.loop.address)
    (hd : f.dst.toNat ≠ s.loop.address) (hdst : f.dst = 63) (hkind : f.kind = 1)
    (hp : f.payload = [a, t, u, c, d, e, hc, l, g]) :
    receiveGood f s = examineSample f.src ⟨a, t ++ u, c ++ d ++ e, hc, l, g⟩
      (s.forward ⟨broadcast, f.src, kindSample, samplePayload ⟨a, t ++ u, c ++ d ++ e, hc, l, g⟩⟩) := by
  have hf : (⟨broadcast, f.src, kindSample, samplePayload ⟨a, t ++ u, c ++ d ++ e, hc, l, g⟩⟩ : Frame) = f := by
    obtain ⟨dst, src, kind, payload⟩ := f
    subst hdst hkind hp
    simp [samplePayload, broadcast, kindSample]
  have hb : f.dst = broadcast ∧ f.kind = kindSample := ⟨hdst, hkind⟩
  rw [hf]
  simp only [receiveGood, ownSource, h, hd, decide_false, Bool.false_eq_true, if_false, if_pos hb]
  rw [hp]
  rfl

end Good

theorem exec_sample_of_other {src : Byte} {s : State} (h : src.toNat ≠ s.loop.address) (f : SampleFields) :
    exec (.sample src f) s =
      happens (examineSample src f (s.forward ⟨broadcast, src, kindSample, samplePayload f⟩)) := by
  show execSample src f s = _
  simp [execSample, event, ownSource, h]

theorem exec_level_of_other {src : Byte} {s : State} (h : src.toNat ≠ s.loop.address) (v : BitVec 16) :
    exec (.level src v) s = happens (levelReported src.toNat v.toNat s) := by
  show execLevel src v s = _
  simp [execLevel, event, ownSource, h]

theorem exec_posrep_of_other {src : Byte} {s : State} (h : src.toNat ≠ s.loop.address) (p : Byte) :
    exec (.posrep src p) s = happens (posrepReceived src.toNat p.toNat s) := by
  show execPosrep src p s = _
  simp [execPosrep, event, ownSource, h]

theorem exec_manage_of_other {src : Byte} {s : State} (h : src.toNat ≠ s.loop.address) (tag : BitVec 16) (code : Byte)
    (args : List Byte) : exec (.manage src tag code args) s = happens (manageReceived ⟨src, tag, code, args⟩ s) := by
  show execManage src tag code args s = _
  simp [execManage, event, ownSource, h]

section Consumed

variable {f : Frame} (s : State)

theorem consume_level {a b : Byte} (hk : f.kind = 2) (hp : f.payload = [a, b]) :
    consume f s = levelReported f.src.toNat (a ++ b).toNat s := by
  simp [consume, kindLevel, hk, hp]

theorem consume_posrep {p : Byte} (hk : f.kind = 5) (hp : f.payload = [p]) :
    consume f s = posrepReceived f.src.toNat p.toNat s := by
  simp [consume, kindLevel, kindPosrep, hk, hp]

theorem consume_manage {a b c : Byte} {args : List Byte} (hk : f.kind = 7) (hp : f.payload = a :: b :: c :: args) :
    consume f s = manageReceived ⟨f.src, a ++ b, c, args⟩ s := by
  simp [consume, kindLevel, kindPosrep, kindManage, hk, hp]

theorem consume_other (hl : ¬(f.kind = 2 ∧ f.payload.length = 2)) (hp : ¬(f.kind = 5 ∧ f.payload.length = 1))
    (hm : ¬(f.kind = 7 ∧ 3 ≤ f.payload.length)) : consume f s = s :=
  (if_neg hl).trans ((if_neg hp).trans (if_neg hm))

end Consumed

/-- Settles O18: the cases of R150 in their order, each handed to the row of its kind. -/
theorem frameReceivedDisposition : Obligations.FrameReceivedDisposition := by
  intro chars s
  refine ⟨fun hbad => ?bad, fun f hgood => ⟨fun hown => ?own, fun hsrc hdst => ?consumed, fun hsrc hdst => ?passed⟩⟩
  case bad =>
    rw [exec_frameReceived_bad hbad, badFrame]
    exact ⟨fun h => by simp [h, countUp], fun h => by simp [h, countUp]⟩
  case own => rw [exec_frameReceived_good hgood, receiveGood_own hown]
  case consumed =>
    rw [exec_frameReceived_good hgood, receiveGood_consumed hsrc hdst]
    refine ⟨fun a b hk hp => ?_, fun p hk hp => ?_, fun a b c args hk hp => ?_, fun hl hp hm => ?_⟩
    · rw [consume_level s hk hp, exec_level_of_other hsrc]
    · rw [consume_posrep s hk hp, exec_posrep_of_other hsrc]
    · rw [consume_manage s hk hp, exec_manage_of_other hsrc]
    · rw [consume_other s hl hp hm]
  case passed =>
    rw [exec_frameReceived_good hgood]
    refine ⟨fun a t u c d e h l g hd hk hp => ?_, fun hk => ?_⟩
    · rw [receiveGood_sample hsrc hdst hd hk hp, exec_sample_of_other hsrc]
    · rw [receiveGood_forwarded hsrc hdst hk]

end Sys2Proof.Machine
end

section
/-! Frames placed in the own-frame queue and the forward buffer, and the transmitter's choice (R149, R152 to R156). -/

namespace Sys2Proof.Machine
namespace Loop

variable {l : Loop}

/-! ## The transmitter (R156) -/

/-- A transmitter that is sending goes on with its frame. -/
theorem choose_of_sending {g : Frame} (h : l.tx = some g) : l.choose = l := by
  rw [Loop.choose, h]

theorem choose_of_forward {f : Frame} {r : List Frame} (h : l.tx = none) (hf : l.forward = f :: r) :
    l.choose = { l with forward := r, tx := some f, txLeft := f.payload.length + 9 } := by
  rw [Loop.choose, h, hf]
  rfl

theorem choose_of_own {o : OwnFrame} {r : List OwnFrame} (h : l.tx = none) (hf : l.forward = []) (ho : l.own = o :: r) :
    l.choose = { l with own := r, tx := some (o.toFrame l.address)
                        txLeft := (o.toFrame l.address).payload.length + 9 } := by
  rw [Loop.choose, h, hf, ho]
  rfl

theorem choose_of_nothing (h : l.tx = none) (hf : l.forward = []) (ho : l.own = []) : l.choose = l := by
  rw [Loop.choose, h, hf, ho]

/-! ## The own-frame queue (R153, R154) -/

theorem append_of_room (h : l.own.length < 24) (f : OwnFrame) : l.append f = { l with own := l.own ++ [f] } := if_pos h

theorem append_of_full (h : 24 ≤ l.own.length) (f : OwnFrame) :
    l.append f = { l with ownDrop := min 255 (l.ownDrop + 1) } := if_neg (Nat.not_lt.mpr h)

theorem any_isPermitOf_iff (q : List OwnFrame) (i : StreamIdx) :
    q.any (·.isPermitOf i) = true ↔ ∃ o ∈ q, o.permitStream = some i := by
  simp only [List.any_eq_true, isPermitOf_iff]

theorem enqueue_of_unsent {f : OwnFrame} {i : StreamIdx} (hf : f.permitStream = some i)
    (h : ∃ o ∈ l.own, o.permitStream = some i) :
    l.enqueue f = { l with own := l.own.map fun o => if o.permitStream = some i then f else o } := by
  simp only [Loop.enqueue, hf, if_pos ((any_isPermitOf_iff l.own i).mpr h), replacePermit, isPermitOf_iff]

theorem enqueue_of_new {f : OwnFrame} (h : ∀ o ∈ l.own, o.permitStream = none ∨ o.permitStream ≠ f.permitStream) :
    l.enqueue f = l.append f := by
  unfold Loop.enqueue
  split
  next i hi =>
    refine if_neg fun hany => ?_
    obtain ⟨o, ho, hoi⟩ := (any_isPermitOf_iff l.own i).mp hany
    rcases h o ho with hn | hn
    · rw [hn] at hoi
      cases hoi
    · exact hn (hoi.trans hi.symm)
  next => rfl

/-! ## The forward buffer (R152) -/

theorem forwardFrame_of_room (h : l.forward.length < 4) (f : Frame) :
    l.forwardFrame f = { l with forward := l.forward ++ [f] } := if_pos h

theorem forwardFrame_of_full (h : 4 ≤ l.forward.length) (f : Frame) :
    l.forwardFrame f = { l with fwdDrop := min 255 (l.fwdDrop + 1) } := if_neg (Nat.not_lt.mpr h)

end Loop

/-- A Loop interface's state changed, and the transmitter's choice after it. -/
theorem putLoop_choose {s : State} {l l' l'' : Loop} (h : l = l') (hc : l'.choose = l'') :
    s.putLoop l.choose = { s with loop := l'' } := by
  rw [h, hc]
  rfl

theorem exec_transmitEnd (s : State) : exec .transmitEnd s = .next (s.putLoop s.loop.frameSent) := rfl

theorem frameSent_of_idle {l : Loop} (h : l.tx = none) : l.frameSent = l := by
  rw [Loop.frameSent, h]

theorem frameSent_of_sending {l : Loop} {g : Frame} (h : l.tx = some g) :
    l.frameSent = ({ l with tx := none, txLeft := 0 } : Loop).choose := by
  rw [Loop.frameSent, h]

theorem toFrame_src (a : Nat) (o : OwnFrame) : (o.toFrame a).src = BitVec.ofNat 8 a := by
  cases o <;> rfl

/-- Settles O19: where the frame joins, then what the transmitter chooses. -/
theorem framePlacement : Obligations.FramePlacement := by
  refine ⟨fun s f => ⟨fun g i htx hf hold => ?unsent, fun g htx hnew => ?joins, fun htx hfwd hown => ?idle⟩,
    fun s => ⟨fun htx => ?nothing, fun g htx =>
      ⟨fun f r hfwd => ?next, fun o r hfwd hown => ?own, fun hfwd hown => ?rest⟩⟩,
    fun s f => ⟨fun g htx hroom => ?forwarded, fun g htx hfull => ?dropped, fun htx hfwd => ?passed⟩⟩
  case unsent => exact putLoop_choose (Loop.enqueue_of_unsent hf hold) (Loop.choose_of_sending htx)
  case joins =>
    have happ := Loop.enqueue_of_new hnew
    exact ⟨fun hroom => putLoop_choose (happ.trans (Loop.append_of_room hroom f)) (Loop.choose_of_sending htx),
      fun hfull => putLoop_choose (happ.trans (Loop.append_of_full hfull f)) (Loop.choose_of_sending htx)⟩
  case idle =>
    have hjoin : s.loop.enqueue f = { s.loop with own := [f] } := by
      rw [Loop.enqueue_of_new (by simp [hown]), Loop.append_of_room (by simp [hown]), hown]
      rfl
    refine (putLoop_choose hjoin (Loop.choose_of_own htx hfwd rfl)).trans ?_
    rw [← hown]
  case nothing =>
    rw [exec_transmitEnd, frameSent_of_idle htx]
    rfl
  case next =>
    rw [exec_transmitEnd, frameSent_of_sending htx]
    exact congrArg _ (putLoop_choose rfl (Loop.choose_of_forward rfl hfwd))
  case own =>
    refine ⟨_, ?_, rfl, toFrame_src _ _⟩
    rw [exec_transmitEnd, frameSent_of_sending htx]
    exact congrArg _ (putLoop_choose rfl (Loop.choose_of_own rfl hfwd hown))
  case rest =>
    rw [exec_transmitEnd, frameSent_of_sending htx]
    exact congrArg _ (putLoop_choose rfl (Loop.choose_of_nothing rfl hfwd hown))
  case forwarded => exact putLoop_choose (Loop.forwardFrame_of_room hroom f) (Loop.choose_of_sending htx)
  case dropped => exact putLoop_choose (Loop.forwardFrame_of_full hfull f) (Loop.choose_of_sending htx)
  case passed =>
    have hjoin : s.loop.forwardFrame f = { s.loop with forward := [f] } := by
      rw [Loop.forwardFrame_of_room (by simp [hfwd]), hfwd]
      rfl
    refine (putLoop_choose hjoin (Loop.choose_of_forward htx rfl)).trans ?_
    rw [← hfwd]

/-! ## Replies (R155, R156, R161) -/

theorem chunks44_of_le {n : Nat} {l : List Byte} (h : l.length ≤ 44) : chunks44 n l = [l] := by
  cases n with
  | zero => rfl
  | succ n => exact if_pos h

theorem chunks44_of_lt {n : Nat} {l : List Byte} (h : 44 < l.length) :
    chunks44 (n + 1) l = l.take 44 :: chunks44 n (l.drop 44) := if_neg (Nat.not_le.mpr h)

theorem chunks44_ne_nil (n : Nat) (l : List Byte) : chunks44 n l ≠ [] := by
  cases n with
  | zero => simp [chunks44]
  | succ n =>
    rw [chunks44]
    split <;> exact List.cons_ne_nil _ _

theorem chunks44_flatten (n : Nat) (l : List Byte) : (chunks44 n l).flatten = l := by
  induction n generalizing l with
  | zero => simp [chunks44]
  | succ n ih =>
    rw [chunks44]
    split
    · simp
    · rw [List.flatten_cons, ih, List.take_append_drop]

/-- What a cut piece is: 44 bytes but for the last, which is no longer, and not empty when there are data. -/
theorem chunks44_pieces {n : Nat} {l : List Byte} (h : l.length ≤ n) :
    (∀ d ∈ (chunks44 n l).dropLast, d.length = 44) ∧ (∀ d ∈ chunks44 n l, d.length ≤ 44) ∧
      (l ≠ [] → [] ∉ chunks44 n l) := by
  induction n generalizing l with
  | zero =>
    have hl : l = [] := List.eq_nil_of_length_eq_zero (Nat.le_zero.mp h)
    subst hl
    exact ⟨nofun, by simp [chunks44], fun hne => absurd rfl hne⟩
  | succ n ih =>
    by_cases hle : l.length ≤ 44
    · rw [chunks44_of_le hle]
      exact ⟨nofun, by simpa using hle, fun hne hm => hne (List.mem_singleton.mp hm).symm⟩
    · have hlt : 44 < l.length := Nat.not_le.mp hle
      have htake : (l.take 44).length = 44 := by
        rw [List.length_take]
        omega
      have hdrop : (l.drop 44).length = l.length - 44 := List.length_drop
      obtain ⟨hlast, hall, hempty⟩ := ih (l := l.drop 44) (by omega)
      rw [chunks44_of_lt hlt, List.dropLast_cons_of_ne_nil (chunks44_ne_nil _ _)]
      refine ⟨fun d hd => ?_, fun d hd => ?_, fun _ hm => ?_⟩
      · rcases List.mem_cons.mp hd with rfl | hd
        · exact htake
        · exact hlast d hd
      · rcases List.mem_cons.mp hd with rfl | hd
        · exact htake.le
        · exact hall d hd
      · rcases List.mem_cons.mp hm with he | hm
        · rw [← he] at htake
          cases htake
        · exact hempty (fun he => by rw [he] at hdrop; simp only [List.length_nil] at hdrop; omega) hm

theorem replyFrames_eq_mapIdx (q : Requester) (o : ReplyCode) (part : Nat) (ds : List (List Byte)) :
    replyFrames q o part ds = ds.mapIdx fun k d => .reply q.source q.tag o (part + k) (k + 1 == ds.length) d := by
  induction ds generalizing part with
  | nil => rfl
  | cons d ds ih =>
    cases ds with
    | nil => rfl
    | cons e es =>
      rw [replyFrames, ih, List.mapIdx_cons (l := e :: es)]
      · simp only [List.length_cons, Nat.add_assoc, Nat.add_comm 1, Nat.add_zero]
        congr 1
        simp
      · exact List.cons_ne_nil _ _

theorem enqueueReply_of_room {l : Loop} {ps : List OwnFrame} (h : l.own.length + ps.length ≤ 24) :
    l.enqueueReply ps = { l with own := l.own ++ ps } := if_pos h

theorem enqueueReply_of_full {l : Loop} {ps : List OwnFrame} (h : 24 < l.own.length + ps.length) :
    l.enqueueReply ps = { l with ownDrop := min 255 (l.ownDrop + ps.length) } := if_neg (Nat.not_le.mpr h)

theorem enqueueReply_counters (l : Loop) (ps : List OwnFrame) : (l.enqueueReply ps).address = l.address ∧
    (l.enqueueReply ps).crc = l.crc ∧ (l.enqueueReply ps).fwdDrop = l.fwdDrop ∧
    (l.enqueueReply ps).mgmtDrop = l.mgmtDrop := by
  unfold Loop.enqueueReply
  split <;> exact ⟨rfl, rfl, rfl, rfl⟩

theorem takeFrame_eq (m : Management) : m.takeFrame = { m with input := m.input.tail, inHand := m.input.head? } := by
  unfold Management.takeFrame
  split
  next h => simp [h]
  next h => simp [h]

theorem finishRequest_of_inHand {c : Instr} {s : State} (h : ∃ f, s.mgmt.inHand = some f ∧ decodeRequest f = c) :
    finishRequest c s = s.putMgmt { s.mgmt with input := s.mgmt.input.tail, inHand := s.mgmt.input.head? } := by
  obtain ⟨f, hf, hc⟩ := h
  simp only [finishRequest, hf, if_pos hc, takeFrame_eq]

theorem finishRequest_of_other {c : Instr} {s : State} (h : ¬∃ f, s.mgmt.inHand = some f ∧ decodeRequest f = c) :
    finishRequest c s = s := by
  unfold finishRequest
  split
  next f hf => exact if_neg fun hc => h ⟨f, hf, hc⟩
  next => rfl

/-- Settles O20: the pieces, where they join, and the frame in hand that the request was. -/
theorem replyPlacement : Obligations.ReplyPlacement := by
  intro c q o data s
  refine ⟨⟨chunks44 data.length data, ?pieces⟩, fun g htx => ⟨fun hroom => ?join, fun hfull => ?drop⟩,
    fun htx hfwd hown => ⟨fun first rest hparts hroom => ?sent, fun hfull => ?dropIdle⟩, ?frame,
    fun h => ?inHand, fun h => finishRequest_of_other h⟩
  case pieces =>
    obtain ⟨hlast, hall, hempty⟩ := chunks44_pieces (n := data.length) (l := data) le_rfl
    refine ⟨chunks44_ne_nil _ _, chunks44_flatten _ _, hlast, hall, hempty, fun hd => ?_, ?_⟩
    · subst hd
      rfl
    · rw [replyParts, replyFrames_eq_mapIdx]
      simp only [Nat.zero_add]
  case join => exact putLoop_choose (enqueueReply_of_room hroom) (Loop.choose_of_sending htx)
  case drop => exact putLoop_choose (enqueueReply_of_full hfull) (Loop.choose_of_sending htx)
  case sent =>
    have hjoin : s.loop.enqueueReply (replyParts q o data) = { s.loop with own := first :: rest } := by
      rw [hparts, enqueueReply_of_room (by simpa [hown] using hroom), hown]
      rfl
    exact putLoop_choose hjoin (Loop.choose_of_own htx hfwd rfl)
  case dropIdle =>
    exact putLoop_choose (enqueueReply_of_full (by simpa [hown] using hfull)) (Loop.choose_of_nothing htx hfwd hown)
  case frame =>
    obtain ⟨ha, hc, hf, -, hm⟩ := choose_counters (s.loop.enqueueReply (replyParts q o data))
    obtain ⟨ha', hc', hf', hm'⟩ := enqueueReply_counters s.loop (replyParts q o data)
    exact ⟨_, rfl, ha.trans ha', hc.trans hc', hf.trans hf', hm.trans hm'⟩
  case inHand => exact finishRequest_of_inHand (s := s.placeReply q o []) h

end Sys2Proof.Machine
end

section
/-! SUPPORT. What each operation that raises events, places frames, attaches streams or ends an unlock changes at most,
and the fields and records it leaves alone. -/

namespace Sys2Proof.Machine

variable (s : State)

/-! ## A frame placed or forwarded -/

theorem place_frame (f : OwnFrame) : s.place f = { s with loop := (s.place f).loop } := rfl

@[simp] theorem place_pending (f : OwnFrame) : (s.place f).pending = s.pending := by rw [place_frame]
@[simp] theorem place_agenda (f : OwnFrame) : (s.place f).agenda = s.agenda := by rw [place_frame]
@[simp] theorem place_passDue (f : OwnFrame) : (s.place f).passDue = s.passDue := by rw [place_frame]
@[simp] theorem place_charTime (f : OwnFrame) : (s.place f).charTime = s.charTime := by rw [place_frame]
@[simp] theorem place_streams (f : OwnFrame) : (s.place f).streams = s.streams := by rw [place_frame]
@[simp] theorem stream_place (f : OwnFrame) (j : StreamIdx) : (s.place f).stream j = s.stream j := by
  rw [place_frame]; rfl
@[simp] theorem place_tally (f : OwnFrame) : (s.place f).tally = s.tally := by rw [place_frame]
@[simp] theorem tallyOf_place (f : OwnFrame) (j : StreamIdx) : (s.place f).tallyOf j = s.tallyOf j := by
  rw [place_frame]; rfl
@[simp] theorem place_lot (f : OwnFrame) : (s.place f).lot = s.lot := by rw [place_frame]
@[simp] theorem lotAt_place (f : OwnFrame) (j : LotIdx) : (s.place f).lotAt j = s.lotAt j := by
  rw [place_frame]; rfl
@[simp] theorem place_segs (f : OwnFrame) : (s.place f).segs = s.segs := by rw [place_frame]
@[simp] theorem seg_place (f : OwnFrame) (j : SegIdx) : (s.place f).seg j = s.seg j := by
  rw [place_frame]; rfl
@[simp] theorem place_alloc (f : OwnFrame) : (s.place f).alloc = s.alloc := by rw [place_frame]
@[simp] theorem routeAt_place (f : OwnFrame) (j : RouteIdx) : (s.place f).routeAt j = s.routeAt j := by
  rw [place_frame]; rfl
@[simp] theorem stagingOf_place (f : OwnFrame) (j : StreamIdx) : (s.place f).stagingOf j = s.stagingOf j := by
  rw [place_frame]; rfl
@[simp] theorem place_bins (f : OwnFrame) : (s.place f).bins = s.bins := by rw [place_frame]
@[simp] theorem bin_place (f : OwnFrame) (j : BinIdx) : (s.place f).bin j = s.bin j := by
  rw [place_frame]; rfl
@[simp] theorem place_mgmt (f : OwnFrame) : (s.place f).mgmt = s.mgmt := by rw [place_frame]
@[simp] theorem place_ind (f : OwnFrame) : (s.place f).ind = s.ind := by rw [place_frame]

/-! ## A frame forwarded -/

theorem forward_frame (f : Frame) : s.forward f = { s with loop := (s.forward f).loop } := rfl

@[simp] theorem forward_pending (f : Frame) : (s.forward f).pending = s.pending := by rw [forward_frame]
@[simp] theorem forward_agenda (f : Frame) : (s.forward f).agenda = s.agenda := by rw [forward_frame]
@[simp] theorem forward_passDue (f : Frame) : (s.forward f).passDue = s.passDue := by rw [forward_frame]
@[simp] theorem forward_charTime (f : Frame) : (s.forward f).charTime = s.charTime := by rw [forward_frame]
@[simp] theorem forward_streams (f : Frame) : (s.forward f).streams = s.streams := by rw [forward_frame]
@[simp] theorem stream_forward (f : Frame) (j : StreamIdx) : (s.forward f).stream j = s.stream j := by
  rw [forward_frame]; rfl
@[simp] theorem forward_tally (f : Frame) : (s.forward f).tally = s.tally := by rw [forward_frame]
@[simp] theorem tallyOf_forward (f : Frame) (j : StreamIdx) : (s.forward f).tallyOf j = s.tallyOf j := by
  rw [forward_frame]; rfl
@[simp] theorem forward_lot (f : Frame) : (s.forward f).lot = s.lot := by rw [forward_frame]
@[simp] theorem lotAt_forward (f : Frame) (j : LotIdx) : (s.forward f).lotAt j = s.lotAt j := by
  rw [forward_frame]; rfl
@[simp] theorem forward_segs (f : Frame) : (s.forward f).segs = s.segs := by rw [forward_frame]
@[simp] theorem seg_forward (f : Frame) (j : SegIdx) : (s.forward f).seg j = s.seg j := by
  rw [forward_frame]; rfl
@[simp] theorem forward_alloc (f : Frame) : (s.forward f).alloc = s.alloc := by rw [forward_frame]
@[simp] theorem routeAt_forward (f : Frame) (j : RouteIdx) : (s.forward f).routeAt j = s.routeAt j := by
  rw [forward_frame]; rfl
@[simp] theorem stagingOf_forward (f : Frame) (j : StreamIdx) : (s.forward f).stagingOf j = s.stagingOf j := by
  rw [forward_frame]; rfl
@[simp] theorem forward_bins (f : Frame) : (s.forward f).bins = s.bins := by rw [forward_frame]
@[simp] theorem bin_forward (f : Frame) (j : BinIdx) : (s.forward f).bin j = s.bin j := by
  rw [forward_frame]; rfl
@[simp] theorem forward_mgmt (f : Frame) : (s.forward f).mgmt = s.mgmt := by rw [forward_frame]
@[simp] theorem forward_ind (f : Frame) : (s.forward f).ind = s.ind := by rw [forward_frame]

/-! ## A lot's completion -/

theorem completionTest_frame (k : LotIdx) : completionTest k s = { s with
    loop := (completionTest k s).loop, lot := (completionTest k s).lot, ind := (completionTest k s).ind } := by
  unfold completionTest
  repeat' split
  all_goals first | rfl | rw [raise_frame]; rfl

@[simp] theorem completionTest_pending (k : LotIdx) : (completionTest k s).pending = s.pending := by
  rw [completionTest_frame]
@[simp] theorem completionTest_agenda (k : LotIdx) : (completionTest k s).agenda = s.agenda := by
  rw [completionTest_frame]
@[simp] theorem completionTest_passDue (k : LotIdx) : (completionTest k s).passDue = s.passDue := by
  rw [completionTest_frame]
@[simp] theorem completionTest_charTime (k : LotIdx) : (completionTest k s).charTime = s.charTime := by
  rw [completionTest_frame]
@[simp] theorem completionTest_streams (k : LotIdx) : (completionTest k s).streams = s.streams := by
  rw [completionTest_frame]
@[simp] theorem stream_completionTest (k : LotIdx) (j : StreamIdx) : (completionTest k s).stream j = s.stream j := by
  rw [completionTest_frame]; rfl
@[simp] theorem completionTest_tally (k : LotIdx) : (completionTest k s).tally = s.tally := by rw [completionTest_frame]
@[simp] theorem tallyOf_completionTest (k : LotIdx) (j : StreamIdx) : (completionTest k s).tallyOf j = s.tallyOf j := by
  rw [completionTest_frame]; rfl
@[simp] theorem completionTest_segs (k : LotIdx) : (completionTest k s).segs = s.segs := by rw [completionTest_frame]
@[simp] theorem seg_completionTest (k : LotIdx) (j : SegIdx) : (completionTest k s).seg j = s.seg j := by
  rw [completionTest_frame]; rfl
@[simp] theorem completionTest_alloc (k : LotIdx) : (completionTest k s).alloc = s.alloc := by rw [completionTest_frame]
@[simp] theorem routeAt_completionTest (k : LotIdx) (j : RouteIdx) : (completionTest k s).routeAt j = s.routeAt j := by
  rw [completionTest_frame]; rfl
@[simp] theorem stagingOf_completionTest (k : LotIdx) (j : StreamIdx) :
    (completionTest k s).stagingOf j = s.stagingOf j := by
  rw [completionTest_frame]; rfl
@[simp] theorem completionTest_bins (k : LotIdx) : (completionTest k s).bins = s.bins := by rw [completionTest_frame]
@[simp] theorem bin_completionTest (k : LotIdx) (j : BinIdx) : (completionTest k s).bin j = s.bin j := by
  rw [completionTest_frame]; rfl
@[simp] theorem completionTest_mgmt (k : LotIdx) : (completionTest k s).mgmt = s.mgmt := by rw [completionTest_frame]

/-! ## Attaching -/

theorem attach_frame (n : Nat) (i : StreamIdx) : attach n i s = { s with lot := (attach n i s).lot } := by
  unfold attach
  repeat' split
  all_goals rfl

@[simp] theorem attach_pending (n : Nat) (i : StreamIdx) : (attach n i s).pending = s.pending := by rw [attach_frame]
@[simp] theorem attach_agenda (n : Nat) (i : StreamIdx) : (attach n i s).agenda = s.agenda := by rw [attach_frame]
@[simp] theorem attach_passDue (n : Nat) (i : StreamIdx) : (attach n i s).passDue = s.passDue := by rw [attach_frame]
@[simp] theorem attach_charTime (n : Nat) (i : StreamIdx) : (attach n i s).charTime = s.charTime := by rw [attach_frame]
@[simp] theorem attach_loop (n : Nat) (i : StreamIdx) : (attach n i s).loop = s.loop := by rw [attach_frame]
@[simp] theorem attach_streams (n : Nat) (i : StreamIdx) : (attach n i s).streams = s.streams := by rw [attach_frame]
@[simp] theorem stream_attach (n : Nat) (i : StreamIdx) (j : StreamIdx) : (attach n i s).stream j = s.stream j := by
  rw [attach_frame]; rfl
@[simp] theorem attach_tally (n : Nat) (i : StreamIdx) : (attach n i s).tally = s.tally := by rw [attach_frame]
@[simp] theorem tallyOf_attach (n : Nat) (i : StreamIdx) (j : StreamIdx) : (attach n i s).tallyOf j = s.tallyOf j := by
  rw [attach_frame]; rfl
@[simp] theorem attach_segs (n : Nat) (i : StreamIdx) : (attach n i s).segs = s.segs := by rw [attach_frame]
@[simp] theorem seg_attach (n : Nat) (i : StreamIdx) (j : SegIdx) : (attach n i s).seg j = s.seg j := by
  rw [attach_frame]; rfl
@[simp] theorem attach_alloc (n : Nat) (i : StreamIdx) : (attach n i s).alloc = s.alloc := by rw [attach_frame]
@[simp] theorem routeAt_attach (n : Nat) (i : StreamIdx) (j : RouteIdx) : (attach n i s).routeAt j = s.routeAt j := by
  rw [attach_frame]; rfl
@[simp] theorem stagingOf_attach (n : Nat) (i : StreamIdx) (j : StreamIdx) :
    (attach n i s).stagingOf j = s.stagingOf j := by
  rw [attach_frame]; rfl
@[simp] theorem attach_bins (n : Nat) (i : StreamIdx) : (attach n i s).bins = s.bins := by rw [attach_frame]
@[simp] theorem bin_attach (n : Nat) (i : StreamIdx) (j : BinIdx) : (attach n i s).bin j = s.bin j := by
  rw [attach_frame]; rfl
@[simp] theorem attach_mgmt (n : Nat) (i : StreamIdx) : (attach n i s).mgmt = s.mgmt := by rw [attach_frame]
@[simp] theorem attach_ind (n : Nat) (i : StreamIdx) : (attach n i s).ind = s.ind := by rw [attach_frame]

/-! ## Detaching -/

theorem detach_frame (n : Nat) (i : StreamIdx) : detach n i s = { s with
    loop := (detach n i s).loop, lot := (detach n i s).lot, ind := (detach n i s).ind } := by
  unfold detach
  repeat' first | split | dsimp only
  all_goals first | rfl | rw [completionTest_frame]; rfl

@[simp] theorem detach_pending (n : Nat) (i : StreamIdx) : (detach n i s).pending = s.pending := by rw [detach_frame]
@[simp] theorem detach_agenda (n : Nat) (i : StreamIdx) : (detach n i s).agenda = s.agenda := by rw [detach_frame]
@[simp] theorem detach_passDue (n : Nat) (i : StreamIdx) : (detach n i s).passDue = s.passDue := by rw [detach_frame]
@[simp] theorem detach_charTime (n : Nat) (i : StreamIdx) : (detach n i s).charTime = s.charTime := by rw [detach_frame]
@[simp] theorem detach_streams (n : Nat) (i : StreamIdx) : (detach n i s).streams = s.streams := by rw [detach_frame]
@[simp] theorem stream_detach (n : Nat) (i : StreamIdx) (j : StreamIdx) : (detach n i s).stream j = s.stream j := by
  rw [detach_frame]; rfl
@[simp] theorem detach_tally (n : Nat) (i : StreamIdx) : (detach n i s).tally = s.tally := by rw [detach_frame]
@[simp] theorem tallyOf_detach (n : Nat) (i : StreamIdx) (j : StreamIdx) : (detach n i s).tallyOf j = s.tallyOf j := by
  rw [detach_frame]; rfl
@[simp] theorem detach_segs (n : Nat) (i : StreamIdx) : (detach n i s).segs = s.segs := by rw [detach_frame]
@[simp] theorem seg_detach (n : Nat) (i : StreamIdx) (j : SegIdx) : (detach n i s).seg j = s.seg j := by
  rw [detach_frame]; rfl
@[simp] theorem detach_alloc (n : Nat) (i : StreamIdx) : (detach n i s).alloc = s.alloc := by rw [detach_frame]
@[simp] theorem routeAt_detach (n : Nat) (i : StreamIdx) (j : RouteIdx) : (detach n i s).routeAt j = s.routeAt j := by
  rw [detach_frame]; rfl
@[simp] theorem stagingOf_detach (n : Nat) (i : StreamIdx) (j : StreamIdx) :
    (detach n i s).stagingOf j = s.stagingOf j := by
  rw [detach_frame]; rfl
@[simp] theorem detach_bins (n : Nat) (i : StreamIdx) : (detach n i s).bins = s.bins := by rw [detach_frame]
@[simp] theorem bin_detach (n : Nat) (i : StreamIdx) (j : BinIdx) : (detach n i s).bin j = s.bin j := by
  rw [detach_frame]; rfl
@[simp] theorem detach_mgmt (n : Nat) (i : StreamIdx) : (detach n i s).mgmt = s.mgmt := by rw [detach_frame]

/-! ## A capture's end -/

theorem endCapture_frame (o : CaptureOutcome) : endCapture o s = { s with
    loop := (endCapture o s).loop, tally := (endCapture o s).tally, mgmt := (endCapture o s).mgmt,
    ind := (endCapture o s).ind } := by
  unfold endCapture
  split
  · rfl
  · rw [raise_frame]; rfl

@[simp] theorem endCapture_pending (o : CaptureOutcome) : (endCapture o s).pending = s.pending := by
  rw [endCapture_frame]
@[simp] theorem endCapture_agenda (o : CaptureOutcome) : (endCapture o s).agenda = s.agenda := by rw [endCapture_frame]
@[simp] theorem endCapture_passDue (o : CaptureOutcome) : (endCapture o s).passDue = s.passDue := by
  rw [endCapture_frame]
@[simp] theorem endCapture_charTime (o : CaptureOutcome) : (endCapture o s).charTime = s.charTime := by
  rw [endCapture_frame]
@[simp] theorem endCapture_streams (o : CaptureOutcome) : (endCapture o s).streams = s.streams := by
  rw [endCapture_frame]
@[simp] theorem stream_endCapture (o : CaptureOutcome) (j : StreamIdx) : (endCapture o s).stream j = s.stream j := by
  rw [endCapture_frame]; rfl
@[simp] theorem endCapture_lot (o : CaptureOutcome) : (endCapture o s).lot = s.lot := by rw [endCapture_frame]
@[simp] theorem lotAt_endCapture (o : CaptureOutcome) (j : LotIdx) : (endCapture o s).lotAt j = s.lotAt j := by
  rw [endCapture_frame]; rfl
@[simp] theorem endCapture_segs (o : CaptureOutcome) : (endCapture o s).segs = s.segs := by rw [endCapture_frame]
@[simp] theorem seg_endCapture (o : CaptureOutcome) (j : SegIdx) : (endCapture o s).seg j = s.seg j := by
  rw [endCapture_frame]; rfl
@[simp] theorem endCapture_alloc (o : CaptureOutcome) : (endCapture o s).alloc = s.alloc := by rw [endCapture_frame]
@[simp] theorem routeAt_endCapture (o : CaptureOutcome) (j : RouteIdx) : (endCapture o s).routeAt j = s.routeAt j := by
  rw [endCapture_frame]; rfl
@[simp] theorem stagingOf_endCapture (o : CaptureOutcome) (j : StreamIdx) :
    (endCapture o s).stagingOf j = s.stagingOf j := by
  rw [endCapture_frame]; rfl
@[simp] theorem endCapture_bins (o : CaptureOutcome) : (endCapture o s).bins = s.bins := by rw [endCapture_frame]
@[simp] theorem bin_endCapture (o : CaptureOutcome) (j : BinIdx) : (endCapture o s).bin j = s.bin j := by
  rw [endCapture_frame]; rfl

/-! ## An unlock's end -/

theorem endUnlock_frame (c : AbortCause) : endUnlock c s = { s with
    loop := (endUnlock c s).loop, tally := (endUnlock c s).tally, mgmt := (endUnlock c s).mgmt,
    ind := (endUnlock c s).ind } := by
  unfold endUnlock
  split
  · rfl
  · split
    · rw [endCapture_frame]; rfl
    · rfl

@[simp] theorem endUnlock_pending (c : AbortCause) : (endUnlock c s).pending = s.pending := by rw [endUnlock_frame]
@[simp] theorem endUnlock_agenda (c : AbortCause) : (endUnlock c s).agenda = s.agenda := by rw [endUnlock_frame]
@[simp] theorem endUnlock_passDue (c : AbortCause) : (endUnlock c s).passDue = s.passDue := by rw [endUnlock_frame]
@[simp] theorem endUnlock_charTime (c : AbortCause) : (endUnlock c s).charTime = s.charTime := by rw [endUnlock_frame]
@[simp] theorem endUnlock_streams (c : AbortCause) : (endUnlock c s).streams = s.streams := by rw [endUnlock_frame]
@[simp] theorem stream_endUnlock (c : AbortCause) (j : StreamIdx) : (endUnlock c s).stream j = s.stream j := by
  rw [endUnlock_frame]; rfl
@[simp] theorem endUnlock_lot (c : AbortCause) : (endUnlock c s).lot = s.lot := by rw [endUnlock_frame]
@[simp] theorem lotAt_endUnlock (c : AbortCause) (j : LotIdx) : (endUnlock c s).lotAt j = s.lotAt j := by
  rw [endUnlock_frame]; rfl
@[simp] theorem endUnlock_segs (c : AbortCause) : (endUnlock c s).segs = s.segs := by rw [endUnlock_frame]
@[simp] theorem seg_endUnlock (c : AbortCause) (j : SegIdx) : (endUnlock c s).seg j = s.seg j := by
  rw [endUnlock_frame]; rfl
@[simp] theorem endUnlock_alloc (c : AbortCause) : (endUnlock c s).alloc = s.alloc := by rw [endUnlock_frame]
@[simp] theorem routeAt_endUnlock (c : AbortCause) (j : RouteIdx) : (endUnlock c s).routeAt j = s.routeAt j := by
  rw [endUnlock_frame]; rfl
@[simp] theorem stagingOf_endUnlock (c : AbortCause) (j : StreamIdx) : (endUnlock c s).stagingOf j = s.stagingOf j := by
  rw [endUnlock_frame]; rfl
@[simp] theorem endUnlock_bins (c : AbortCause) : (endUnlock c s).bins = s.bins := by rw [endUnlock_frame]
@[simp] theorem bin_endUnlock (c : AbortCause) (j : BinIdx) : (endUnlock c s).bin j = s.bin j := by
  rw [endUnlock_frame]; rfl

/-! ## Leaving IDLE -/

theorem leaveIdle_frame (i : StreamIdx) : leaveIdle i s = { s with
    loop := (leaveIdle i s).loop, tally := (leaveIdle i s).tally, mgmt := (leaveIdle i s).mgmt,
    ind := (leaveIdle i s).ind } := by
  unfold leaveIdle
  split
  · exact endUnlock_frame s _
  · rfl

@[simp] theorem leaveIdle_pending (i : StreamIdx) : (leaveIdle i s).pending = s.pending := by rw [leaveIdle_frame]
@[simp] theorem leaveIdle_agenda (i : StreamIdx) : (leaveIdle i s).agenda = s.agenda := by rw [leaveIdle_frame]
@[simp] theorem leaveIdle_passDue (i : StreamIdx) : (leaveIdle i s).passDue = s.passDue := by rw [leaveIdle_frame]
@[simp] theorem leaveIdle_charTime (i : StreamIdx) : (leaveIdle i s).charTime = s.charTime := by rw [leaveIdle_frame]
@[simp] theorem leaveIdle_streams (i : StreamIdx) : (leaveIdle i s).streams = s.streams := by rw [leaveIdle_frame]
@[simp] theorem stream_leaveIdle (i : StreamIdx) (j : StreamIdx) : (leaveIdle i s).stream j = s.stream j := by
  rw [leaveIdle_frame]; rfl
@[simp] theorem leaveIdle_lot (i : StreamIdx) : (leaveIdle i s).lot = s.lot := by rw [leaveIdle_frame]
@[simp] theorem lotAt_leaveIdle (i : StreamIdx) (j : LotIdx) : (leaveIdle i s).lotAt j = s.lotAt j := by
  rw [leaveIdle_frame]; rfl
@[simp] theorem leaveIdle_segs (i : StreamIdx) : (leaveIdle i s).segs = s.segs := by rw [leaveIdle_frame]
@[simp] theorem seg_leaveIdle (i : StreamIdx) (j : SegIdx) : (leaveIdle i s).seg j = s.seg j := by
  rw [leaveIdle_frame]; rfl
@[simp] theorem leaveIdle_alloc (i : StreamIdx) : (leaveIdle i s).alloc = s.alloc := by rw [leaveIdle_frame]
@[simp] theorem routeAt_leaveIdle (i : StreamIdx) (j : RouteIdx) : (leaveIdle i s).routeAt j = s.routeAt j := by
  rw [leaveIdle_frame]; rfl
@[simp] theorem stagingOf_leaveIdle (i : StreamIdx) (j : StreamIdx) : (leaveIdle i s).stagingOf j = s.stagingOf j := by
  rw [leaveIdle_frame]; rfl
@[simp] theorem leaveIdle_bins (i : StreamIdx) : (leaveIdle i s).bins = s.bins := by rw [leaveIdle_frame]
@[simp] theorem bin_leaveIdle (i : StreamIdx) (j : BinIdx) : (leaveIdle i s).bin j = s.bin j := by
  rw [leaveIdle_frame]; rfl

/-! ## A stream detached -/

theorem detachStream_frame (i : StreamIdx) : detachStream i s = { s with
    loop := (detachStream i s).loop, streams := (detachStream i s).streams, lot := (detachStream i s).lot,
    ind := (detachStream i s).ind } := by
  unfold detachStream
  split
  · rw [detach_frame]; rfl
  · rfl

@[simp] theorem detachStream_pending (i : StreamIdx) : (detachStream i s).pending = s.pending := by
  rw [detachStream_frame]
@[simp] theorem detachStream_agenda (i : StreamIdx) : (detachStream i s).agenda = s.agenda := by rw [detachStream_frame]
@[simp] theorem detachStream_passDue (i : StreamIdx) : (detachStream i s).passDue = s.passDue := by
  rw [detachStream_frame]
@[simp] theorem detachStream_charTime (i : StreamIdx) : (detachStream i s).charTime = s.charTime := by
  rw [detachStream_frame]
@[simp] theorem detachStream_tally (i : StreamIdx) : (detachStream i s).tally = s.tally := by rw [detachStream_frame]
@[simp] theorem tallyOf_detachStream (i : StreamIdx) (j : StreamIdx) : (detachStream i s).tallyOf j = s.tallyOf j := by
  rw [detachStream_frame]; rfl
@[simp] theorem detachStream_segs (i : StreamIdx) : (detachStream i s).segs = s.segs := by rw [detachStream_frame]
@[simp] theorem seg_detachStream (i : StreamIdx) (j : SegIdx) : (detachStream i s).seg j = s.seg j := by
  rw [detachStream_frame]; rfl
@[simp] theorem detachStream_alloc (i : StreamIdx) : (detachStream i s).alloc = s.alloc := by rw [detachStream_frame]
@[simp] theorem routeAt_detachStream (i : StreamIdx) (j : RouteIdx) : (detachStream i s).routeAt j = s.routeAt j := by
  rw [detachStream_frame]; rfl
@[simp] theorem stagingOf_detachStream (i : StreamIdx) (j : StreamIdx) :
    (detachStream i s).stagingOf j = s.stagingOf j := by
  rw [detachStream_frame]; rfl
@[simp] theorem detachStream_bins (i : StreamIdx) : (detachStream i s).bins = s.bins := by rw [detachStream_frame]
@[simp] theorem bin_detachStream (i : StreamIdx) (j : BinIdx) : (detachStream i s).bin j = s.bin j := by
  rw [detachStream_frame]; rfl
@[simp] theorem detachStream_mgmt (i : StreamIdx) : (detachStream i s).mgmt = s.mgmt := by rw [detachStream_frame]

end Sys2Proof.Machine
end

section
/-! The end of a zero capture and of an unlock, and the commands that read and change them (R71 to R82). -/

namespace Sys2Proof.Machine

variable {s : State} {c : Capture} {u : Unlock}

/-! ## Event records after a raise (R171) -/

@[simp] theorem raise_events (k : EventKind) (n : Nat) (s : State) :
    (raise k n s).ind.events = s.ind.events.set k.num ((s.ind.events.get k.num).raise n) := judgeAlert_events _

theorem raise_get_self (k : EventKind) (n : Nat) (s : State) :
    (raise k n s).ind.events.get k.num = (s.ind.events.get k.num).raise n := by
  rw [raise_events, Tbl.get_set_self]

theorem raise_get_other {k : EventKind} {j : Fin 18} (hj : k.num ≠ j) (n : Nat) (s : State) :
    (raise k n s).ind.events.get j = s.ind.events.get j := by
  rw [raise_events, Tbl.get_set_ne _ _ hj]

/-! ## The end of a capture (R80 to R82) -/

/-- The capture report an outcome makes. -/
def Capture.reportOf (c : Capture) (o : CaptureOutcome) (serial : Nat) : CaptureReport :=
  ⟨o, c.window, c.counts, c.time, serial⟩

theorem endCapture_of_running (h : s.tally.capture = some c) (o : CaptureOutcome) :
    endCapture o s = raise .captureEnd c.stream.val
      (((s.putTally c.stream { s.tallyOf c.stream with
        report := some (c.reportOf o (s.tallyOf c.stream).serial) }).putCapture none).putUnlock none) := by
  simp only [endCapture, h]
  rfl

section Ended

variable (h : s.tally.capture = some c) (o : CaptureOutcome)
include h

theorem endCapture_capture : (endCapture o s).tally.capture = none := by
  simp [endCapture_of_running h]

theorem endCapture_unlock : (endCapture o s).mgmt = { s.mgmt with unlock := none } := by
  simp [endCapture_of_running h]

theorem endCapture_tallyOf_self : (endCapture o s).tallyOf c.stream = { s.tallyOf c.stream with
    report := some (c.reportOf o (s.tallyOf c.stream).serial) } := by
  simp [endCapture_of_running h]

theorem endCapture_tallyOf_other {j : StreamIdx} (hj : j ≠ c.stream) : (endCapture o s).tallyOf j = s.tallyOf j := by
  simp [endCapture_of_running h, State.tallyOf_putTally, hj.symm]

theorem endCapture_event : (endCapture o s).ind.events.get 16 = (s.ind.events.get 16).raise c.stream.val := by
  rw [endCapture_of_running h]
  exact raise_get_self .captureEnd _ _

end Ended

/-! ## The end of an unlock (R74, R81) -/

theorem endUnlock_of_none (h : s.mgmt.unlock = none) (cause : AbortCause) : endUnlock cause s = s := by
  simp [endUnlock, h]

theorem endUnlock_of_free (h : s.mgmt.unlock = some u) (hu : u.held = false) (cause : AbortCause) :
    endUnlock cause s = s.putUnlock none := by
  simp [endUnlock, h, hu]

/-- An unlock that a running capture holds ends with the capture. -/
theorem endUnlock_of_held (h : s.mgmt.unlock = some u) (hu : u.held = true) (hc : s.tally.capture = some c)
    (cause : AbortCause) : endUnlock cause s = endCapture (.aborted cause) s := by
  have hm := endCapture_unlock hc (.aborted cause)
  have hend : endUnlock cause s = (endCapture (.aborted cause) s).putUnlock none := by simp [endUnlock, h, hu]
  rw [hend, State.putUnlock, State.putMgmt, hm]
  dsimp only
  rw [← hm]

theorem unlockedFor_iff (i : StreamIdx) : s.unlockedFor i = true ↔ ∃ u, s.mgmt.unlock = some u ∧ u.stream = i := by
  unfold State.unlockedFor
  cases s.mgmt.unlock <;> simp

theorem capturing_iff (i : StreamIdx) : s.capturing i = true ↔ ∃ z, s.tally.capture = some z ∧ z.stream = i := by
  unfold State.capturing
  cases s.tally.capture <;> simp

/-! ## CALEN (R71) -/

theorem exec_calenFall_of_high (h : s.mgmt.calen = true) :
    exec .calenFall s = happens (setCalen false (endUnlock .enableLow s)) := by
  show Host.Outcome.next (if s.mgmt.calen then _ else s) = _
  rw [if_pos h]
  rfl

/-- Settles O30: the level that is there already changes nothing; a fall ends the unlock by what it is. -/
theorem calenEdges : Obligations.CalenEdges := by
  intro s
  refine ⟨rfl, fun h => ?_, fun h hu => ?_, fun u h hu hheld => ?_, fun u c h hu hheld hc => ?_⟩
  · show Host.Outcome.next (if s.mgmt.calen then _ else s) = _
    rw [if_neg (by simp [h])]
  · rw [exec_calenFall_of_high h, endUnlock_of_none hu]
    rfl
  · rw [exec_calenFall_of_high h, endUnlock_of_free hu hheld]
    rfl
  · refine ⟨setCalen false (endUnlock .enableLow s), exec_calenFall_of_high h, rfl, ?_⟩
    rw [endUnlock_of_held hu hheld hc]
    have hevent := endCapture_event hc (.aborted .enableLow)
    exact ⟨congrArg Management.unlock (endCapture_unlock hc _), endCapture_capture hc _, endCapture_tallyOf_self hc _,
      congrArg EventRecord.flag hevent, congrArg EventRecord.source hevent⟩

/-! ## UNLOCK_CALIBRATION and CAPTURE_ZERO (R73, R74, R78) -/

section Unlock

variable {a : UnlockArgs} {i : StreamIdx}

theorem exec_unlockCalibration (q : Requester) (a : Option UnlockArgs) (s : State) :
    exec (.unlockCalibration q a) s = request (.unlockCalibration q a) q a ownUnlock s := by rfl

theorem ownUnlock_of_index (hi : i.val = a.stream) (s : State) : ownUnlock a s =
    if !s.mgmt.calen then .refuse .locked
    else if (s.stream i).state ≠ .idle then .refuse .badState
    else if a.serial ≠ (s.tallyOf i).serial then .refuse .badRecord
    else .done (unlockStream i) := by
  rw [ownUnlock, ← hi, indexed_val]

/-- A new unlock takes the place of one no capture holds. -/
theorem unlockStream_of_free (h : ∀ u, s.mgmt.unlock = some u → u.held = false) (i : StreamIdx) :
    unlockStream i s = { s with mgmt := { s.mgmt with unlock := some ⟨i, 10000, false⟩ } } := by
  unfold unlockStream
  cases hu : s.mgmt.unlock with
  | none => rw [endUnlock_of_none hu]; rfl
  | some u => rw [endUnlock_of_free hu (h u hu)]; rfl

theorem unlockStream_of_held (hu : s.mgmt.unlock = some u) (hheld : u.held = true) (i : StreamIdx) :
    unlockStream i s = (endCapture (.aborted .unlockReplaced) s).putUnlock (some ⟨i, 10000, false⟩) := by
  simp only [unlockStream, endUnlock, hu, hheld]
  rfl

end Unlock

section Capture

variable {a : CaptureArgs} {i : StreamIdx}

theorem exec_captureZero (q : Requester) (a : Option CaptureArgs) (s : State) :
    exec (.captureZero q a) s = request (.captureZero q a) q a ownCapture s := by rfl

theorem ownCapture_of_index (hi : i.val = a.stream) (s : State) : ownCapture a s =
    if !s.mgmt.calen then .refuse .locked
    else if s.capturing i then .refuse .inUse
    else if !s.unlockedFor i then .refuse .locked
    else if (s.stream i).state ≠ .idle ∨ (s.stream i).last = none ∨ !s.calibrated i then .refuse .badState
    else .done (beginCapture i (captureWindow a.window)) := by
  rw [ownCapture, ← hi, indexed_val]

theorem captureWindow_eq (w : Option Nat) :
    captureWindow w = (match w with | none => 60 | some n => max 10 (min 300 n)) * 1000 := by
  cases w <;> rfl

theorem calibrated_iff : s.calibrated i = true ↔ (s.tallyOf i).cal ≠ none := by
  rw [State.calibrated, Option.isSome_iff_ne_none]

end Capture

/-- Settles O31: the tests of each command in their order, then what an unlock's end leaves. -/
theorem unlockAndCaptureCommands : Obligations.UnlockAndCaptureCommands := by
  refine ⟨fun q a s hs => ?unlock, fun q a s hs => ?capture, fun s => ?expiry⟩
  case unlock =>
    simp only [exec_unlockCalibration]
    refine ⟨fun h => request_of_refuse _ q hs (indexed_of_le _ h), fun i hi => ?_⟩
    have hown := ownUnlock_of_index hi s
    refine ⟨fun h => request_of_refuse _ q hs (by simp [hown, h]),
      fun h hst => request_of_refuse _ q hs (by simp [hown, h, hst]),
      fun h hst hser => request_of_refuse _ q hs (by simp [hown, h, hst, hser]),
      fun h hst hser hfree => ?_, fun u h hst hser hu hheld => ?_⟩
    all_goals rw [request_of_done (f := unlockStream i) _ q hs (by simp [hown, h, hst, hser])]
    · rw [unlockStream_of_free hfree]
    · rw [unlockStream_of_held hu hheld]
  case capture =>
    simp only [exec_captureZero]
    refine ⟨fun h => request_of_refuse _ q hs (indexed_of_le _ h), fun i hi => ?_⟩
    have hown := ownCapture_of_index hi s
    simp only [← capturing_iff, ← unlockedFor_iff, ← calibrated_iff]
    refine ⟨fun h => request_of_refuse _ q hs (by simp [hown, h]),
      fun h hrun => request_of_refuse _ q hs (by simp [hown, h, hrun]),
      fun h hrun hun => request_of_refuse _ q hs (by simp [hown, h, hrun, hun]),
      fun h hrun hun hready => request_of_refuse _ q hs ?_,
      fun h hrun hun ⟨hst, hlast, hcal⟩ => ?_⟩
    · simp only [hown, h, hrun, hun, Bool.not_true, Bool.false_eq_true, if_false]
      refine if_pos ?_
      by_contra hno
      simp only [not_or, not_not, Bool.not_eq_true', Bool.not_eq_false] at hno
      exact hready hno
    · rw [request_of_done (f := beginCapture i (captureWindow a.window)) _ q hs
        (by simp [hown, h, hrun, hun, hst, hlast, hcal]), beginCapture, captureWindow_eq]
      rfl
  case expiry =>
    have hexec : exec .unlockExpiry s = happens (endUnlock .unlockExpired s) := rfl
    refine ⟨fun u hu hheld => ?_, fun u c hu hheld hc => ?_, fun hu => ?_⟩
    · rw [hexec, endUnlock_of_free hu hheld]; rfl
    · rw [hexec, endUnlock_of_held hu hheld hc]
    · rw [hexec, endUnlock_of_none hu]

/-! ## WRITE_CALIBRATION (R75, R76) -/

section Calibration

variable {a : WriteArgs CalibrationWrite} {i : StreamIdx}

theorem exec_writeCalibration (q : Requester) (a : Option (WriteArgs CalibrationWrite)) (s : State) :
    exec (.writeCalibration q a) s = request (.writeCalibration q a) q a ownCalibration s := by rfl

theorem ownCalibration_of_index (hi : i.val = a.index) (s : State) : ownCalibration a s =
    if !s.mgmt.calen then .refuse .locked
    else if !s.unlockedFor i then .refuse .locked
    else if s.capturing i then .refuse .inUse
    else match a.entry with
      | none => .done (storeCalibration i none)
      | some r => match calibrationStored r with
        | some k => .done (storeCalibration i (some k))
        | none => .refuse .badRecord := by
  rw [ownCalibration, ← hi, indexed_val] <;> rfl

/-- A record with a value left out is not stored (R75). -/
theorem calibrationStored_of_missing {r : CalibrationWrite}
    (h : r.span = none ∨ r.zero = none ∨ r.trim = none ∨ r.ceiling = none ∨ r.jump = none) :
    calibrationStored r = none := by
  obtain h | h | h | h | h := h <;> simp [calibrationStored, h]

end Calibration

/-- Settles O32: R75's tests in their order, then the record stored. -/
theorem calibrationWriteTaken : Obligations.CalibrationWriteTaken := by
  intro q a s hs
  simp only [exec_writeCalibration]
  refine ⟨fun h => request_of_refuse _ q hs (indexed_of_le _ h), fun i hi => ?_⟩
  have hown := ownCalibration_of_index hi s
  simp only [← capturing_iff, ← unlockedFor_iff]
  refine ⟨fun h => request_of_refuse _ q hs (by simp [hown, h]),
    fun h hun => request_of_refuse _ q hs (by simp [hown, h, hun]),
    fun h hun hrun => request_of_refuse _ q hs (by simp [hown, h, hun, hrun]),
    fun h hun hrun ha => request_of_done (f := storeCalibration i none) _ q hs (by simp [hown, h, hun, hrun, ha]),
    fun r h hun hrun ha => ⟨fun hmiss => request_of_refuse _ q hs ?_, ?_⟩⟩
  · simp [hown, h, hun, hrun, ha, calibrationStored_of_missing hmiss]
  · rintro k z t l j rfl
    have hstored : calibrationStored ⟨some k, some z, some t, some l, some j⟩ = some
        ⟨clamp 1 1000000 k, min 65535 z, clampInt (-2000) 2000 t, clamp 1 16000000 l, min 16000000 j⟩ := rfl
    exact request_of_done (f := storeCalibration i (some _)) _ q hs 
      (by simp [hown, h, hun, hrun, ha, hstored, clamp, clampInt])

/-! ## A capture takes a sample in (R79, R80) -/

/-- The capture with an accepted sample's differences in its sums. -/
def Capture.withSample (c : Capture) (m : Measured) : Capture :=
  { c with counts := satAdd c.counts m.counts, time := c.time + m.time }

theorem captureSample_of_running (h : s.tally.capture = some c) (m : Measured) : captureSample c.stream m s =
    if c.window ≤ c.time + m.time then completeCapture (c.withSample m) s
    else s.putCapture (some (c.withSample m)) := by
  simp only [captureSample, h, if_true]
  rfl

/-- `s` with capture `c` running, and its new zero rate and serial in place (R80). -/
def Capture.completed (c : Capture) (s : State) : State :=
  (s.putCapture (some c)).putTally c.stream { s.tallyOf c.stream with
    cal := (s.tallyOf c.stream).cal.map fun k => { k with zero := newZero c.counts c.time }
    serial := nextSerial (s.tallyOf c.stream).serial }

theorem completeCapture_eq (c : Capture) (s : State) :
    completeCapture c s = endCapture (.done (newZero c.counts c.time)) (c.completed s) := rfl

theorem completeCapture_tallyOf_self (c : Capture) (s : State) : (completeCapture c s).tallyOf c.stream =
    { s.tallyOf c.stream with
      cal := (s.tallyOf c.stream).cal.map fun k => { k with zero := newZero c.counts c.time }
      serial := nextSerial (s.tallyOf c.stream).serial
      report := some (c.reportOf (.done (newZero c.counts c.time)) (nextSerial (s.tallyOf c.stream).serial)) } := by
  rw [completeCapture_eq, endCapture_tallyOf_self (c := c) rfl]
  simp [Capture.completed]

theorem completeCapture_tallyOf_other {c : Capture} {j : StreamIdx} (hj : j ≠ c.stream) (s : State) :
    (completeCapture c s).tallyOf j = s.tallyOf j := by
  rw [completeCapture_eq, endCapture_tallyOf_other (c := c) rfl _ hj]
  simp [Capture.completed, State.tallyOf_putTally, hj.symm]

/-- Settles O29: what is left by a sample taken in, by completion, and by an abort; then the causes in R81's order. -/
theorem captureTakesSamplesAndEnds : Obligations.CaptureTakesSamplesAndEnds := by
  refine ⟨fun s c m h => ?takes, fun s c cause h => ?aborts, fun s i f m k hk => ?causes⟩
  case takes =>
    refine ⟨fun hlt => ?_, fun hle => ?_⟩
    · exact (captureSample_of_running h m).trans (if_neg (Nat.not_le.mpr hlt))
    · have ht : captureSample c.stream m s = completeCapture (c.withSample m) s :=
        (captureSample_of_running h m).trans (if_pos hle)
      simp only [ht]
      have hself : (completeCapture (c.withSample m) s).tallyOf c.stream = _ := completeCapture_tallyOf_self _ s
      have hevent := endCapture_event (s := (c.withSample m).completed s) rfl
        (.done (newZero (c.withSample m).counts (c.withSample m).time))
      simp only [hself]
      exact ⟨endCapture_capture (c := c.withSample m) rfl _,
        congrArg Management.unlock (endCapture_unlock (c := c.withSample m) rfl _),
        by simp only [newZero, Capture.withSample, satAdd, maxGrams], rfl, rfl,
        by simp only [Capture.reportOf, nextSerial, newZero, Capture.withSample, satAdd, maxGrams],
        congrArg EventRecord.flag hevent, congrArg EventRecord.source hevent, congrArg EventRecord.count hevent,
        fun j hj => completeCapture_tallyOf_other (c := c.withSample m) hj s,
        endCapture_streams _ _, endCapture_lot _ _⟩
  case aborts =>
    have hevent := endCapture_event h (.aborted cause)
    exact ⟨endCapture_capture h _, congrArg Management.unlock (endCapture_unlock h _), endCapture_tallyOf_self h _,
      fun j hj => endCapture_tallyOf_other h _ hj, congrArg EventRecord.flag hevent,
      congrArg EventRecord.source hevent, endCapture_streams _ _, endCapture_lot _ _⟩
  case causes =>
    simp only [sampleCause, sampleDemand, sampleMeterOk, isGap, isGross, hk, decide_eq_true_eq]
    generalize f.flags.getLsbD 0 = demand, f.flags.getLsbD 1 = ok
    refine ⟨fun hd => ?_, fun hd hm => ?_, fun hd hm hg => ?_, fun hd hm hg => ⟨fun hr => ?_, fun hr => ?_⟩⟩
    · simp [hd]
    · simp [hd, hm]
    · simp [hd, hm, hg]
    · simp [hd, hm, hg.not_gt, hr]
    · simp [hd, hm, hg.not_gt, hr.not_gt]

end Sys2Proof.Machine
end

section
/-! Searches of the tables, and the lots' and bins' commands (R5 to R9, R24, R130, R142, R143). -/

namespace Sys2Proof

/-! ## The lowest index whose entry meets a test -/

section FindIdx

variable {α : Type} {n : Nat} {t : Tbl α n} {p : α → Bool}

theorem Tbl.findIdx?_eq_none_iff : t.findIdx? p = none ↔ ∀ i, p (t.get i) = false := by
  simp [Tbl.findIdx?]

theorem Tbl.findIdx?_eq_some_of_unique {i : Fin n} (hi : p (t.get i) = true) (hu : ∀ j, p (t.get j) = true → j = i) :
    t.findIdx? p = some i := by
  cases h : t.findIdx? p with
  | none => simp [Tbl.findIdx?_eq_none_iff.mp h i] at hi
  | some j => rw [hu j (by simpa using List.find?_some h)]

theorem get_of_findIdx? {i : Fin n} (h : t.findIdx? p = some i) : p (t.get i) = true := by
  simpa using List.find?_some h

end FindIdx

namespace Machine

variable {s : State}

/-! ## The lot of a number (R5) -/

theorem lotIdx?_eq_none_iff (n : Nat) : s.lotIdx? n = none ↔ ∀ i l, s.lotAt i = some l → l.number ≠ n := by
  rw [State.lotIdx?, Tbl.findIdx?_eq_none_iff]
  refine forall_congr' fun i => ?_
  rw [show s.lot.lots.get i = s.lotAt i from rfl]
  cases s.lotAt i <;> simp

/-- A lot is found at the one index that holds its number. -/
theorem lotIdx?_of_lotAt (hs : LotLaw s) {i : LotIdx} {l : Lot} (hl : s.lotAt i = some l) :
    s.lotIdx? l.number = some i := by
  refine Tbl.findIdx?_eq_some_of_unique ?_ fun j hj => ?_
  · rw [show s.lot.lots.get i = s.lotAt i from rfl, hl]
    exact beq_self_eq_true _
  · rw [show s.lot.lots.get j = s.lotAt j from rfl] at hj
    cases hm : s.lotAt j with
    | none => simp [hm] at hj
    | some m => exact hs.table j i m l hm hl (by simpa [hm] using hj)

theorem findLot_of_lotAt (hs : LotLaw s) {i : LotIdx} {l : Lot} (hl : s.lotAt i = some l) :
    s.findLot l.number = some l := by
  rw [State.findLot, lotIdx?_of_lotAt hs hl]
  exact hl

/-! ## OPEN_LOT (R9) -/

theorem exec_openLot (q : Requester) (n : Option Nat) (s : State) :
    exec (.openLot q n) s = request (.openLot q n) q n ownOpenLot s := by rfl

theorem ownOpenLot_of_lotAt (hs : LotLaw s) {i : LotIdx} {l : Lot} (hl : s.lotAt i = some l) :
    ownOpenLot l.number s = if l.state = .planned then .done (openLotAt i) else .refuse .badState := by
  simp only [ownOpenLot, lotIdx?_of_lotAt hs hl, hl]

@[simp] theorem firstUsable_putLot (k : LotIdx) (x : Option Lot) (l : Lot) :
    firstUsable (s.putLot k x) l = firstUsable s l := rfl

@[simp] theorem State.putLot_putLot (k : LotIdx) (x y : Option Lot) : (s.putLot k x).putLot k y = s.putLot k y := by
  simp [State.putLot]

theorem chooseCurrent_of_first {k : LotIdx} {l : Lot} {p : Nat} (hl : s.lotAt k = some l) (hcur : l.current = none)
    (hp : firstUsable s l = some p) : chooseCurrent k s = setCurrent k l (some p) s := by
  simp only [chooseCurrent, hl, hcur, hp]

theorem chooseCurrent_of_none {k : LotIdx} {l : Lot} (hl : s.lotAt k = some l) (hp : firstUsable s l = none) :
    chooseCurrent k s = s := by
  simp only [chooseCurrent, hl, hp]
  cases l.current <;> rfl

/-- Settles O43: a PLANNED lot has no current bin, so the choice takes the first usable position, if any. -/
theorem openLotTaken : Obligations.OpenLotTaken := by
  intro q n s hs
  simp only [exec_openLot]
  refine ⟨fun hno => request_of_refuse _ q hs (by simp [ownOpenLot, (lotIdx?_eq_none_iff n).mpr hno]), ?_⟩
  rintro i l hlaw hl rfl
  have hown := ownOpenLot_of_lotAt hlaw hl
  refine ⟨fun hst => request_of_refuse _ q hs (by simp [hown, hst]), fun hst hcur => ?_⟩
  have hopened : (s.putLot i (some { l with state := .opened })).lotAt i = some { l with state := .opened } := by simp
  have hdone := request_of_done (f := openLotAt i) (.openLot q (some l.number)) q hs (owner := ownOpenLot)
    (a := l.number)
    (by simp [hown, hst])
  simp only [hdone, openLotAt, hl]
  refine ⟨fun p hp => ?_, fun hp => ?_⟩
  · rw [chooseCurrent_of_first hopened hcur hp, setCurrent, State.putLot_putLot]
    rfl
  · rw [chooseCurrent_of_none hopened hp]

/-! ## RELEASE_OUTTURN (R23, R24) -/

theorem exec_releaseOutturn (q : Requester) (n : Option Nat) (s : State) :
    exec (.releaseOutturn q n) s = request (.releaseOutturn q n) q n ownReleaseOutturn s := by rfl

/-- A lot that waits for an out-turn slot (R23). -/
abbrev Lot.waits (l : Lot) : Prop := l.state = .closing ∧ l.attached.isEmpty = true

theorem firstWaitingLot_eq_none (h : ∀ k l, s.lotAt k = some l → ¬l.waits) : firstWaitingLot s = none := by
  refine List.find?_eq_none.mpr fun k _ => ?_
  cases hl : s.lotAt k with
  | none => simp
  | some l => simpa only [Lot.waits, decide_eq_true_eq, Bool.and_eq_true] using h k l hl

theorem firstWaitingLot_eq_some {k : LotIdx} {l : Lot} (hl : s.lotAt k = some l) (hw : l.waits)
    (hfirst : ∀ j < k, ∀ m, s.lotAt j = some m → ¬m.waits) : firstWaitingLot s = some k := by
  refine List.find?_eq_some_iff_getElem.mpr ⟨by simpa [hl, Lot.waits] using hw, k.val, by simp, by simp, fun j hj => ?_⟩
  have hlt : (⟨j, hj.trans k.isLt⟩ : LotIdx) < k := hj
  cases hm : s.lotAt ⟨j, hj.trans k.isLt⟩ with
  | none => simp [hm]
  | some m => simpa [hm, imp_iff_not_or] using hfirst _ hlt m hm

/-- A closing lot without streams, and a free slot: it completes (R14). -/
theorem completionTest_of_room {k : LotIdx} {l : Lot} (hl : s.lotAt k = some l) (hw : l.waits)
    (hroom : s.lot.outturn.length < 16) : completionTest k s = raise .outturnReady s.lot.outturn.length
      ((s.putOutturn (s.lot.outturn ++ [l.outturnRecord])).putLot k none) := by
  simp only [completionTest, hl]
  rw [if_pos hw, outturnRoom, if_pos hroom]

theorem completionTest_of_full {k : LotIdx} {l : Lot} (hl : s.lotAt k = some l) (hw : l.waits)
    (hfull : 16 ≤ s.lot.outturn.length) : completionTest k s = if l.outturnFullReported then s
      else raise .outturnFull k.val (s.putLot k (some { l with outturnFullReported := true })) := by
  simp only [completionTest, hl]
  rw [if_pos hw, outturnRoom, if_neg (Nat.not_lt.mpr hfull)]

/-- Settles O45: the record is filtered out of the list, and the first waiting lot completes into the room. -/
theorem releaseOutturnTaken : Obligations.ReleaseOutturnTaken := by
  intro q n s hs
  simp only [exec_releaseOutturn]
  refine ⟨fun hno => request_of_refuse _ q hs ?_, fun before r after hsplit hr hothers => ?_⟩
  · have hin : s.inOutturn n = false := by simpa [State.inOutturn] using hno
    simp [ownReleaseOutturn, hin]
  · have hin : s.inOutturn n = true := by simp [State.inOutturn, hsplit, hr]
    have hrest : s.lot.outturn.filter (·.number != n) = before ++ after := by
      have hkeep : ∀ x ∈ before ++ after, (x.number != n) = true := by simpa using hothers
      simp only [List.mem_append, or_imp, forall_and] at hkeep
      simp [hsplit, hr, List.filter_append, List.filter_eq_self.mpr hkeep.1, List.filter_eq_self.mpr hkeep.2]
    have hdone := request_of_done (f := releaseOutturnOf n) (.releaseOutturn q (some n)) q hs
      (owner := ownReleaseOutturn) (a := n) (by simp [ownReleaseOutturn, hin])
    simp only [hdone, releaseOutturnOf, hrest]
    refine ⟨fun hnone => ?_, fun k l hl hst hatt hfirst hroom => ?_⟩
    · rw [firstWaitingLot_eq_none (s := s.putOutturn (before ++ after)) fun k l hl hw => hnone k ⟨l, hl, hw⟩]
    · rw [firstWaitingLot_eq_some (s := s.putOutturn (before ++ after)) (k := k) (l := l) hl ⟨hst, hatt⟩
        fun j hj m hm hw => hfirst j hj ⟨m, hm, hw⟩]
      exact congrArg (fun u => answeredDone _ q u) 
        (completionTest_of_room (s := s.putOutturn (before ++ after)) hl ⟨hst, hatt⟩ hroom)

end Machine
end Sys2Proof
end

section
/-! The judgement of a bin, the emptiness test and polling (R130, R134 to R143). -/

namespace Sys2Proof.Machine

variable {s : State} {b : BinIdx}

/-! ## Polling (R137) -/

/-- A bin that is polled: a gauge, and in service. -/
def Bin.Polled (x : Bin) : Prop := (∃ c a, x.config = some c ∧ c.gauge = some a) ∧ x.state ≠ .outOfService

theorem period_of_not_polled {x : Bin} (h : ¬x.Polled) : x.period = none := by
  unfold Bin.period
  cases hc : x.config with
  | none => rfl
  | some c =>
    cases ha : c.gauge with
    | none => simp [ha]
    | some a =>
      have hst : x.state = .outOfService := not_not.mp fun hne => h ⟨⟨c, a, hc, ha⟩, hne⟩
      simp [ha, hst]

theorem period_of_polled {x : Bin} (h : x.Polled) :
    x.period = some (if x.state = .filling then (if x.nearFull = true then 1000 else 4000) else 30000) := by
  obtain ⟨⟨c, a, hc, ha⟩, hst⟩ := h
  simp only [Bin.period, hc, ha]
  cases hx : x.state <;> simp_all

/-! ## The judgement (R134, R135, R136) -/

section Judged

variable {k : BinConfig}

theorem judgedLevel_eq (x : Bin) (k : BinConfig) :
    x.judgedLevel k = max (min 1000 (x.fill / k.capacity)) (x.gaugeLevel.getD 0) := by
  unfold Bin.judgedLevel
  cases x.gaugeLevel <;> simp [estimateLevel]

/-- The record of a bin with configuration `k` after its judgement. -/
def Bin.afterJudgement (x : Bin) (k : BinConfig) : Bin :=
  if x.judgedState k = x.state then x.formLevels k else (x.formLevels k).withState (x.judgedState k)

@[simp] theorem formLevels_state (x : Bin) (k : BinConfig) : (x.formLevels k).state = x.state := repoll_state _ _

theorem afterJudgement_state (x : Bin) (k : BinConfig) : (x.afterJudgement k).state = x.judgedState k := by
  unfold Bin.afterJudgement
  split
  next h => rw [formLevels_state, h]
  · exact repoll_state _ _

theorem afterJudgement_of_same {x : Bin} (h : (x.afterJudgement k).state = x.state) :
    x.afterJudgement k = x.formLevels k := if_pos ((afterJudgement_state x k).symm.trans h)

theorem afterJudgement_of_changed {x : Bin} (h : (x.afterJudgement k).state ≠ x.state) :
    x.afterJudgement k = (x.formLevels k).withState (x.afterJudgement k).state := by
  rw [afterJudgement_state] at h ⊢
  exact if_neg h

/-- Judgement forms the levels and sets the near-full flag whatever becomes of the state. -/
theorem afterJudgement_levels (x : Bin) (k : BinConfig) :
    (x.afterJudgement k).estimate = some (estimateLevel x.fill k.capacity) ∧
    (x.afterJudgement k).judged = some (x.judgedLevel k) ∧
    (x.afterJudgement k).nearFull = decide (k.preStage ≤ x.judgedLevel k) ∧
    (x.afterJudgement k).cls = x.cls := by
  unfold Bin.afterJudgement
  split <;> simp [Bin.withState, Bin.formLevels]

theorem afterJudgement_account (x : Bin) (k : BinConfig) : (x.afterJudgement k).account = x.account := by
  unfold Bin.afterJudgement
  split
  · exact repoll_account _ _
  · rw [withState_account]; exact repoll_account _ _

/-- A configured bin's judgement: its record, and what a changed state or near-full flag brings. -/
theorem judgeBin_of_config (hk : (s.bin b).config = some k) : judgeBin b s =
    let s1 := refreshLamps ((if ((s.bin b).formLevels k).nearFull = (s.bin b).nearFull then s else s.occasion).putBin b
      ((s.bin b).formLevels k))
    if (s.bin b).judgedState k = (s.bin b).state then s1
    else
      let s2 := s1.putBin b (((s.bin b).formLevels k).withState ((s.bin b).judgedState k))
      (if (s.bin b).judgedState k = .full then raise .binFull b.val s2 else s2).emit (.bin b) := by
  simp only [judgeBin, hk]

theorem judgeBin_of_not_config (hk : (s.bin b).config = none) : judgeBin b s = s := by
  simp only [judgeBin, hk]

theorem bin_judgeBin_self (hk : (s.bin b).config = some k) : (judgeBin b s).bin b = (s.bin b).afterJudgement k := by
  rw [judgeBin_of_config hk]
  unfold Bin.afterJudgement
  dsimp only
  split
  · simp
  · split <;> simp

theorem bin_judgeBin_other {c : BinIdx} (hc : c ≠ b) : (judgeBin b s).bin c = s.bin c := by
  cases hk : (s.bin b).config with
  | none => rw [judgeBin_of_not_config hk]
  | some k =>
    rw [judgeBin_of_config hk]
    have hput : ∀ (u : State) x, (u.putBin b x).bin c = u.bin c := fun u x => by rw [State.bin_putBin, if_neg hc.symm]
    dsimp only
    split <;> split <;> (try split) <;> simp [hput]

/-- A judgement that changes the state reports it. -/
theorem judgeBin_reports (hk : (s.bin b).config = some k) (hst : (s.bin b).judgedState k ≠ (s.bin b).state) :
    .bin b ∈ (judgeBin b s).agenda := by
  rw [judgeBin_of_config hk]
  dsimp only
  rw [if_neg hst]
  simp [State.emit]

theorem judgeBin_passDue (hk : (s.bin b).config = some k)
    (hn : ((s.bin b).formLevels k).nearFull ≠ (s.bin b).nearFull) : (judgeBin b s).passDue = true := by
  rw [judgeBin_of_config hk]
  dsimp only
  rw [if_neg hn]
  split
  · rfl
  · split <;> simp [State.occasion]

/-- A bin that becomes FULL raises BIN-FULL naming it. -/
theorem judgeBin_binFull (hk : (s.bin b).config = some k) (hst : (s.bin b).judgedState k ≠ (s.bin b).state)
    (hfull : (s.bin b).judgedState k = .full) :
    ((judgeBin b s).ind.events.get 13).flag = true ∧ ((judgeBin b s).ind.events.get 13).source = b.val := by
  rw [judgeBin_of_config hk]
  dsimp only
  rw [if_neg hst, if_pos hfull]
  generalize State.putBin _ _ _ = u
  have he : ((raise .binFull b.val u).emit (.bin b)).ind.events.get 13 = (u.ind.events.get 13).raise b.val :=
    raise_get_self .binFull b.val u
  rw [he]
  exact ⟨rfl, rfl⟩

/-- A judgement leaves fill, class and gauge as they stand. -/
theorem account_judgeBin (b : BinIdx) (s : State) : ((judgeBin b s).bin b).account = (s.bin b).account := by
  cases hk : (s.bin b).config with
  | none => rw [judgeBin_of_not_config hk]
  | some k => rw [bin_judgeBin_self hk, afterJudgement_account]

theorem cls_judgeBin (b : BinIdx) (s : State) : ((judgeBin b s).bin b).cls = (s.bin b).cls := by
  cases hk : (s.bin b).config with
  | none => rw [judgeBin_of_not_config hk]
  | some k => rw [bin_judgeBin_self hk, (afterJudgement_levels _ k).2.2.2]

/-- A report that waits goes on waiting through a judgement. -/
theorem mem_agenda_judgeBin {r : Report} (hr : r ∈ s.agenda) : r ∈ (judgeBin b s).agenda := by
  cases hk : (s.bin b).config with
  | none => rwa [judgeBin_of_not_config hk]
  | some k =>
    rw [judgeBin_of_config hk]
    dsimp only
    split <;> split <;> (try split) <;> simp [State.emit, State.occasion, hr]

end Judged

/-! ## The emptiness test (R141) -/

theorem isEmpty_iff (x : Bin) : x.isEmpty = true ↔ x.state ≠ .filling ∧ x.gateReserved = false ∧
    (x.fill = 0 ∨ ∃ l k, x.gaugeLevel = some l ∧ x.config = some k ∧ l ≤ k.empty) := by
  unfold Bin.isEmpty
  cases x.gaugeLevel <;> cases x.config <;> simp [and_assoc, or_comm]

/-- The record that passes the emptiness test loses fill and class; the change of class is reported. -/
def clearedBin (b : BinIdx) (s : State) : State :=
  if (s.bin b).cls = none then s.putBin b { s.bin b with fill := 0, cls := none }
  else (s.putBin b { s.bin b with fill := 0, cls := none }).emit (.bin b)

theorem emptinessTest_of_passes (h : (s.bin b).isEmpty = true) :
    emptinessTest b s = if (s.bin b).fill = 0 then clearedBin b s else judgeBin b (clearedBin b s) := by
  simp only [emptinessTest, h, if_true]
  rfl

theorem emptinessTest_of_not (h : ¬(s.bin b).isEmpty = true) : emptinessTest b s = s := by
  simp only [emptinessTest, h]
  rfl

theorem bin_clearedBin : (clearedBin b s).bin b = { s.bin b with fill := 0, cls := none } := by
  unfold clearedBin
  split <;> simp

/-- Settles O57: the judged record and its reports, the emptiness test, and the poll period by the bin's state. -/
theorem judgementAndEmptinessTest : Obligations.JudgementAndEmptinessTest := by
  refine ⟨fun s b k hk => ?judged, fun s b hk => judgeBin_of_not_config hk, fun s b => ?emptiness, fun x => ?period⟩
  case judged =>
    have hlevel := judgedLevel_eq (s.bin b) k
    simp only [bin_judgeBin_self hk, ← hlevel]
    have hstate := afterJudgement_state (s.bin b) k
    obtain ⟨hest, hjudged, hnear, hcls⟩ := afterJudgement_levels (s.bin b) k
    have hnearForm : ((s.bin b).formLevels k).nearFull = ((s.bin b).afterJudgement k).nearFull := by
      rw [hnear]; exact repoll_nearFull _ _
    refine ⟨hest, hjudged, by simp [hnear], fun hst hhigh => ?_, fun hst hlow => ?_, fun hst hlow hgate => ?_,
      fun hst hlow hgate => ?_, fun hst hresume => ?_, fun hst => ?_, afterJudgement_of_same, afterJudgement_of_changed,
      fun hne => judgeBin_reports hk (hstate ▸ hne), fun hne => judgeBin_passDue hk (hnearForm ▸ hne),
      afterJudgement_account _ _, hcls, fun c hc => bin_judgeBin_other hc⟩
    · have hfull : (s.bin b).judgedState k = .full := by
        obtain hst | hst := hst <;> simp [Bin.judgedState, hst, hhigh]
      refine ⟨hstate.trans hfull, judgeBin_binFull hk ?_ hfull⟩
      rw [hfull]
      obtain hst | hst := hst <;> simp [hst]
    · rw [hstate]
      obtain hst | hst := hst <;> simp [Bin.judgedState, hst, hlow.not_ge]
    all_goals rw [hstate]
    · simp [Bin.judgedState, hst, hlow, hgate]
    · simp [Bin.judgedState, hst, hlow, hgate]
    · simp [Bin.judgedState, hst, hresume.not_gt]
    · simp [Bin.judgedState, hst]
  case emptiness =>
    simp only [← isEmpty_iff]
    refine ⟨emptinessTest_of_not, fun hp => ?_, fun hp => ?_⟩
    · have hfill : ((clearedBin b s).bin b).fill = 0 := by rw [bin_clearedBin]
      have hcls : ((clearedBin b s).bin b).cls = none := by rw [bin_clearedBin]
      have hrep : (s.bin b).cls ≠ none → .bin b ∈ (clearedBin b s).agenda := fun hne => by
        rw [clearedBin, if_neg hne]
        simp [State.emit]
      rw [emptinessTest_of_passes hp]
      split
      · exact ⟨hfill, hcls, hrep⟩
      · exact ⟨(congrArg BinAccount.fill (account_judgeBin b _)).trans hfill, (cls_judgeBin b _).trans hcls,
          fun hne => mem_agenda_judgeBin (hrep hne)⟩
    · rw [emptinessTest_of_passes hp]
      exact ⟨fun h0 => if_pos h0, fun h0 => if_neg h0⟩
  case period =>
    refine ⟨period_of_not_polled, period_of_polled, fun p hp => ?_, fun o p hp => ⟨?_, ?_, ?_⟩, fun o hp => ?_,
      fun hp => ?_⟩
    · simp [Bin.repoll, hp]
    · rintro rfl
      simp [Bin.repoll, hp]
    · intro left hne hleft
      simp [Bin.repoll, hp, hne, hleft]
    · intro hne hleft
      simp only [Bin.repoll, hp, hleft, if_neg hne]
      cases x
      simp_all
    · simp only [Bin.repoll, hp, Bin.stopPolls]
    · simp only [Bin.repoll, hp]

end Sys2Proof.Machine
end

section
/-! The commands of the bins and the gauges' frames and timers (R130, R137 to R143). -/

namespace Sys2Proof.Machine

variable {s : State} {b : BinIdx} {x : Bin}

/-- A configured bin with a gauge station (R129). -/
def Bin.Gauged (x : Bin) : Prop := ∃ k, x.config = some k ∧ k.gauge ≠ none

theorem polled_iff : x.Polled ↔ x.Gauged ∧ x.state ≠ .outOfService := by
  simp only [Bin.Polled, Bin.Gauged, ne_eq, Option.eq_none_iff_forall_ne_some, not_forall, not_not]
  constructor
  · rintro ⟨⟨c, a, hc, ha⟩, hst⟩; exact ⟨⟨c, hc, a, ha⟩, hst⟩
  · rintro ⟨⟨c, hc, a, ha⟩, hst⟩; exact ⟨⟨c, a, hc, ha⟩, hst⟩

theorem period_isSome_iff : (∃ p, x.period = some p) ↔ x.Polled := by
  constructor
  · rintro ⟨p, hp⟩
    by_contra h
    rw [period_of_not_polled h] at hp
    exact absurd hp (by simp)
  · exact fun h => ⟨_, period_of_polled h⟩

/-! ## BIN_EMPTIED and BIN_SERVICE (R142, R143) -/

theorem exec_binEmptied (q : Requester) (n : Option Nat) (s : State) :
    exec (.binEmptied q n) s = request (.binEmptied q n) q n ownBinEmptied s := by rfl

theorem exec_binServiceOut (q : Requester) (n : Option Nat) (s : State) :
    exec (.binServiceOut q n) s = request (.binServiceOut q n) q n ownServiceOut s := by rfl

theorem exec_binServiceIn (q : Requester) (n : Option Nat) (s : State) :
    exec (.binServiceIn q n) s = request (.binServiceIn q n) q n ownServiceIn s := by rfl

/-- A polled bin that BIN-EMPTIED has emptied is polled at once. -/
theorem emptyBin_of_gauged (h : (s.bin b).Gauged) : emptyBin b s =
    let y := { s.bin b with fill := 0, cls := none, gaugeLevel := none, state := .available, pollOutstanding := false
                            replyTimer := none, pollTimer := some 0 }
    judgeBin b (if (s.bin b).state = .available ∧ (s.bin b).cls = none then s.putBin b y
      else (s.putBin b y).emit (.bin b)) := by
  have hp : Bin.period { s.bin b with fill := 0, cls := none, gaugeLevel := none, state := .available } = some _ :=
    period_of_polled (polled_iff.mpr ⟨h, by simp⟩)
  simp only [emptyBin, hp]

theorem emptyBin_of_not_gauged (h : ¬(s.bin b).Gauged) : emptyBin b s =
    let y := { s.bin b with fill := 0, cls := none, gaugeLevel := none, state := .available }
    judgeBin b (if (s.bin b).state = .available ∧ (s.bin b).cls = none then s.putBin b y
      else (s.putBin b y).emit (.bin b)) := by
  have hp : Bin.period { s.bin b with fill := 0, cls := none, gaugeLevel := none, state := .available } = none :=
    period_of_not_polled fun hp => h (polled_iff.mp hp).1
  simp only [emptyBin, hp]

/-- A bin that goes out of service is polled no more. -/
theorem withState_out_of_gauged (h : x.Gauged) (hst : x.state ≠ .outOfService) : x.withState .outOfService =
    { x with state := .outOfService, pollTimer := none, pollOutstanding := false, replyTimer := none } := by
  have hold := period_of_polled (polled_iff.mpr ⟨h, hst⟩)
  have hnew : Bin.period { x with state := .outOfService } = none :=
    period_of_not_polled fun hp => (polled_iff.mp hp).2 rfl
  simp only [Bin.withState, Bin.repoll, hold, hnew, Bin.stopPolls]

/-- A bin without a gauge is not polled in any state. -/
theorem withState_of_not_gauged (h : ¬x.Gauged) (st : BinState) : x.withState st = { x with state := st } := by
  have hold : x.period = none := period_of_not_polled fun hp => h (polled_iff.mp hp).1
  have hnew : Bin.period { x with state := st } = none := period_of_not_polled fun hp => h (polled_iff.mp hp).1
  simp only [Bin.withState, Bin.repoll, hold, hnew]

/-- A gauged bin that comes into service is polled at once. -/
theorem withState_in_of_gauged (h : x.Gauged) (hout : x.state = .outOfService) {st : BinState}
    (hst : st ≠ .outOfService) : x.withState st = { x with state := st, pollTimer := some 0 } := by
  have hold : x.period = none := period_of_not_polled fun hp => (polled_iff.mp hp).2 hout
  have hnew : Bin.period { x with state := st } = some _ := period_of_polled (polled_iff.mpr ⟨h, hst⟩)
  simp only [Bin.withState, Bin.repoll, hold, hnew]

/-- Settles O55: each command's refusals, and its effect on a bin with a gauge and on one without. -/
theorem binCommandsTaken : Obligations.BinCommandsTaken := by
  intro q n s hs
  simp only [exec_binEmptied, exec_binServiceOut, exec_binServiceIn]
  refine ⟨fun h => ⟨request_of_refuse _ q hs (indexed_of_le _ h), request_of_refuse _ q hs (indexed_of_le _ h),
    request_of_refuse _ q hs (indexed_of_le _ h)⟩, ?_⟩
  rintro b rfl
  simp only [show (∃ k, (s.bin b).config = some k ∧ k.gauge ≠ none) = (s.bin b).Gauged from rfl]
  have hin : (if (s.bin b).gateCarrying = true then BinState.filling else .available) ≠ .outOfService := by
    split <;> simp
  refine ⟨fun hc => request_of_refuse _ q hs (by simp [ownBinEmptied, hc]),
    fun hc hg => request_of_refuse _ q hs (by simp [ownBinEmptied, hc, hg]),
    fun hc hg => ⟨fun hgau => ?_, fun hgau => ?_⟩,
    fun hst => ?_, fun hst => ⟨fun hgau => ?_, fun hgau => ?_⟩,
    fun hno => request_of_refuse _ q hs ?_, fun hst hc => ⟨fun hgau => ?_, fun hgau => ?_⟩⟩
  · rw [request_of_done (f := emptyBin b) _ q hs (by simp [ownBinEmptied, hc, hg]), emptyBin_of_gauged hgau]
  · rw [request_of_done (f := emptyBin b) _ q hs (by simp [ownBinEmptied, hc, hg]), emptyBin_of_not_gauged hgau]
  · rw [request_of_done (f := serviceOut b) _ q hs (by simp [ownServiceOut]), serviceOut, if_pos hst]
  · rw [request_of_done (f := serviceOut b) _ q hs (by simp [ownServiceOut]), serviceOut, if_neg hst,
      withState_out_of_gauged hgau hst]
  · rw [request_of_done (f := serviceOut b) _ q hs (by simp [ownServiceOut]), serviceOut, if_neg hst,
      withState_of_not_gauged hgau]
  · rw [ownServiceIn, indexed_val]
    refine if_neg fun h => ?_
    obtain hno | hno := hno
    · exact hno h.1
    · simp [hno] at h
  · rw [request_of_done (f := serviceIn b) _ q hs (by simp [ownServiceIn, hst, Option.isSome_iff_ne_none, hc]),
      serviceIn,
      withState_in_of_gauged hgau hst hin]
  · rw [request_of_done (f := serviceIn b) _ q hs (by simp [ownServiceIn, hst, Option.isSome_iff_ne_none, hc]),
      serviceIn,
      withState_of_not_gauged hgau]

/-! ## WRITE_BIN_CONFIG (R129, R130) -/

theorem exec_writeBinConfig (q : Requester) (a : Option (WriteArgs BinConfigWrite)) (s : State) :
    exec (.writeBinConfig q a) s = request (.writeBinConfig q a) q a ownBinConfig s := by rfl

theorem outOf_iff (n : Nat) (o : Option Nat) : outOf n o = true ↔ ∃ k, o = some k ∧ n ≤ k := by
  cases o <;> simp [outOf]

theorem gateNotFree_iff (s : State) (b : BinIdx) :
    gateNotFree s b = true ↔ ∃ g, (s.bin b).inletGate = some g ∧ (s.seg g).state ≠ .free := by
  unfold gateNotFree
  cases (s.bin b).inletGate <;> simp

theorem gaugeDuplicate_iff (s : State) (b : BinIdx) (gauge : Option Nat) : gaugeDuplicate s b gauge = true ↔
    ∃ n j k, gauge = some n ∧ j ≠ b ∧ (s.bin j).config = some k ∧ k.gauge = some n := by
  cases gauge with
  | none => simp [gaugeDuplicate]
  | some n =>
    simp only [gaugeDuplicate, Option.isSome_some, Bool.true_and, List.any_eq_true, List.mem_finRange, true_and,
      Bool.and_eq_true, decide_eq_true_eq, Option.some.injEq]
    constructor
    · rintro ⟨j, hj, hm⟩
      cases hk : (s.bin j).config with
      | none => simp [hk] at hm
      | some k => exact ⟨n, j, k, rfl, hj, hk, by simpa [hk] using hm⟩
    · rintro ⟨_, j, k, rfl, hj, hk, hg⟩
      exact ⟨j, hj, by simp [hk, hg]⟩

theorem binConfigStored_eq_none_iff (w : BinConfigWrite) :
    binConfigStored w = none ↔ w.capacity = none ∨ ∃ n, w.gauge = some n ∧ 62 < n := by
  have hout := outOf_iff 63 w.gauge
  cases hc : w.capacity with
  | none => simp [binConfigStored, hc]
  | some n =>
    simp only [binConfigStored, hc, ite_eq_left_iff, reduceCtorEq, imp_false, not_not, false_or]
    simpa [Nat.succ_le_iff] using hout

theorem binConfigStored_of_capacity {w : BinConfigWrite} {n : Nat}
    (hok : ¬(w.capacity = none ∨ ∃ n, w.gauge = some n ∧ 62 < n)) (hc : w.capacity = some n) :
    binConfigStored w = some (binConfigClamped w n) := by
  have hne := mt (binConfigStored_eq_none_iff w).mp hok
  simp only [binConfigStored, hc] at hne ⊢
  split
  next h => simp [h] at hne
  · rfl

theorem binConfigClamped_eq (w : BinConfigWrite) (n : Nat) : binConfigClamped w n =
    let high := max 3 (min 1000 (w.high.getD 950))
    let preStage := max 2 (min high (w.preStage.getD 880))
    let resume := max 1 (min (preStage - 1) (w.resume.getD 800))
    ⟨max 1 (min 20000000 n), w.gauge, high, preStage, resume, min (resume - 1) (w.empty.getD 5)⟩ := by
  have hhigh : setting 950 3 1000 w.high = max 3 (min 1000 (w.high.getD 950)) := by
    cases w.high <;> rfl
  simp only [binConfigClamped, clamp, hhigh, Nat.zero_max]

/-- A gauge reset at another station is polled at once when the bin is polled. -/
theorem resetGauge_of_polled (h : x.Polled) : x.resetGauge = { x with
    gaugeLevel := none, gaugeState := .ok, misses := 0, pollOutstanding := false, replyTimer := none
    pollTimer := some 0 } := by
  have hp : Bin.period { x with gaugeLevel := none, gaugeState := .ok, misses := 0, pollOutstanding := false
                                replyTimer := none } = some _ := period_of_polled h
  simp only [Bin.resetGauge, hp, Option.map_some]

theorem resetGauge_of_not_polled (h : ¬x.Polled) : x.resetGauge = { x with
    gaugeLevel := none, gaugeState := .ok, misses := 0, pollOutstanding := false, replyTimer := none
    pollTimer := none } := by
  have hp : Bin.period { x with gaugeLevel := none, gaugeState := .ok, misses := 0, pollOutstanding := false
                                replyTimer := none } = none := period_of_not_polled h
  simp only [Bin.resetGauge, hp, Option.map_none]

/-- Settles O41: R130's tests in their order, then the gauge kept or reset by its station. -/
theorem binConfigWriteTaken : Obligations.BinConfigWriteTaken := by
  intro q a s hs
  simp only [exec_writeBinConfig]
  refine ⟨fun h => request_of_refuse _ q hs (indexed_of_le _ h), fun b hb => ?_⟩
  simp only [← gateNotFree_iff]
  refine ⟨fun ha hg => request_of_refuse _ q hs (by simp [ownBinConfig, ← hb, ha, hg]), fun ha hg => ?_,
    fun w ha => ⟨fun hbad => request_of_refuse _ q hs ?_, fun hok hdup => request_of_refuse _ q hs ?_,
      fun n hok hfree hc => ?_⟩⟩
  · rw [request_of_done (f := clearBinConfig b) _ q hs (by simp [ownBinConfig, ← hb, ha, hg])]
    rfl
  · simp [ownBinConfig, ← hb, ha, (binConfigStored_eq_none_iff w).mpr hbad]
  · obtain ⟨n, hc⟩ := Option.ne_none_iff_exists'.mp (not_or.mp hok).1
    have hd : gaugeDuplicate s b (binConfigClamped w n).gauge = true := (gaugeDuplicate_iff s b _).mpr hdup
    simp [ownBinConfig, ← hb, ha, binConfigStored_of_capacity hok hc, hd]
  · have hd : ¬gaugeDuplicate s b (binConfigClamped w n).gauge = true := mt (gaugeDuplicate_iff s b _).mp hfree
    rw [request_of_done (f := storeBinConfig b (binConfigClamped w n)) _ q hs
      (by simp [ownBinConfig, ← hb, ha, binConfigStored_of_capacity hok hc, hd])]
    have hstate := binConfigClamped_eq w n
    simp only at hstate
    rw [← hstate, storeBinConfig]
    have hgauge : (binConfigClamped w n).gauge = w.gauge := rfl
    have hpolled : Bin.Polled { s.bin b with config := some (binConfigClamped w n) } ↔
        w.gauge ≠ none ∧ (s.bin b).state ≠ .outOfService := by
      rw [polled_iff, Bin.Gauged]
      simp [hgauge]
    rw [hgauge, Bin.gauge]
    refine ⟨fun hsame => ?_, fun hother => ⟨fun hp => ?_, fun hp => ?_⟩⟩
    · rw [if_pos hsame]
    · rw [if_neg hother, resetGauge_of_polled (hpolled.mpr hp)]
    · rw [if_neg hother, resetGauge_of_not_polled (mt hpolled.mp hp)]

/-! ## Polls, misses and LEVEL frames (R138 to R140) -/

theorem exec_pollTimerExpiry (b : BinIdx) (s : State) : exec (.pollTimerExpiry b) s = happens (pollDue b s) := rfl

theorem exec_replyTimerExpiry (b : BinIdx) (s : State) : exec (.replyTimerExpiry b) s = happens (replyMissed b s) := rfl

/-- The period of a gauged bin, by its state (R137). -/
theorem period_of_gauged (h : x.Gauged) : x.period = if x.state = .outOfService then none else
    some (if x.state = .filling then (if x.nearFull = true then 1000 else 4000) else 30000) := by
  split
  next hst => exact period_of_not_polled fun hp => (polled_iff.mp hp).2 hst
  next hst => exact period_of_polled (polled_iff.mpr ⟨h, hst⟩)

/-- The bin of a gauge station is the one configured with it. -/
theorem binOfGauge_of_config {a : Nat} {k : BinConfig} (hk : (s.bin b).config = some k) (ha : k.gauge = some a)
    (hu : ∀ j k, (s.bin j).config = some k → k.gauge = some a → j = b) : binOfGauge s a = some b := by
  refine Tbl.findIdx?_eq_some_of_unique ?_ fun j hj => ?_
  · simp [show s.bins.get b = s.bin b from rfl, hk, ha]
  · rw [show s.bins.get j = s.bin j from rfl] at hj
    cases hc : (s.bin j).config with
    | none => simp [hc] at hj
    | some c => exact hu j c hc (by simpa [hc] using hj)

theorem binOfGauge_of_none {a : Nat} (h : ∀ j k, (s.bin j).config = some k → k.gauge ≠ some a) :
    binOfGauge s a = none := by
  refine Tbl.findIdx?_eq_none_iff.mpr fun j => ?_
  rw [show s.bins.get j = s.bin j from rfl]
  cases hc : (s.bin j).config with
  | none => rfl
  | some c => simpa [hc] using h j c hc

theorem putBin_bin_self : s.putBin b (s.bin b) = s := by
  simp [State.putBin, State.bin]

/-- Settles O56: each expiry by what is outstanding and the gauge's state; a LEVEL by its source. -/
theorem gaugePollsMissesAndLevels : Obligations.GaugePollsMissesAndLevels := by
  intro s b
  simp only [exec_pollTimerExpiry, exec_replyTimerExpiry]
  refine ⟨fun ms k a hms hk ha => ?poll, fun hms => ?disarmed, fun hout hrep => ?missed, fun hout hrep => ?noReply,
    fun src v => ⟨fun hown => ?_, fun hother hno => ?_, fun k hother hk ha hu => ?_⟩⟩
  case poll =>
    simp only [← period_of_gauged (x := s.bin b) ⟨k, hk, by simp [ha]⟩]
    exact ⟨fun hout => by simp only [pollDue, hms, hk, ha, hout]; rfl,
      fun hout => by simp only [pollDue, hms, hk, ha, hout]; rfl⟩
  case disarmed => simp only [pollDue, hms]
  case missed =>
    have hsome : ((s.bin b).pollOutstanding && (s.bin b).replyTimer.isSome) = true := by
      simp [hout, Option.isSome_iff_ne_none, hrep]
    simp only [replyMissed, hsome, if_true]
    refine ⟨fun hg hm => ?_, fun hg hm => ?_, fun hg hm => ?_, fun hg hm => ?_⟩ <;> simp only [hg]
    · rw [if_pos hm]
    · rw [if_neg (by omega)]
    · rw [Nat.min_eq_right (by omega)]
    · rw [hm]
      rfl
  case noReply =>
    have hsame : { s.bin b with replyTimer := none } = s.bin b := by rw [← hrep]
    rw [replyMissed, if_neg (by simp [hout]), hsame, putBin_bin_self]
  · show happens (if ownSource s src then s else levelReported src.toNat v.toNat s) = _
    rw [if_pos (by simp [ownSource, hown])]
  · rw [exec_level_of_other hother, levelReported, binOfGauge_of_none hno]
  · rw [exec_level_of_other hother]
    simp only [levelReported, binOfGauge_of_config hk ha hu]
    cases hout : (s.bin b).pollOutstanding <;> simp


end Sys2Proof.Machine
end

section
/-! The writes of stream configurations and segment configurations (R26, R27, R84, R85). -/

namespace Sys2Proof.Machine

variable {s : State}

/-! ## Indices and settings of a write -/

theorem idx?_eq_some_iff {n k : Nat} (i : Fin n) : idx? n k = some i ↔ i.val = k := by
  unfold idx?
  split
  next h => rw [Option.some.injEq, Fin.ext_iff, eq_comm]
  next h => exact ⟨fun hno => absurd hno (by simp), fun hi => absurd (hi ▸ i.isLt) h⟩

theorem bind_idx?_eq_some_iff {n : Nat} (o : Option Nat) (i : Fin n) : o.bind (idx? n) = some i ↔ o = some i.val := by
  cases o with
  | none => simp
  | some k => rw [Option.bind_some, idx?_eq_some_iff, Option.some.injEq, eq_comm]

theorem bind_idx?_eq_none_iff {n : Nat} (o : Option Nat) : o.bind (idx? n) = none ↔ ∀ k, o = some k → n ≤ k := by
  cases o with
  | none => simp
  | some k =>
    simp only [Option.bind_some, idx?, Option.some.injEq, forall_eq']
    split <;> simp_all

theorem setting_eq (default lo hi : Nat) (o : Option Nat) :
    setting default lo hi o = (o.map fun n => max lo (min hi n)).getD default := by
  cases o <;> rfl

/-! ## WRITE_STREAM_CONFIG (R26, R27) -/

theorem exec_writeStreamConfig (q : Requester) (a : Option (WriteArgs StreamConfigWrite)) (s : State) :
    exec (.writeStreamConfig q a) s = request (.writeStreamConfig q a) q a ownStreamConfig s := by rfl

theorem streamConfigBad_iff (r : StreamConfigWrite) : streamConfigBad r = true ↔
    (∃ n, r.meter = some n ∧ 62 < n) ∨ (∃ n, r.unloader = some n ∧ 62 < n) ∨ (∃ n, r.intake = some n ∧ 63 < n) ∨
      (r.meter ≠ none ∧ (r.unloader = none ∨ r.intake = none)) := by
  simp only [streamConfigBad, Bool.or_eq_true, Bool.and_eq_true, outOf_iff, Option.isSome_iff_ne_none,
    Option.isNone_iff_eq_none, Nat.succ_le_iff, or_assoc]

theorem otherStream_iff (s : State) (i : StreamIdx) (p : Stream → Bool) :
    otherStream s i p = true ↔ ∃ j, j ≠ i ∧ p (s.stream j) = true := by
  simp [otherStream]

theorem streamDuplicate_iff (s : State) (i : StreamIdx) (c : StreamConfig) : streamDuplicate s i c = true ↔
    (∃ n j, c.meter = some n ∧ j ≠ i ∧ (s.stream j).config.meter = some n) ∨
      (∃ g j, c.intake = some g ∧ j ≠ i ∧ (s.stream j).config.meter ≠ none ∧ (s.stream j).config.intake = some g) := by
  simp only [streamDuplicate, Bool.or_eq_true, Bool.and_eq_true, otherStream_iff, decide_eq_true_eq,
    Option.isSome_iff_ne_none]
  refine or_congr ?_ ?_
  · cases c.meter <;> simp
  · cases c.intake <;> simp

theorem any_items_iff {α : Type} {n : Nat} (t : Tbl α n) (p : α → Bool) :
    t.items.any p = true ↔ ∃ i, p (t.get i) = true := by
  simp only [List.any_eq_true]
  constructor
  · rintro ⟨x, hx, hp⟩
    obtain ⟨k, hk, rfl⟩ := List.getElem_of_mem hx
    exact ⟨⟨k, by rw [← t.len]; exact hk⟩, hp⟩
  · rintro ⟨i, hp⟩
    exact ⟨t.get i, List.getElem_mem _, hp⟩

theorem hasRoute_iff (s : State) (i : StreamIdx) : hasRoute s i = true ↔ ∃ r y, s.routeAt r = some y ∧ y.stream = i :=
  by
  rw [hasRoute, any_items_iff]
  refine exists_congr fun r => ?_
  rw [show s.alloc.routes.get r = s.routeAt r from rfl]
  cases s.routeAt r <;> simp

theorem streamInUse_iff (s : State) (i : StreamIdx) (c : StreamConfig) : streamInUse s i c = true ↔
    ((s.stream i).config.intake ≠ c.intake ∧ ∃ r y, s.routeAt r = some y ∧ y.stream = i) ∨
      ((s.stream i).config.meter ≠ c.meter ∧ ∃ z, s.tally.capture = some z ∧ z.stream = i) := by
  simp only [streamInUse, Bool.or_eq_true, Bool.and_eq_true, hasRoute_iff, capturing_iff, decide_eq_true_eq]

/-- What a write that has passed R27's first tests is answered: IN-USE, or the configuration stored. -/
def streamConfigAnswer (i : StreamIdx) (k : StreamConfig) (s : State) : Answer :=
  if streamInUse s i k then .refuse .inUse else .done (storeStreamConfig i k)

section Stored

variable {a : WriteArgs StreamConfigWrite} {i : StreamIdx} {q : Requester}

/-- The last test and the effect of a write of configuration `k`. -/
theorem streamConfig_taken (hs : s.mgmt.restartLeft = none) (k : StreamConfig)
    (hown : ownStreamConfig a s = streamConfigAnswer i k s) :
    (streamInUse s i k = true →
      request (.writeStreamConfig q (some a)) q (some a) ownStreamConfig s =
        answeredWith (.writeStreamConfig q (some a)) q .inUse s) ∧
    (¬streamInUse s i k = true → (s.stream i).config.meter = k.meter →
      request (.writeStreamConfig q (some a)) q (some a) ownStreamConfig s =
        answeredDone (.writeStreamConfig q (some a)) q (s.putStream i { s.stream i with config := k })) ∧
    (¬streamInUse s i k = true → (s.stream i).config.meter ≠ k.meter →
      request (.writeStreamConfig q (some a)) q (some a) ownStreamConfig s =
        answeredDone (.writeStreamConfig q (some a)) q (s.putStream i
          { s.stream i with config := k, last := none, lastLookup := none, demand := false })) := by
  refine ⟨fun h => request_of_refuse _ q hs (hown.trans (if_pos h)), fun h hm => ?_, fun h hm => ?_⟩
  · rw [request_of_done _ q hs (hown.trans (if_neg h)), storeStreamConfig, State.modStream, if_pos hm]
  · rw [request_of_done _ q hs (hown.trans (if_neg h)), storeStreamConfig, State.modStream, if_neg hm]

end Stored

theorem ownStreamConfig_of_reset {a : WriteArgs StreamConfigWrite} {i : StreamIdx} (hi : i.val = a.index)
    (hst : (s.stream i).state = .idle) (ha : a.entry = none) :
    ownStreamConfig a s = streamConfigAnswer i StreamConfig.reset s := by
  rw [ownStreamConfig, ← hi, indexed_val]
  simp only [hst, ha]
  rfl

theorem ownStreamConfig_of_record {a : WriteArgs StreamConfigWrite} {i : StreamIdx} {r : StreamConfigWrite}
    (hi : i.val = a.index) (hst : (s.stream i).state = .idle) (ha : a.entry = some r) : ownStreamConfig a s =
      if streamConfigBad r then .refuse .badRecord
      else if streamDuplicate s i (streamConfigStored r) then .refuse .duplicate
      else streamConfigAnswer i (streamConfigStored r) s := by
  rw [ownStreamConfig, ← hi, indexed_val]
  simp only [hst, ha]
  rfl

/-- The configuration stored is the one with the record's addresses and its settings clamped. -/
theorem streamConfigStored_eq {r : StreamConfigWrite} {k : StreamConfig} (hm : k.meter = r.meter)
    (hu : k.unloader = r.unloader) (hi : k.intake.map (·.val) = r.intake)
    (hg : k.gapLimit = (r.gapLimit.map fun n => max 300 (min 4000 n)).getD 1000)
    (ht : k.silenceTime = (r.silenceTime.map fun n => max 250 (min 8000 n)).getD 1500)
    (hr : k.unrouted = (r.unrouted.map fun n => min 65535 n).getD 50) : streamConfigStored r = k := by
  have hintake : r.intake.bind (idx? 64) = k.intake := by
    rw [← hi]
    cases k.intake with
    | none => rfl
    | some g => exact (bind_idx?_eq_some_iff _ _).mpr rfl
  obtain ⟨m, u, g, gap, time, un⟩ := k
  simp only at hm hu hg ht hr hintake
  simp only [streamConfigStored, setting_eq, hintake, Nat.zero_max]
  rw [hm, hu, hg, ht, hr]

/-- Settles O36: R27's tests in their order, each as the model's test says it. -/
theorem streamConfigWriteTaken : Obligations.StreamConfigWriteTaken := by
  intro q a s hs
  simp only [exec_writeStreamConfig]
  refine ⟨fun h => request_of_refuse _ q hs (indexed_of_le _ h), fun i hi => ?_⟩
  simp only [← streamInUse_iff]
  refine ⟨fun hst => request_of_refuse _ q hs (by simp [ownStreamConfig, ← hi, hst]),
    fun hst ha => ?_, fun r hst ha => ?_⟩
  · have htaken := streamConfig_taken (q := q) hs _ (ownStreamConfig_of_reset hi hst ha)
    simp only [streamInUse_iff] at htaken
    exact htaken
  have hown := ownStreamConfig_of_record hi hst ha
  simp only [← streamConfigBad_iff]
  have hdup : ¬streamConfigBad r = true → (streamDuplicate s i (streamConfigStored r) = true ↔
      ((∃ n j, r.meter = some n ∧ j ≠ i ∧ (s.stream j).config.meter = some n) ∨
        (∃ n j g, r.intake = some n ∧ g.val = n ∧ j ≠ i ∧ (s.stream j).config.meter ≠ none ∧
          (s.stream j).config.intake = some g))) := fun _ => by
    rw [streamDuplicate_iff]
    refine or_congr Iff.rfl ?_
    simp only [streamConfigStored, bind_idx?_eq_some_iff]
    constructor
    · rintro ⟨g, j, hg, hj, hm, hint⟩; exact ⟨g.val, j, g, hg, rfl, hj, hm, hint⟩
    · rintro ⟨_, j, g, hg, rfl, hj, hm, hint⟩; exact ⟨g, j, hg, hj, hm, hint⟩
  refine ⟨fun hbad => request_of_refuse _ q hs (by simp [hown, hbad]), fun hok hd => request_of_refuse _ q hs ?_,
    fun hok hfree k hm hu hint hg ht hr => ?_⟩
  · simp [hown, hok, (hdup hok).mpr hd]
  · have hk := streamConfigStored_eq hm hu hint hg ht hr
    have hnd : ¬streamDuplicate s i (streamConfigStored r) = true := mt (hdup hok).mp hfree
    rw [if_neg hok, if_neg hnd, hk] at hown
    exact streamConfig_taken hs k hown

/-! ## WRITE_SEGMENT_CONFIG (R84, R85) -/

theorem exec_writeSegmentConfig (q : Requester) (a : Option (WriteArgs SegConfigWrite)) (s : State) :
    exec (.writeSegmentConfig q a) s = request (.writeSegmentConfig q a) q a ownSegConfig s := by rfl

theorem onRoute_iff (s : State) (g : SegIdx) :
    onRoute s g = true ↔ ∃ r y st, s.routeAt r = some y ∧ st ∈ y.steps ∧ st.segment = g := by
  rw [onRoute, any_items_iff]
  refine exists_congr fun r => ?_
  rw [show s.alloc.routes.get r = s.routeAt r from rfl]
  cases s.routeAt r <;> simp

theorem segmentDuplicate_iff (s : State) (g : SegIdx) (k : SegKind) : segmentDuplicate s g k = true ↔
    (∃ n j, k.actuator = some n ∧ j ≠ g ∧ (s.seg j).actuator = some n) ∨
      (∃ b j, k.bin = some b ∧ j ≠ g ∧ (s.seg j).gateBin = some b) := by
  simp only [segmentDuplicate, otherSegment, Bool.or_eq_true, Bool.and_eq_true, List.any_eq_true, List.mem_finRange,
    true_and, decide_eq_true_eq]
  refine or_congr ?_ ?_
  · cases k.actuator <;> simp
  · cases k.bin <;> simp

theorem changesKind_iff (x : Segment) (k : SegKind) :
    changesKind x k = true ↔ x.segKind.map SegKind.name ≠ some k.name ∨ x.gateBin ≠ k.bin := by
  simp [changesKind]

/-- Test 3 of R85: the kind is missing, or a field it requires is missing or out of range. -/
def SegConfigBad (w : SegConfigWrite) : Prop :=
  w.kind = none ∨ w.flushTime = none ∨
    ((w.kind = some .diverter ∨ w.kind = some .gate) ∧ ∀ n, w.actuator = some n → 62 < n) ∨
    (w.kind = some .gate ∧ ∀ n, w.bin = some n → 39 < n)

theorem segKindStored_conveyor {w : SegConfigWrite} (hk : w.kind = some .conveyor) :
    segKindStored w = some .conveyor := by
  simp [segKindStored, hk]

theorem segKindStored_diverter {w : SegConfigWrite} (hk : w.kind = some .diverter) {n : Nat}
    (ha : w.actuator = some n) :
    segKindStored w = if n ≤ 62 then some (.diverter n (w.flowSwitch.getD false)) else none := by
  simp [segKindStored, hk, ha]

theorem segKindStored_gate {w : SegConfigWrite} (hk : w.kind = some .gate) {n : Nat} {b : BinIdx}
    (ha : w.actuator = some n) (hb : w.bin = some b.val) :
    segKindStored w = if n ≤ 62 then some (.gate n b) else none := by
  simp [segKindStored, hk, ha, (bind_idx?_eq_some_iff w.bin b).mpr hb]

theorem segKindStored_of_bad {w : SegConfigWrite} (h : SegConfigBad w) (hf : w.flushTime ≠ none) :
    segKindStored w = none := by
  obtain hk | hfl | ⟨hk, ha⟩ | ⟨hk, hb⟩ := h
  · simp [segKindStored, hk]
  · exact absurd hfl hf
  · have hno : ∀ n, w.actuator = some n → ¬n ≤ 62 := fun n hn => Nat.not_le.mpr (ha n hn)
    unfold segKindStored
    obtain hk | hk := hk <;> rw [hk] <;> cases hact : w.actuator with
    | none => rfl
    | some n => cases hbin : w.bin.bind (idx? 40) <;> simp [hno n hact]
  · have hbin : w.bin.bind (idx? 40) = none := (bind_idx?_eq_none_iff _).mpr hb
    unfold segKindStored
    rw [hk, hbin]
    cases w.actuator <;> rfl

theorem segConfigStored_of_bad {w : SegConfigWrite} (h : SegConfigBad w) : segConfigStored w = none := by
  cases hf : w.flushTime with
  | none =>
    unfold segConfigStored
    rw [hf]
    cases segKindStored w <;> rfl
  | some f => simp [segConfigStored, segKindStored_of_bad h (by simp [hf])]

/-- The kind a record names, with the fields the kind requires (R85). -/
def SegConfigNames (w : SegConfigWrite) (kind : SegKind) : Prop :=
  w.kind = some .conveyor ∧ kind = .conveyor ∨
    (∃ n, w.kind = some .diverter ∧ w.actuator = some n ∧ kind = .diverter n (w.flowSwitch.getD false)) ∨
    (∃ n b, w.kind = some .gate ∧ w.actuator = some n ∧ w.bin = some b.val ∧ kind = .gate n b)

theorem segKindStored_of_names {w : SegConfigWrite} {kind : SegKind} (hok : ¬SegConfigBad w)
    (h : SegConfigNames w kind) :
    segKindStored w = some kind := by
  have hact : ∀ n, w.kind = some .diverter ∨ w.kind = some .gate → w.actuator = some n → n ≤ 62 := fun n hk hn =>
    Nat.le_of_not_lt fun hlt => hok (Or.inr (Or.inr (Or.inl ⟨hk, fun m hm => by
      rw [hn, Option.some.injEq] at hm; exact hm ▸ hlt⟩)))
  obtain ⟨hk, rfl⟩ | ⟨n, hk, hn, rfl⟩ | ⟨n, b, hk, hn, hb, rfl⟩ := h
  · exact segKindStored_conveyor hk
  · rw [segKindStored_diverter hk hn, if_pos (hact n (Or.inl hk) hn)]
  · rw [segKindStored_gate hk hn hb, if_pos (hact n (Or.inr hk) hn)]

theorem segConfigStored_of_names {w : SegConfigWrite} {kind : SegKind} {f : Nat} (hok : ¬SegConfigBad w)
    (h : SegConfigNames w kind) (hf : w.flushTime = some f) : segConfigStored w = some ⟨kind, min 6000 f,
      (w.travelLimit.map fun n => max 1 (min 60 n)).getD 12, (w.shareLimit.map fun n => max 1 (min 4 n)).getD 1⟩ := by
  simp only [segConfigStored, segKindStored_of_names hok h, hf, setting_eq]

/-- A bin's inlet gate set or cleared, both marks clear (R132). -/
def markInlet (b : BinIdx) (v : Option SegIdx) (u : State) : State :=
  u.putBin b { u.bin b with inletGate := v, gateCarrying := false, gateReserved := false }

/-- A FREE segment's new configuration, by the actuator and the bin it now has. -/
theorem storeSegConfig_eq (g : SegIdx) (k : Option SegConfig) (s : State) :
    storeSegConfig g k s =
      let x := s.seg g
      let actuator := (k.map SegConfig.kind).bind SegKind.actuator
      let bin := (k.map SegConfig.kind).bind SegKind.bin
      let s1 := s.putSeg g { x with
        config := k, reported := if x.actuator = actuator then x.reported else none
        commanded := if actuator = none then none else x.commanded }
      (if x.gateBin = bin then s1 else setInlet bin (some g) (setInlet x.gateBin none s1)).occasion := by
  have hact : Segment.actuator { s.seg g with config := k } = (k.map SegConfig.kind).bind SegKind.actuator := rfl
  simp only [storeSegConfig, hact]
  cases (k.map SegConfig.kind).bind SegKind.actuator with
  | none => by_cases h : (s.seg g).actuator = none <;> simp only [h, if_true, if_false] <;> rfl
  | some a => by_cases h : (s.seg g).actuator = some a <;> simp only [h, if_true, if_false, reduceCtorEq] <;> rfl

/-- Settles O40: R85's tests in their order; a write that is taken stores the configuration. -/
theorem segmentConfigWriteTaken : Obligations.SegmentConfigWriteTaken := by
  intro q a s hs
  simp only [exec_writeSegmentConfig]
  refine ⟨fun h => request_of_refuse _ q hs (indexed_of_le _ h), fun g hg => ?_⟩
  simp only [← onRoute_iff, ← segmentDuplicate_iff, ← changesKind_iff]
  refine ⟨fun hst => request_of_refuse _ q hs (by simp [ownSegConfig, ← hg, hst]),
    fun hst ha hr => request_of_refuse _ q hs (by simp [ownSegConfig, ← hg, hst, ha, hr]),
    fun hst ha hr => ?_,
    fun w hst ha => ⟨fun hbad => request_of_refuse _ q hs ?_, fun kind f hok hf hnames =>
      ⟨fun hd => request_of_refuse _ q hs ?_, fun hd hr hc => request_of_refuse _ q hs ?_, fun hd hfree => ?_⟩⟩⟩
  · rw [request_of_done (f := storeSegConfig g none) _ q hs (by simp [ownSegConfig, ← hg, hst, ha, hr]),
      storeSegConfig_eq]
    rfl
  · simp [ownSegConfig, ← hg, hst, ha, segConfigStored_of_bad hbad]
  · simp [ownSegConfig, ← hg, hst, ha, segConfigStored_of_names hok hnames hf, hd]
  · simp [ownSegConfig, ← hg, hst, ha, segConfigStored_of_names hok hnames hf, hd, hr, hc]
  · rw [request_of_done (f := storeSegConfig g (some ⟨kind, min 6000 f, _, _⟩)) _ q hs (by
      simp only [ownSegConfig, ← hg, indexed_val, hst, ha, segConfigStored_of_names hok hnames hf, Bool.and_eq_true]
      rw [if_neg (by simp), if_neg hd, if_neg hfree]), storeSegConfig_eq]
    rfl

end Sys2Proof.Machine
end

section
/-! The writes of lots and routes (R5 to R7, R106, R107). -/

namespace Sys2Proof.Machine

variable {s : State}

/-! ## WRITE_LOT (R5, R6, R7) -/

theorem exec_writeLot (q : Requester) (a : Option (WriteArgs LotWrite)) (s : State) :
    exec (.writeLot q a) s = request (.writeLot q a) q a ownLot s := by rfl

theorem allIdx_eq_some_iff {n : Nat} (l : List Nat) (is : List (Fin n)) :
    allIdx n l = some is ↔ l = is.map (·.val) := by
  induction l generalizing is with
  | nil => cases is <;> simp [allIdx]
  | cons k l ih =>
    unfold allIdx
    constructor
    · intro h
      split at h
      next i js hi hjs =>
        cases h
        rw [(ih js).mp hjs, List.map_cons, (idx?_eq_some_iff i).mp hi]
      · exact absurd h (by simp)
    · intro h
      cases is with
      | nil => simp at h
      | cons i js =>
        rw [List.map_cons, List.cons.injEq] at h
        rw [(idx?_eq_some_iff i).mpr h.1.symm, (ih js).mpr h.2]

/-- A write record that passes R5's test 2, with its number, class and bins. -/
def LotSound (w : LotWrite) (n k : Nat) (bins : List BinIdx) : Prop :=
  w.number = some n ∧ n ≠ 0 ∧ w.cls = some k ∧ k ≤ 15 ∧ w.bins = some (bins.map (·.val)) ∧ 1 ≤ bins.length ∧
    bins.length ≤ 8 ∧ bins.Nodup

/-- The record a sound write stores. -/
def storedOf (w : LotWrite) (n k : Nat) (bins : List BinIdx) : LotRecord :=
  { number := n, cls := k, declared := w.declared.map fun m => max 1 (min 4000000000 m)
    tolerance := (w.tolerance.map fun m => min 100 m).getD 5, bins := bins }

theorem lotStored_of_sound {w : LotWrite} {n k : Nat} {bins : List BinIdx} (h : LotSound w n k bins) :
    lotStored w = some (storedOf w n k bins) := by
  obtain ⟨hn, h0, hk, hk15, hb, h1, h8, hnd⟩ := h
  have hcond : n ≠ 0 ∧ k ≤ 15 ∧ 1 ≤ bins.length ∧ bins.length ≤ 8 ∧ noRepeat bins = true :=
    ⟨h0, hk15, h1, h8, by simpa [noRepeat] using hnd⟩
  simp only [lotStored, hn, hk, hb, (allIdx_eq_some_iff _ bins).mpr rfl, if_pos hcond, setting_eq, Nat.zero_max]
  rfl

theorem lotSound_of_stored {w : LotWrite} {r : LotRecord} (h : lotStored w = some r) :
    LotSound w r.number r.cls r.bins := by
  obtain ⟨number, cls, declared, tolerance, list⟩ := w
  cases number with
  | none => simp [lotStored] at h
  | some n => cases cls with
    | none => simp [lotStored] at h
    | some k => cases list with
      | none => simp [lotStored] at h
      | some l =>
        simp only [lotStored] at h
        split at h
        next bs hbs =>
          split at h
          next hc =>
            cases h
            obtain ⟨h0, h15, h1, h8, hnd⟩ := hc
            exact ⟨rfl, h0, rfl, h15, by rw [(allIdx_eq_some_iff l bs).mp hbs], h1, h8, by simpa [noRepeat] using hnd⟩
          · exact absurd h (by simp)
        · exact absurd h (by simp)

theorem lotStored_eq_none {w : LotWrite} (h : ¬∃ n k bins, LotSound w n k bins) : lotStored w = none :=
  Option.eq_none_iff_forall_ne_some.mpr fun _ hr => h ⟨_, _, _, lotSound_of_stored hr⟩

theorem lotDuplicate_iff (s : State) (i : LotIdx) (n : Nat) : lotDuplicate s i n = true ↔
    (∃ j l, j ≠ i ∧ s.lotAt j = some l ∧ l.number = n) ∨ (∃ r ∈ s.lot.outturn, r.number = n) := by
  simp only [lotDuplicate, Bool.or_eq_true, List.any_eq_true, List.mem_finRange, true_and, Bool.and_eq_true,
    decide_eq_true_eq, State.inOutturn, beq_iff_eq]
  refine or_congr (exists_congr fun j => ?_) Iff.rfl
  cases s.lotAt j <;> simp

theorem lotNamed_iff (s : State) (n : Nat) : lotNamed s n = true ↔
    (∃ g, (s.seg g).state ≠ .free ∧ (s.seg g).owner = some n) ∨
      (∃ j r, (s.stream j).suspect = some r ∧ r.lot = some n) := by
  rw [lotNamed, Bool.or_eq_true, any_items_iff, any_items_iff]
  refine or_congr (exists_congr fun g => ?_) (exists_congr fun j => ?_)
  · simp [State.seg]
  · rw [show s.streams.get j = s.stream j from rfl]
    cases (s.stream j).suspect <;> simp

theorem continues_iff (r : LotRecord) (l : Lot) :
    r.continues l = true ↔ r.number = l.number ∧ r.cls = l.cls ∧ l.bins.map (·.bin) <+: r.bins := by
  rw [List.prefix_iff_eq_take, List.length_map, eq_comm (a := l.bins.map _)]
  simp only [LotRecord.continues, Bool.and_eq_true, beq_iff_eq, decide_eq_true_eq, and_assoc]

section Answers

variable {a : WriteArgs LotWrite} {i : LotIdx} {w : LotWrite} {r : LotRecord} {l : Lot}

theorem ownLot_of_absent (hi : i.val = a.index) (ha : a.entry = some w) (hr : lotStored w = some r)
    (hl : s.lotAt i = none) : ownLot a s = if lotDuplicate s i r.number then .refuse .duplicate
      else if lotNamed s r.number then .refuse .inUse
      else .done fun s => s.putLot i (some r.planned) := by
  simp only [ownLot, ← hi, indexed_val, ha, hr, hl]

theorem ownLot_of_planned (hi : i.val = a.index) (ha : a.entry = some w) (hr : lotStored w = some r)
    (hl : s.lotAt i = some l) (hst : l.state = .planned) : ownLot a s =
      if r.number ≠ l.number ∧ lotDuplicate s i r.number then .refuse .duplicate
      else if r.number ≠ l.number ∧ lotNamed s r.number then .refuse .inUse
      else .done fun s => s.putLot i (some r.planned) := by
  simp only [ownLot, ← hi, indexed_val, ha, hr, hl, hst]

theorem ownLot_of_running (hi : i.val = a.index) (ha : a.entry = some w) (hr : lotStored w = some r)
    (hl : s.lotAt i = some l) (hst : l.state = .opened ∨ l.state = .discharging) :
    ownLot a s = if r.continues l then .done (extendLot i r) else .refuse .inUse := by
  obtain hst | hst := hst <;> simp only [ownLot, ← hi, indexed_val, ha, hr, hl, hst]

end Answers

/-- A write taken into a running lot makes the overrun check exactly when the declaration changes (R6, R21). -/
theorem extendLot_of_lotAt {i : LotIdx} {l : Lot} (hl : s.lotAt i = some l) (r : LotRecord) : extendLot i r s =
    chooseCurrent i (if l.declared = r.declared ∧ l.tolerance = r.tolerance then s.putLot i (some (r.extended l))
      else overrunAfterWrite i (s.putLot i (some (r.extended l)))) := by
  simp only [extendLot, hl]

/-- Settles O38: the tests by what stands at the index: nothing, or a lot in its state. -/
theorem lotWriteTaken : Obligations.LotWriteTaken := by
  intro q a s hs
  simp only [exec_writeLot]
  refine ⟨fun h => request_of_refuse _ q hs (indexed_of_le _ h), fun i hi =>
    ⟨fun ha => ⟨fun hl => ?_, fun l hl => ⟨fun hst => ?_, fun hst => ?_, fun hst => ?_⟩⟩, fun w ha =>
      ⟨fun hbad => request_of_refuse _ q hs ?_, fun n k bins hsound => ?_⟩⟩⟩
  · exact request_of_done (f := id) _ q hs (by simp [ownLot, ← hi, ha, hl])
  · exact request_of_done (f := fun s => s.putLot i none) _ q hs (by simp [ownLot, ← hi, ha, hl, hst])
  · obtain hst | hst := hst <;> exact request_of_refuse _ q hs (by simp [ownLot, ← hi, ha, hl, hst])
  · exact request_of_refuse _ q hs (by simp [ownLot, ← hi, ha, hl, hst])
  · simp [ownLot, ← hi, ha, lotStored_eq_none hbad]
  · have hr := lotStored_of_sound hsound
    simp only [← lotDuplicate_iff, ← lotNamed_iff]
    refine ⟨fun hl => ?_, fun l hl => ⟨fun hst => ?_, fun hst => ?_, fun hst => ?_⟩⟩
    · have hown := ownLot_of_absent hi ha hr hl
      simp only [storedOf] at hown
      exact ⟨fun hd => request_of_refuse _ q hs (hown.trans (if_pos hd)),
        fun hd hn => request_of_refuse _ q hs ((hown.trans (if_neg hd)).trans (if_pos hn)),
        fun hd hn => request_of_done (f := fun s => s.putLot i (some (storedOf w n k bins).planned)) _ q hs
          ((hown.trans (if_neg hd)).trans (if_neg hn))⟩
    · have hown := ownLot_of_planned hi ha hr hl hst
      simp only [storedOf] at hown
      refine ⟨fun hne hd => request_of_refuse _ q hs (hown.trans (if_pos ⟨hne, hd⟩)),
        fun hne hd hn => request_of_refuse _ q hs
          ((hown.trans (if_neg fun h => hd h.2)).trans (if_pos ⟨hne, hn⟩)),
        fun hfree => request_of_done (f := fun s => s.putLot i (some (storedOf w n k bins).planned)) _ q hs ?_⟩
      have hd : ¬(n ≠ l.number ∧ lotDuplicate s i n = true) := fun h => hfree.elim h.1 fun hf => hf.1 h.2
      have hn : ¬(n ≠ l.number ∧ lotNamed s n = true) := fun h => hfree.elim h.1 fun hf => hf.2 h.2
      exact (hown.trans (if_neg hd)).trans (if_neg hn)
    · exact request_of_refuse _ q hs (by simp [ownLot, ← hi, ha, hr, hl, hst])
    · have hown := ownLot_of_running hi ha hr hl hst
      have hcont := continues_iff (storedOf w n k bins) l
      have hdone := fun hf => request_of_done (f := extendLot i (storedOf w n k bins)) (.writeLot q (some a)) q hs
        (hown.trans (if_pos (hcont.mpr hf)))
      refine ⟨fun hno => request_of_refuse _ q hs (hown.trans (if_neg (mt hcont.mp hno))),
        fun hf hdec htol => ?_, fun hf hch => ?_⟩
      · rw [hdone hf, extendLot_of_lotAt hl, if_pos ⟨hdec, htol⟩]
        rfl
      · rw [hdone hf, extendLot_of_lotAt hl]
        exact congrArg (fun u => answeredDone _ q (chooseCurrent i u)) (if_neg hch)

/-! ## WRITE_ROUTE (R106, R107) -/

theorem exec_writeRoute (q : Requester) (a : Option (WriteArgs RouteWrite)) (s : State) :
    exec (.writeRoute q a) s = request (.writeRoute q a) q a ownRoute s := by rfl

theorem referenced_iff (s : State) (k : RouteIdx) : s.referenced k = true ↔
    (∃ r ∈ s.alloc.queue, r.route = some k) ∨ (∃ i, (s.stream i).activeRoute = some k) ∨
      (∃ i x, s.stagingOf i = some x ∧ x.route = some k) := by
  rw [State.referenced, Bool.or_eq_true, Bool.or_eq_true, any_items_iff, any_items_iff, or_assoc]
  refine or_congr (by simp) (or_congr (by simp [State.stream]) (exists_congr fun i => ?_))
  rw [show s.alloc.staging.get i = s.stagingOf i from rfl]
  cases s.stagingOf i <;> simp

theorem routeDuplicate_iff (s : State) (k : RouteIdx) (r : Route) : routeDuplicate s k r = true ↔
    ∃ j y, j ≠ k ∧ s.routeAt j = some y ∧ y.stream = r.stream ∧ y.bin = r.bin := by
  simp only [routeDuplicate, List.any_eq_true, List.mem_finRange, true_and, Bool.and_eq_true, decide_eq_true_eq]
  refine exists_congr fun j => ?_
  cases s.routeAt j <;> simp

/-- A step at a position its segment's kind takes: a CONVEYOR or a DIVERTER before the last step, the GATE of bin `b` as
the last one (R107). -/
def StepFits (s : State) (b : BinIdx) (final : Bool) (w : StepWrite) (st : Step) : Prop :=
  ((s.seg st.segment).segKind = some .conveyor ∧ final = false ∧ st.position = none) ∨
  (∃ act fl p, (s.seg st.segment).segKind = some (.diverter act fl) ∧ final = false ∧ w.position = some p ∧ p ≤ 3 ∧
    st.position = some p) ∨
  (∃ act, (s.seg st.segment).segKind = some (.gate act b) ∧ final = true ∧ w.position = some 1 ∧ st.position = some 1)

section StepStored

variable {b : BinIdx} {final : Bool} {w : StepWrite} {g : SegIdx} (hg : w.segment.bind (idx? 64) = some g)
include hg

theorem stepStored_of_unconfigured (hk : (s.seg g).segKind = none) : stepStored s b final w = none := by
  simp only [stepStored, hg, hk]

theorem stepStored_conveyor (hk : (s.seg g).segKind = some .conveyor) :
    stepStored s b final w = if final then none else some ⟨g, none⟩ := by
  simp only [stepStored, hg, hk]

theorem stepStored_diverter {act : Nat} {fl : Bool} (hk : (s.seg g).segKind = some (.diverter act fl)) :
    stepStored s b final w = w.position.bind fun p =>
      if final then none else if p ≤ 3 then some ⟨g, some p⟩ else none := by
  simp only [stepStored, hg, hk]
  cases w.position <;> rfl

theorem stepStored_gate {act : Nat} {b' : BinIdx} (hk : (s.seg g).segKind = some (.gate act b')) :
    stepStored s b final w =
      if final && decide (b' = b) && decide (w.position = some 1) then some ⟨g, some 1⟩ else none := by
  simp only [stepStored, hg, hk]

end StepStored

theorem stepStored_eq_some_iff (s : State) (b : BinIdx) (final : Bool) (w : StepWrite) (st : Step) :
    stepStored s b final w = some st ↔ w.segment = some st.segment.val ∧ StepFits s b final w st := by
  constructor
  · intro h
    cases hg : w.segment.bind (idx? 64) with
    | none => simp [stepStored, hg] at h
    | some g =>
      have hw := (bind_idx?_eq_some_iff _ g).mp hg
      cases hk : (s.seg g).segKind with
      | none => simp [stepStored_of_unconfigured hg hk] at h
      | some k => cases k with
        | conveyor =>
          rw [stepStored_conveyor hg hk, Option.ite_none_left_eq_some, Option.some.injEq] at h
          obtain ⟨hfin, rfl⟩ := h
          exact ⟨hw, Or.inl ⟨hk, Bool.eq_false_iff.mpr hfin, rfl⟩⟩
        | diverter act fl =>
          rw [stepStored_diverter hg hk, Option.bind_eq_some_iff] at h
          obtain ⟨p, hp, h⟩ := h
          rw [Option.ite_none_left_eq_some, Option.ite_none_right_eq_some, Option.some.injEq] at h
          obtain ⟨hfin, hle, rfl⟩ := h
          exact ⟨hw, Or.inr (Or.inl ⟨act, fl, p, hk, Bool.eq_false_iff.mpr hfin, hp, hle, rfl⟩)⟩
        | gate act b' =>
          rw [stepStored_gate hg hk, Option.ite_none_right_eq_some, Option.some.injEq] at h
          simp only [Bool.and_eq_true, decide_eq_true_eq] at h
          obtain ⟨⟨⟨hfin, rfl⟩, hp⟩, rfl⟩ := h
          exact ⟨hw, Or.inr (Or.inr ⟨act, hk, hfin, hp, rfl⟩)⟩
  · obtain ⟨g, p⟩ := st
    rintro ⟨hw, ⟨hk, hfin, hp⟩ | ⟨act, fl, p', hk, hfin, hp', hle, hp⟩ | ⟨act, hk, hfin, hp', hp⟩⟩ <;>
      have hg := (bind_idx?_eq_some_iff _ g).mpr hw <;> simp only at hp hk <;> subst hp
    · simp [stepStored_conveyor hg hk, hfin]
    · simp [stepStored_diverter hg hk, hfin, hp', hle]
    · simp [stepStored_gate hg hk, hfin, hp']

/-- The steps stored are those of the writes one by one, the last one knowing that it is the last. -/
theorem storedSteps_eq_some_iff (s : State) (b : BinIdx) (l : List StepWrite) (sts : List Step) :
    storedSteps s b l = some sts ↔ l.length = sts.length ∧ ∀ (j : Nat) (w : StepWrite) (st : Step), l[j]? = some w →
      sts[j]? = some st → stepStored s b (decide (j + 1 = l.length)) w = some st := by
  induction l generalizing sts with
  | nil => cases sts <;> simp [storedSteps]
  | cons w l ih =>
    have hlast : l.isEmpty = decide (0 + 1 = (w :: l).length) := by cases l <;> simp
    cases sts with
    | nil =>
      simp only [storedSteps, List.length_cons, List.length_nil, Nat.add_eq_zero_iff, one_ne_zero, and_false, false_and,
        iff_false]
      split <;> simp
    | cons st sts =>
      constructor
      · intro h
        rw [storedSteps] at h
        split at h
        next st' sts' hst hsts =>
          cases h
          obtain ⟨hlen, hall⟩ := (ih sts).mp hsts
          refine ⟨by simp [hlen], fun j x y hx hy => ?_⟩
          cases j with
          | zero => cases hx; cases hy; rwa [← hlast]
          | succ j => simpa using hall j x y hx hy
        · exact absurd h (by simp)
      · rintro ⟨hlen, hall⟩
        have hst : stepStored s b l.isEmpty w = some st := by rw [hlast]; exact hall 0 w st rfl rfl
        have hsts : storedSteps s b l = some sts := (ih sts).mpr
          ⟨by simpa using hlen, fun j x y hx hy => by simpa using hall (j + 1) x y hx hy⟩
        simp only [storedSteps, hst, hsts]

/-- A route record that passes R107's test 4, with the route stored of it and its step writes. -/
def RouteSound (s : State) (w : RouteWrite) (r : Route) (l : List StepWrite) : Prop :=
  w.stream = some r.stream.val ∧ w.bin = some r.bin.val ∧ w.steps = some l ∧
  2 ≤ r.steps.length ∧ r.steps.length ≤ 10 ∧ l.map (·.segment) = r.steps.map (fun st => some st.segment.val) ∧
  (r.steps.map (·.segment)).Nodup ∧
  (∃ g, (s.stream r.stream).config.intake = some g ∧ r.steps.head?.map (·.segment) = some g) ∧
  (∃ st act, r.steps.getLast? = some st ∧ (s.seg st.segment).segKind = some (.gate act r.bin)) ∧
  ∀ (j : Nat) (st : Step) (x : StepWrite), r.steps[j]? = some st → l[j]? = some x →
    ((s.seg st.segment).segKind = some .conveyor ∧ st.position = none) ∨
    (∃ act fl p, (s.seg st.segment).segKind = some (.diverter act fl) ∧ x.position = some p ∧ p ≤ 3 ∧
      st.position = some p) ∨
    (∃ act b, (s.seg st.segment).segKind = some (.gate act b) ∧ j + 1 = r.steps.length ∧
      x.position = some 1 ∧ st.position = some 1)

theorem routeStored_eq_some_iff (s : State) (w : RouteWrite) (r : Route) : routeStored s w = some r ↔
    ∃ l, w.stream = some r.stream.val ∧ w.bin = some r.bin.val ∧ w.steps = some l ∧
      storedSteps s r.bin l = some r.steps ∧ 2 ≤ r.steps.length ∧ r.steps.length ≤ 10 ∧
      (r.steps.map (·.segment)).Nodup ∧
      (∃ g, (s.stream r.stream).config.intake = some g ∧ r.steps.head?.map (·.segment) = some g) := by
  constructor
  · intro h
    unfold routeStored at h
    split at h
    next i b l hi hb hl =>
      split at h
      next sts hsts =>
        rw [Option.ite_none_right_eq_some, Option.some.injEq] at h
        obtain ⟨⟨h2, h10, hnd, hint, hhead⟩, rfl⟩ := h
        obtain ⟨g, hg⟩ := Option.isSome_iff_exists.mp hint
        exact ⟨l, (bind_idx?_eq_some_iff _ i).mp hi, (bind_idx?_eq_some_iff _ b).mp hb, hl, hsts, h2, h10,
          by simpa [noRepeat] using hnd, g, hg, hhead.trans hg⟩
      · exact absurd h (by simp)
    · exact absurd h (by simp)
  · rintro ⟨l, hi, hb, hl, hsts, h2, h10, hnd, g, hg, hhead⟩
    have hcond : 2 ≤ r.steps.length ∧ r.steps.length ≤ 10 ∧ noRepeat (r.steps.map (·.segment)) = true ∧
        (s.stream r.stream).config.intake.isSome = true ∧
        r.steps.head?.map (·.segment) = (s.stream r.stream).config.intake :=
      ⟨h2, h10, by simpa [noRepeat] using hnd, by simp [hg], hhead.trans hg.symm⟩
    simp only [routeStored, (bind_idx?_eq_some_iff _ r.stream).mpr hi, (bind_idx?_eq_some_iff _ r.bin).mpr hb, hl, hsts,
      if_pos hcond]

theorem routeSound_of_stored {w : RouteWrite} {r : Route} (h : routeStored s w = some r) : ∃ l, RouteSound s w r l := by
  obtain ⟨l, hi, hb, hl, hsts, h2, h10, hnd, hint⟩ := (routeStored_eq_some_iff s w r).mp h
  obtain ⟨hlen, hall⟩ := (storedSteps_eq_some_iff s r.bin l r.steps).mp hsts
  have hfit : ∀ (j : Nat) (st : Step) (x : StepWrite), r.steps[j]? = some st → l[j]? = some x →
      x.segment = some st.segment.val ∧ StepFits s r.bin (decide (j + 1 = r.steps.length)) x st := fun j st x hst hx =>
    (stepStored_eq_some_iff s r.bin _ x st).mp (hlen ▸ hall j x st hx hst)
  refine ⟨l, hi, hb, hl, h2, h10, ?_, hnd, hint, ?_, fun j st x hst hx => ?_⟩
  · refine List.ext_getElem (by simp [hlen]) fun j hj hj' => ?_
    simp only [List.length_map] at hj hj'
    simpa using (hfit j _ _ (List.getElem?_eq_getElem hj') (List.getElem?_eq_getElem hj)).1
  · have hlt : r.steps.length - 1 < r.steps.length := by omega
    have hlt' : r.steps.length - 1 < l.length := hlen ▸ hlt
    obtain ⟨-, hk⟩ := hfit _ _ _ (List.getElem?_eq_getElem hlt) (List.getElem?_eq_getElem hlt')
    have hfin : decide (r.steps.length - 1 + 1 = r.steps.length) = true := by simp; omega
    rw [hfin] at hk
    obtain ⟨-, hf, -⟩ | ⟨_, _, _, -, hf, -⟩ | ⟨act, hk, -⟩ := hk
    · exact absurd hf (by simp)
    · exact absurd hf (by simp)
    · exact ⟨_, act, (List.getLast?_eq_getElem? (l := r.steps)).trans (List.getElem?_eq_getElem hlt), hk⟩
  · obtain ⟨hk, -, hp⟩ | ⟨act, fl, p, hk, -, hx, hle, hp⟩ | ⟨act, hk, hf, hx, hp⟩ := (hfit j st x hst hx).2
    · exact Or.inl ⟨hk, hp⟩
    · exact Or.inr (Or.inl ⟨act, fl, p, hk, hx, hle, hp⟩)
    · exact Or.inr (Or.inr ⟨act, r.bin, hk, by simpa using hf, hx, hp⟩)

theorem routeStored_of_sound {w : RouteWrite} {r : Route} {l : List StepWrite} (h : RouteSound s w r l) :
    routeStored s w = some r := by
  obtain ⟨hi, hb, hl, h2, h10, hseg, hnd, hint, ⟨last, act, hlast, hgate⟩, hall⟩ := h
  have hlen : l.length = r.steps.length := by simpa using congrArg List.length hseg
  refine (routeStored_eq_some_iff s w r).mpr ⟨l, hi, hb, hl, ?_, h2, h10, hnd, hint⟩
  refine (storedSteps_eq_some_iff s r.bin l r.steps).mpr ⟨hlen, fun j x st hx hst => ?_⟩
  have hatLast : j + 1 = r.steps.length → (s.seg st.segment).segKind = some (.gate act r.bin) := fun hj => by
    rw [List.getLast?_eq_getElem?, ← hj, Nat.add_sub_cancel, hst, Option.some.injEq] at hlast
    rwa [hlast]
  have hsegment : x.segment = some st.segment.val := by
    have := congrArg (·[j]?) hseg
    simpa [hx, hst] using this
  refine (stepStored_eq_some_iff s r.bin _ x st).mpr ⟨hsegment, ?_⟩
  rw [hlen]
  obtain ⟨hk, hp⟩ | ⟨_, _, p, hk, hxp, hle, hp⟩ | ⟨_, b, hk, hj, hxp, hp⟩ := hall j st x hst hx
  · exact Or.inl ⟨hk, decide_eq_false fun hj => by simp [hatLast hj] at hk, hp⟩
  · exact Or.inr (Or.inl ⟨_, _, p, hk, decide_eq_false fun hj => by simp [hatLast hj] at hk, hxp, hle, hp⟩)
  · exact Or.inr (Or.inr ⟨act, hatLast hj, decide_eq_true hj, hxp, hp⟩)

/-- Settles O39: R107's tests in their order; the model's reading of a record is the statement's. -/
theorem routeWriteTaken : Obligations.RouteWriteTaken := by
  intro q a s hs
  simp only [exec_writeRoute]
  refine ⟨fun h => request_of_refuse _ q hs (indexed_of_le _ h), fun k hk => ?_⟩
  simp only [← referenced_iff, ← routeDuplicate_iff]
  refine ⟨fun href => request_of_refuse _ q hs (by simp [ownRoute, ← hk, href]), fun href ha => ?_,
    fun w href ha => ⟨fun hbad => request_of_refuse _ q hs ?_, fun r l hsound =>
      ⟨fun hd => request_of_refuse _ q hs ?_, fun hd => ?_⟩⟩⟩
  · exact request_of_done (f := fun s => (s.putRoute k none).occasion) _ q hs (by simp [ownRoute, ← hk, href, ha])
  · have hnone : routeStored s w = none := Option.eq_none_iff_forall_ne_some.mpr fun r hr =>
      hbad ⟨r, routeSound_of_stored hr⟩
    simp [ownRoute, ← hk, href, ha, hnone]
  · simp [ownRoute, ← hk, href, ha, routeStored_of_sound hsound, hd]
  · exact request_of_done (f := fun s => (s.putRoute k (some r)).occasion) _ q hs
      (by simp [ownRoute, ← hk, href, ha, routeStored_of_sound hsound, hd])

end Sys2Proof.Machine
end

section
/-! Samples: which are left alone, the division into grams, the tally and the booking (R20, R29 to R32, R43 to R46, R54
to R68). -/

namespace Sys2Proof.Machine

variable {s : State} {i : StreamIdx}

/-! ## The division into grams (R58) -/

theorem residueAfter_eq_sub (k : Calibration) (r counts time : Nat) : residueAfter k r counts time =
    numerator k counts time + r - gramsOf k r counts time * 102400000000000 := by
  have := residueAfter_add_gramsOf k r counts time
  omega

/-- A sample's grams and residue, then the next one's: one division of the summed numerators. -/
theorem division_of_run (run : List (Calibration × Nat × Nat)) (g r : Nat) (hr : r < 102400000000000) :
    run.foldl (fun (p : Nat × Nat) x => (p.1 + gramsOf x.1 p.2 x.2.1 x.2.2, residueAfter x.1 p.2 x.2.1 x.2.2)) (g, r) =
      (g + ((run.map fun x => numerator x.1 x.2.1 x.2.2).sum + r) / 102400000000000,
        ((run.map fun x => numerator x.1 x.2.1 x.2.2).sum + r) % 102400000000000) := by
  induction run generalizing g r with
  | nil => simp [Nat.div_eq_of_lt hr, Nat.mod_eq_of_lt hr]
  | cons x run ih =>
    have hlt := residueAfter_lt x.1 r x.2.1 x.2.2
    have hadd := residueAfter_add_gramsOf x.1 r x.2.1 x.2.2
    simp only [List.foldl_cons, List.map_cons, List.sum_cons]
    rw [ih _ _ hlt]
    simp only [Prod.mk.injEq]
    omega

theorem netCount_le_of_counts (k : Calibration) (counts time : Nat) : netCount k counts time ≤ counts * 1024000 :=
  Nat.sub_le _ _

/-- Settles O25: the single division, the run by induction on its samples, and the bound by the factors' bounds. -/
theorem divisionLosesNothing : Obligations.DivisionLosesNothing := by
  refine ⟨fun k r counts time => ⟨rfl, residueAfter_eq_sub k r counts time⟩, fun run r hr => ?_,
    fun k r counts time h1 hspan hlo hhi hr hc => ?_⟩
  · have hrun := division_of_run run 0 r hr
    rwa [Nat.zero_add] at hrun
  · have hn : netCount k counts time ≤ 18446744073709551615 * 1024000 :=
      (netCount_le_of_counts k counts time).trans (Nat.mul_le_mul_right _ hc)
    have hm : numerator k counts time ≤ 18446744073709551615 * 1024000 * 1000000 * 102000 :=
      Nat.mul_le_mul (Nat.mul_le_mul hn hspan) (trimFactor_le hhi)
    omega

/-! ## Which stream takes a sample, and whether (R29 to R32) -/

theorem streamOfMeter_eq {a : Nat} (hm : (s.stream i).config.meter = some a)
    (hu : ∀ j, (s.stream j).config.meter = some a → j = i) : streamOfMeter s a = some i :=
  Tbl.findIdx?_eq_some_of_unique (by simpa [State.stream] using hm) fun j hj => hu j (by simpa [State.stream] using hj)

theorem streamOfMeter_eq_none {a : Nat} (h : ∀ j, (s.stream j).config.meter ≠ some a) : streamOfMeter s a = none :=
  Tbl.findIdx?_eq_none_iff.mpr fun j => by simpa [State.stream] using h j

/-- The frame a SAMPLE is forwarded as (R150). -/
def sampleFrame (src : Byte) (f : SampleFields) : Frame := ⟨broadcast, src, kindSample, samplePayload f⟩

/-- A SAMPLE of the meter of stream `i` is forwarded, then taken by the stream (R29, R150). -/
theorem exec_sample_of_meter {src : Byte} (hother : src.toNat ≠ s.loop.address) (hrun : s.mgmt.restartLeft = none)
    (hm : (s.stream i).config.meter = some src.toNat) (hu : ∀ j, (s.stream j).config.meter = some src.toNat → j = i)
    (f : SampleFields) : exec (.sample src f) s = happens (streamSample i f (s.forward (sampleFrame src f))) := by
  have hfwd : streamOfMeter (s.forward (sampleFrame src f)) src.toNat = some i := streamOfMeter_eq (by simpa using hm)
    fun j hj => hu j (by simpa using hj)
  have hrest : (s.forward (sampleFrame src f)).restarting = false := by simp [State.restarting, hrun]
  rw [exec_sample_of_other hother f]
  show happens (examineSample src f (s.forward (sampleFrame src f))) = _
  rw [examineSample, hrest, sampleExamined, hfwd]
  rfl

section Accepted

variable {l : LastSample} {f : SampleFields}

theorem measure_steps_cast (l : LastSample) (f : SampleFields) :
    ((measure l f).steps : Int) = ((f.seq.toNat : Int) - l.seq) % 256 := deltaMod_cast (by decide) _ _

/-- R31's two tests on the differences of sequence and meter time. -/
theorem accepted_iff : (measure l f).accepted = true ↔
    1 ≤ ((f.seq.toNat : Int) - l.seq) % 256 ∧ ((f.seq.toNat : Int) - l.seq) % 256 ≤ 128 ∧
      ((f.time.toNat : Int) - l.time) % 65536 ≠ 0 := by
  rw [← measure_steps_cast, ← measure_time_cast]
  simp only [Measured.accepted, Bool.and_eq_true, decide_eq_true_eq]
  omega

end Accepted

theorem streamSample_of_priming {f : SampleFields} (h : (s.stream i).last = none ∨ f.flags.getLsbD 2 = true) :
    streamSample i f s = primeSample i f s := by
  unfold streamSample
  split
  · rfl
  next l hl => exact if_pos (h.resolve_left (by simp [hl]))

theorem streamSample_of_accepted {f : SampleFields} {l : LastSample} (hl : (s.stream i).last = some l)
    (hf : f.flags.getLsbD 2 = false) (ha : (measure l f).accepted = true) :
    streamSample i f s = acceptSample i f (measure l f) s := by
  have hr : ¬sampleRestart f = true := Bool.eq_false_iff.mp hf
  simp only [streamSample, hl]
  rw [if_neg hr, if_pos ha]

theorem streamSample_of_discarded {f : SampleFields} {l : LastSample} (hl : (s.stream i).last = some l)
    (hf : f.flags.getLsbD 2 = false) (ha : ¬(measure l f).accepted = true) :
    streamSample i f s = s.modStream i fun x => { x with discarded := countUp x.discarded 1 } := by
  have hr : ¬sampleRestart f = true := Bool.eq_false_iff.mp hf
  simp only [streamSample, hl]
  rw [if_neg hr, if_neg ha]

/-- Settles O21: stripped, forwarded alone, or discarded by R31's tests. -/
theorem sampleLeftAloneOrDiscarded : Obligations.SampleLeftAloneOrDiscarded := by
  intro s src f
  refine ⟨fun hown => ?_, fun hother => ⟨fun hrun => ?_, fun hno => ?_, fun i l hrun hm hu hl hf hd => ?_⟩⟩
  · show happens (if ownSource s src then s else _) = _
    rw [if_pos (by simp [ownSource, hown])]
  · rw [exec_sample_of_other hother f, examineSample, if_pos]
    · rfl
    · simpa [State.restarting, Option.isSome_iff_ne_none] using hrun
  · rw [exec_sample_of_other hother f, examineSample, sampleExamined, streamOfMeter_eq_none (by simpa using hno),
      ite_self]
    rfl
  · have hna : ¬(measure l f).accepted = true := fun ha => by
      rw [accepted_iff] at ha
      omega
    rw [exec_sample_of_meter hother hrun hm hu f, streamSample_of_discarded (by simpa using hl) hf hna]
    rfl

end Sys2Proof.Machine
end

section
/-! The tally of an accepted sample (R45, R54, R58, R60 to R64). -/

namespace Sys2Proof.Machine

variable {s : State} {i : StreamIdx} {k : Calibration} {f : SampleFields} {m : Measured}

/-! ## What a counted and raised condition leaves (R61, R62) -/

/-- `t` is `s`, with stream `i`'s tally updated and event `kind` raised for it when `p` holds. -/
structure Counted (kind : EventKind) (upd : Tally → Tally) (p : Prop) (i : StreamIdx) (s t : State) : Prop where
  streams : t.streams = s.streams
  lot : t.lot = s.lot
  bins : t.bins = s.bins
  segs : t.segs = s.segs
  alloc : t.alloc = s.alloc
  capture : t.tally.capture = s.tally.capture
  tally : p → t.tallyOf i = upd (s.tallyOf i)
  tally_not : ¬p → t.tallyOf i = s.tallyOf i
  tallies : ∀ j, j ≠ i → t.tallyOf j = s.tallyOf j
  event : p → t.ind.events.get kind.num = (s.ind.events.get kind.num).raise i.val
  event_not : ¬p → t.ind.events.get kind.num = s.ind.events.get kind.num
  events : ∀ e, kind.num ≠ e → t.ind.events.get e = s.ind.events.get e

theorem counted_ite (kind : EventKind) (upd : Tally → Tally) (p : Prop) [Decidable p] (i : StreamIdx) (s : State) :
    Counted kind upd p i s (if p then raise kind i.val (s.modTally i upd) else s) := by
  split
  next hp =>
    exact {
      streams := by simp [State.modTally], lot := by simp [State.modTally], bins := by simp [State.modTally]
      segs := by simp [State.modTally], alloc := by simp [State.modTally], capture := by simp [State.modTally]
      tally := fun _ => by simp [State.modTally]
      tally_not := fun h => absurd hp h
      tallies := fun j hj => by simp [State.modTally, State.tallyOf_putTally, hj.symm]
      event := fun _ => raise_get_self kind _ _
      event_not := fun h => absurd hp h
      events := fun e he => raise_get_other he _ _ }
  next hp =>
    exact ⟨rfl, rfl, rfl, rfl, rfl, rfl, fun h => absurd h hp, fun _ => rfl, fun _ _ => rfl, fun h => absurd h hp,
      fun _ => rfl, fun _ _ => rfl⟩

/-! ## The verdict's conditions -/

theorem isOverRange_iff (hg : m.rate ≤ 4 * k.ceiling) : isOverRange k m = true ↔ k.ceiling < m.rate := by
  simp [isOverRange, isGross, hg]

theorem absDiff_cast (a b : Nat) : (absDiff a b : Int) = |(a : Int) - b| := by
  unfold absDiff
  obtain h | h := le_total a b
  · rw [abs_of_nonpos (by omega)]; omega
  · rw [abs_of_nonneg (by omega)]; omega

theorem isRateJump_iff (x : Stream) (r0 : Nat) : isRateJump k x r0 m = true ↔
    0 < k.jump ∧ x.fedAtLast = true ∧ x.state = .feeding ∧ (k.jump : Int) < |(m.rate : Int) - r0| := by
  simp only [isRateJump, Bool.and_eq_true, decide_eq_true_eq, and_assoc, ← absDiff_cast, Nat.cast_lt]

theorem isCertified_iff (x : Stream) (r0 : Nat) : isCertified k x r0 f m = true ↔
    ¬(isOverRange k m = true ∨ isRateJump k x r0 m = true ∨ x.config.gapLimit < m.time ∨
      f.flags.getLsbD 1 = false) := by
  simp only [isCertified, isGap, sampleMeterOk, Bool.not_eq_true', Bool.or_eq_false_iff, decide_eq_false_iff_not]
  cases isOverRange k m <;> cases isRateJump k x r0 m <;> cases f.flags.getLsbD 1 <;> simp

/-! ## A gross sample (R45, R54) -/

theorem books_iff (st : StreamState) : st.books = true ↔ st = .feeding ∨ st = .draining := by
  cases st <;> simp [StreamState.books]

theorem tallyStep_of_gross (hk : (s.tallyOf i).cal = some k) (hg : 4 * k.ceiling < m.rate) :
    tallyStep i f m s = raise .meterSuspect i.val (addReason i .meter (s.putStream i
      { s.stream i with last := some (lastOf f 0), suspect := some (suspectAfter s i f m) })) := by
  have hgross : isGross k m = true := decide_eq_true hg
  simp only [tallyStep, hk, hgross, if_true]
  rfl

theorem tallyStep_of_not_gross (hk : (s.tallyOf i).cal = some k) (hg : m.rate ≤ 4 * k.ceiling) :
    tallyStep i f m s = bookSample i (gramsOf k (s.tallyOf i).residue m.counts m.time)
      (isCertified k (s.stream i) (s.stream i).lastRate f m) (captureSample i m (tallyEffects i k f m s)) := by
  have hgross : ¬isGross k m = true := by simpa [isGross] using hg
  simp only [tallyStep, hk]
  rw [if_neg hgross]

theorem tallyStep_of_uncalibrated (hk : (s.tallyOf i).cal = none) :
    tallyStep i f m s = s.putStream i { s.stream i with last := some (lastOf f m.rate) } := by
  simp only [tallyStep, hk]
  rfl

theorem suspectAfter_of_some {r : Suspect} (h : (s.stream i).suspect = some r) : suspectAfter s i f m =
    { r with counts := satAdd r.counts m.counts, time := satAdd r.time m.time, lastSeq := f.seq.toNat } := by
  simp only [suspectAfter, h]

theorem suspectAfter_of_none (h : (s.stream i).suspect = none) : suspectAfter s i f m =
    ⟨m.counts, f.seq.toNat, f.seq.toNat, m.time, (s.stream i).currentLot,
      if (s.stream i).state.books then s.activeBin i else none⟩ := by
  simp only [suspectAfter, h]

/-- Settles O26: the gross sample, then the conditions counted one after the other. -/
theorem tallyOfSample : Obligations.TallyOfSample := by
  refine ⟨fun s i k f m hk hg => ?gross, fun s i k f m l hk hl hg => ?measured⟩
  case gross =>
    simp only [tallyStep_of_gross hk hg]
    refine ⟨fun hs hst => ?_, fun hs hst => ?_, fun r hs => ?_⟩
    · rw [suspectAfter_of_none hs, if_pos ((books_iff _).mpr hst)]
      rfl
    · rw [suspectAfter_of_none hs, if_neg (mt (books_iff _).mp hst)]
      rfl
    · rw [suspectAfter_of_some hs]
      rfl
  case measured =>
    have hrate : (s.stream i).lastRate = l.rate := by simp [Stream.lastRate, hl]
    refine ⟨tallyEffects i k f m s, isCertified k (s.stream i) (s.stream i).lastRate f m, ?_,
      tallyStep_of_not_gross hk hg, ?_⟩
    · rw [isCertified_iff, isOverRange_iff hg, isRateJump_iff, hrate]
    · simp only [← isOverRange_iff hg, ← hrate, ← isRateJump_iff]
      obtain ⟨s1, hs1, hover⟩ : ∃ s1, (if isOverRange k m = true then countOverRange i s else s) = s1 ∧
          Counted .overRange (fun t => { t with overCount := countUp t.overCount 1 }) (isOverRange k m = true) i s s1 :=
        ⟨_, rfl, counted_ite _ _ _ i s⟩
      obtain ⟨s2, hs2, hjump⟩ : ∃ s2, (if isRateJump k (s.stream i) (s.stream i).lastRate m = true
            then countRateJump i s1 else s1) = s2 ∧
          Counted .rateJump (fun t => { t with jumpCount := countUp t.jumpCount 1 })
            (isRateJump k (s.stream i) (s.stream i).lastRate m = true) i s1 s2 :=
        ⟨_, rfl, counted_ite _ _ _ i s1⟩
      have heffects : tallyEffects i k f m s = (s2.modTally i fun t =>
          { t with residue := residueAfter k t.residue m.counts m.time }).modStream i
            fun y => { y with last := some (lastOf f m.rate) } := by
        rw [← hs2, ← hs1]; rfl
      have hstreams : s2.streams = s.streams := hjump.streams.trans hover.streams
      have hstream : ∀ j, s2.stream j = s.stream j := fun j => by rw [State.stream, hstreams]; rfl
      have htally : s2.tallyOf i = { s.tallyOf i with
          overCount := (s1.tallyOf i).overCount, jumpCount := (s2.tallyOf i).jumpCount } ∧
          (s1.tallyOf i).jumpCount = (s.tallyOf i).jumpCount := by
        by_cases ho : isOverRange k m = true <;>
          by_cases hj : isRateJump k (s.stream i) (s.stream i).lastRate m = true <;>
          simp [ho, hj, hover.tally, hover.tally_not, hjump.tally, hjump.tally_not]
      obtain ⟨htally, hjumpCount⟩ := htally
      have hself : (tallyEffects i k f m s).tallyOf i = { s.tallyOf i with
          overCount := (s1.tallyOf i).overCount, jumpCount := (s2.tallyOf i).jumpCount
          residue := residueAfter k (s.tallyOf i).residue m.counts m.time } := by
        rw [heffects]
        simp only [State.modStream, State.modTally, State.tallyOf_putStream, State.tallyOf_putTally_self]
        rw [htally]
      have hevents : ∀ e, (tallyEffects i k f m s).ind.events.get e = s2.ind.events.get e := fun e => by
        rw [heffects]
        rfl
      simp only [hself, hevents]
      refine ⟨?_, fun j hj => ⟨?_, ?_⟩, trivial, hk, trivial, fun h => ?_, fun h => ?_, fun h => ?_, fun h => ?_, ?_⟩
      · rw [heffects]
        simp [State.modStream, State.modTally, hstream]
        rfl
      · rw [heffects]
        simp [State.modStream, State.modTally, State.stream_putStream, hj.symm, hstream]
      · rw [heffects]
        simp [State.modStream, State.modTally, State.tallyOf_putTally, hj.symm, hjump.tallies j hj, hover.tallies j hj]
      · have he := (hjump.events 4 (by decide)).trans (hover.event h)
        rw [hover.tally h, he]
        exact ⟨rfl, rfl, rfl⟩
      · rw [hover.tally_not h]
        exact ⟨rfl, (hjump.events 4 (by decide)).trans (hover.event_not h)⟩
      · have he : s2.ind.events.get 5 = _ := hjump.event h
        rw [hjump.tally h, he]
        exact ⟨congrArg (countUp · 1) hjumpCount, rfl, rfl⟩
      · rw [hjump.tally_not h]
        exact ⟨hjumpCount, (hjump.event_not h).trans (hover.events 5 (by decide))⟩
      · rw [heffects]
        exact ⟨hjump.lot.trans hover.lot, hjump.bins.trans hover.bins, hjump.segs.trans hover.segs,
          hjump.alloc.trans hover.alloc, hjump.capture.trans hover.capture⟩

end Sys2Proof.Machine
end

section
/-! The booking of a tally's grams, and what ACCEPT_SUSPECT and DISCARD_SUSPECT do (R20, R21, R43 to R46, R68). -/

namespace Sys2Proof.Machine

variable {s : State} {i : StreamIdx} {b : BinIdx} {g : Nat}

/-! ## What a judgement changes at most -/

theorem judgeBin_frame (b : BinIdx) (s : State) : judgeBin b s = { s with
    agenda := (judgeBin b s).agenda, passDue := (judgeBin b s).passDue, loop := (judgeBin b s).loop
    bins := (judgeBin b s).bins, ind := (judgeBin b s).ind } := by
  cases hk : (s.bin b).config with
  | none => rw [judgeBin_of_not_config hk]
  | some k =>
    rw [judgeBin_of_config hk]
    dsimp only
    split
    · split <;> rfl
    · split
      · split <;> (rw [raise_frame]; rfl)
      · split <;> rfl

@[simp] theorem judgeBin_streams (b : BinIdx) (s : State) : (judgeBin b s).streams = s.streams := by rw [judgeBin_frame]
@[simp] theorem stream_judgeBin (b : BinIdx) (s : State) (j : StreamIdx) : (judgeBin b s).stream j = s.stream j := by
  rw [judgeBin_frame]; rfl
@[simp] theorem judgeBin_lot (b : BinIdx) (s : State) : (judgeBin b s).lot = s.lot := by rw [judgeBin_frame]
@[simp] theorem lotAt_judgeBin (b : BinIdx) (s : State) (k : LotIdx) : (judgeBin b s).lotAt k = s.lotAt k := by
  rw [judgeBin_frame]; rfl

theorem fill_judgeBin (b c : BinIdx) (s : State) : ((judgeBin b s).bin c).fill = (s.bin c).fill := by
  by_cases hc : c = b
  · exact hc ▸ congrArg BinAccount.fill (account_judgeBin b s)
  · rw [bin_judgeBin_other hc]

/-! ## Booking, by where the grams go (R43) -/

/-- A stream's record with an uncertified verdict's mark (R43). -/
def Stream.withVerdict (x : Stream) (certified : Bool) : Stream :=
  { x with certifiedSinceRead := x.certifiedSinceRead && certified }

theorem bookSample_eq (i : StreamIdx) (g : Nat) (c : Bool) (s : State) : bookSample i g c s =
    if (s.stream i).state.books then
      bookOrKeep i (s.stream i).currentLot (s.activeBin i) g c (s.putStream i ((s.stream i).withVerdict c))
    else addUnassigned i g (s.putStream i ((s.stream i).withVerdict c)) := by
  have hs1 : (if c = true then s else s.modStream i fun x => { x with certifiedSinceRead := false }) =
      s.putStream i ((s.stream i).withVerdict c) := by
    cases c with
    | true =>
      have hsame : (s.stream i).withVerdict true = s.stream i := by simp [Stream.withVerdict]
      rw [hsame, State.putStream_stream_self, if_pos rfl]
    | false => simp [Stream.withVerdict, State.modStream]
  simp only [bookSample, hs1]

theorem bookSample_of_not_books (h : ¬((s.stream i).state = .feeding ∨ (s.stream i).state = .draining)) (g : Nat)
    (c : Bool) : bookSample i g c s = addUnassigned i g (s.putStream i ((s.stream i).withVerdict c)) := by
  rw [bookSample_eq, if_neg (mt (books_iff _).mp h)]

theorem bookOrKeep_of_lot {n : Nat} {k : LotIdx} (hk : bookingLot s n b = some k) (i : StreamIdx) (g : Nat) (c : Bool) :
    bookOrKeep i (some n) (some b) g c s = addFill b g (bookLot k b g c s) := by
  simp only [bookOrKeep, hk]

theorem bookOrKeep_of_no_lot {lot : Option Nat} {bin : Option BinIdx}
    (h : ∀ n b, lot = some n → bin = some b → bookingLot s n b = none) (i : StreamIdx) (g : Nat) (c : Bool) :
    bookOrKeep i lot bin g c s = addUnassigned i g s := by
  unfold bookOrKeep
  split
  next n b => simp only [h n b rfl rfl]
  · rfl

/-- A booking is offered to a lot that takes it, or to unassigned mass. -/
theorem bookOrKeep_cases (i : StreamIdx) (lot : Option Nat) (bin : Option BinIdx) (g : Nat) (c : Bool) (s : State) :
    (∃ b k, (∃ n, bookingLot s n b = some k) ∧ bookOrKeep i lot bin g c s = addFill b g (bookLot k b g c s)) ∨
      bookOrKeep i lot bin g c s = addUnassigned i g s := by
  unfold bookOrKeep
  split
  next n b =>
    split
    next k hk => exact Or.inl ⟨b, k, ⟨n, hk⟩, rfl⟩
    · exact Or.inr rfl
  · exact Or.inr rfl

theorem takes_iff (l : Lot) (b : BinIdx) : l.takes b = true ↔
    (l.state = .discharging ∨ l.state = .closing) ∧ ∃ d ∈ l.bins, d.bin = b := by
  simp [Lot.takes]

theorem bookingLot_eq_some (hs : LotLaw s) {k : LotIdx} {l : Lot} (hl : s.lotAt k = some l) (ht : l.takes b = true) :
    bookingLot s l.number b = some k := by
  simp only [bookingLot, lotIdx?_of_lotAt hs hl, hl, ht, if_true]

theorem number_of_lotIdx? {n : Nat} {k : LotIdx} (h : s.lotIdx? n = some k) :
    ∃ l, s.lotAt k = some l ∧ l.number = n := by
  have hp := Sys2Proof.get_of_findIdx? h
  rw [show s.lot.lots.get k = s.lotAt k from rfl] at hp
  cases hl : s.lotAt k with
  | none => simp [hl] at hp
  | some l => exact ⟨l, rfl, by simpa [hl] using hp⟩

theorem bookingLot_eq_none {n : Nat} (h : ∀ k l, s.lotAt k = some l → ¬(l.number = n ∧ l.takes b = true)) :
    bookingLot s n b = none := by
  unfold bookingLot
  split
  · rfl
  next k hk =>
    obtain ⟨l, hl, hn⟩ := number_of_lotIdx? hk
    simp only [hl]
    exact if_neg fun ht => h k l hl ⟨hn, ht⟩

/-! ## The places grams go -/

section Places

variable {k : LotIdx} {l : Lot}

theorem addUnassigned_eq (i : StreamIdx) (g : Nat) (s : State) : addUnassigned i g s =
    let y := { s.stream i with unassigned := satAdd (s.stream i).unassigned g
                               sinceRead := satAdd (s.stream i).sinceRead g }
    if y.unroutedReported = false ∧ y.config.unrouted * 1000 < y.sinceRead then
      raise .unrouted i.val (s.putStream i { y with unroutedReported := true })
    else s.putStream i y := by
  simp only [addUnassigned, Bool.and_eq_true, Bool.not_eq_true', decide_eq_true_eq]

theorem addUnassigned_streams (i j : StreamIdx) (g : Nat) (s : State) : ((addUnassigned i g s).stream j).unassigned =
    if i = j then satAdd (s.stream i).unassigned g else (s.stream j).unassigned := by
  rw [addUnassigned_eq]
  dsimp only
  split <;> simp only [stream_raise, State.stream_putStream] <;> split <;> rfl

theorem addUnassigned_lot (i : StreamIdx) (g : Nat) (s : State) : (addUnassigned i g s).lot = s.lot := by
  rw [addUnassigned_eq]
  dsimp only
  split <;> simp

theorem addUnassigned_bins (i : StreamIdx) (g : Nat) (s : State) : (addUnassigned i g s).bins = s.bins := by
  rw [addUnassigned_eq]
  dsimp only
  split <;> simp

theorem overLimit_iff (l : Lot) : l.overLimit = true ↔
    ∃ m, l.declared = some m ∧ m * (1000 + l.tolerance) < l.certified + l.uncertified := by
  unfold Lot.overLimit Lot.limit
  cases l.declared <;> simp

theorem overrunAfterBooking_of_lotAt (hl : s.lotAt k = some l) : overrunAfterBooking k s =
    if l.overLimit = true ∧ l.overrunReported = false then
      raise .lotOverrun k.val (s.putLot k (some { l with overrunReported := true }))
    else s := by
  simp only [overrunAfterBooking, hl, Bool.and_eq_true, Bool.not_eq_true']

theorem addFill_of_ne (hg : g ≠ 0) (b : BinIdx) (s : State) :
    addFill b g s = judgeBin b (s.putBin b { s.bin b with fill := satAdd (s.bin b).fill g }) := if_neg hg

theorem fill_addFill (b c : BinIdx) (g : Nat) (s : State) (hb : (s.bin b).fill ≤ maxGrams) :
    ((addFill b g s).bin c).fill = if b = c then satAdd (s.bin b).fill g else (s.bin c).fill := by
  unfold addFill
  split
  next hg =>
    subst hg
    split
    next hbc => subst hbc; simp [satAdd, hb]
    · rfl
  · rw [fill_judgeBin, State.bin_putBin]
    split <;> rfl

theorem addFill_lot (b : BinIdx) (g : Nat) (s : State) : (addFill b g s).lot = s.lot := by
  unfold addFill
  split
  · rfl
  · simp

theorem addFill_streams (b : BinIdx) (g : Nat) (s : State) : (addFill b g s).streams = s.streams := by
  unfold addFill
  split
  · rfl
  · simp

/-- A booking that a lot takes leaves that lot booked, but for its overrun mark, and everything else of the accounts as
it stood. -/
theorem bookLot_places (hl : s.lotAt k = some l) (b : BinIdx) (g : Nat) (c : Bool) :
    (∃ o, (bookLot k b g c s).lotAt k = some { l.book b g c with overrunReported := o }) ∧
      (∀ j, j ≠ k → (bookLot k b g c s).lotAt j = s.lotAt j) ∧ (bookLot k b g c s).streams = s.streams ∧
      (bookLot k b g c s).bins = s.bins := by
  have hput : (s.putLot k (some (l.book b g c))).lotAt k = some (l.book b g c) := by simp
  simp only [bookLot, hl, overrunAfterBooking_of_lotAt hput]
  split
  · refine ⟨⟨true, by simp⟩, fun j hj => ?_, by simp, by simp⟩
    simp [State.lotAt_putLot, hj.symm]
  · exact ⟨⟨l.overrunReported, hput⟩, fun j hj => by simp [State.lotAt_putLot, hj.symm], rfl, rfl⟩

end Places

/-! ## Conservation (R43) -/

/-- One entry of a table's numbers raised raises their sum by as much. -/
theorem sum_finRange_add {n d : Nat} {f f' : Fin n → Nat} (i : Fin n) (hi : f' i = f i + d)
    (hne : ∀ j, j ≠ i → f' j = f j) : ((List.finRange n).map f').sum = ((List.finRange n).map f).sum + d := by
  have hf : f' = f + Pi.single i d := by
    funext j
    by_cases hj : j = i
    · subst hj; simpa using hi
    · simpa [hj] using hne j hj
  rw [← Fin.sum_univ_def, ← Fin.sum_univ_def, hf]
  simp [Finset.sum_add_distrib]

theorem sum_finRange_congr {n : Nat} {f f' : Fin n → Nat} (h : ∀ j, f' j = f j) :
    ((List.finRange n).map f').sum = ((List.finRange n).map f).sum := by rw [funext h]

theorem satAdd_of_room {m : Nat} (h : m + g ≤ maxGrams) : satAdd m g = m + g := Nat.min_eq_right h

theorem unassigned_withVerdict (i j : StreamIdx) (c : Bool) (s : State) :
    ((s.putStream i ((s.stream i).withVerdict c)).stream j).unassigned = (s.stream j).unassigned := by
  rw [State.stream_putStream]
  split
  next h => subst h; rfl
  · rfl

/-- What a lot takes raises the sums of the lots, of their entries and of the bins, and no stream's unassigned grams. -/
theorem bookedSums {k : LotIdx} {l : Lot} {u : State} {c : Bool} (hroom : HasRoomFor g s) (hl : s.lotAt k = some l)
    (hnd : (l.bins.map (·.bin)).Nodup) (ht : l.takes b = true) (hu : u.lot = s.lot) (hbins : u.bins = s.bins)
    (hun : ∀ j, (u.stream j).unassigned = (s.stream j).unassigned) :
    let t := addFill b g (bookLot k b g c u)
    lotGrams t = lotGrams s + g ∧ deliveredGrams t = deliveredGrams s + g ∧ binGrams t = binGrams s + g ∧
      unassignedGrams t = unassignedGrams s := by
  have hlotAt : ∀ j, u.lotAt j = s.lotAt j := fun j => by unfold State.lotAt; rw [hu]
  obtain ⟨⟨o, hk⟩, hother, hstr, hb⟩ := bookLot_places ((hlotAt k).trans hl) b g c
  have hlot : ∀ j, (addFill b g (bookLot k b g c u)).lotAt j = (bookLot k b g c u).lotAt j := fun j => by
    unfold State.lotAt; rw [addFill_lot]
  obtain ⟨hcert, hunc⟩ := hroom.lots k l hl
  refine ⟨sum_finRange_add k ?_ fun j hj => ?_, sum_finRange_add k ?_ fun j hj => ?_,
    sum_finRange_add b ?_ fun j hj => ?_, sum_finRange_congr fun j => ?_⟩
  · simp only [hlot, hk, hl, Lot.book, satAdd_of_room hcert, satAdd_of_room hunc]
    cases c
    · exact (Nat.add_assoc _ _ _).symm
    · exact Nat.add_right_comm _ _ _
  · simp only [hlot, hother j hj, hlotAt]
  · simp only [hlot, hk, hl, Lot.book]
    exact addDelivery_sum hnd (mem_bins_of_takes ht) fun d hd _ => satAdd_of_room (hroom.delivered k l hl d hd)
  · simp only [hlot, hother j hj, hlotAt]
  · have hroomB := hroom.bins b
    have hfill : ((bookLot k b g c u).bin b).fill = (s.bin b).fill := by unfold State.bin; rw [hb, hbins]
    rw [fill_addFill b b g _ (by omega), if_pos rfl, hfill, satAdd_of_room hroomB]
  · have hroomB := hroom.bins b
    have hfill : ∀ c', ((bookLot k b g c u).bin c').fill = (s.bin c').fill := fun c' => by
      unfold State.bin; rw [hb, hbins]
    rw [fill_addFill b j g _ (by rw [hfill]; omega), if_neg (Ne.symm hj), hfill]
  · have := hun j
    unfold State.stream at this ⊢
    rw [addFill_streams, hstr, this]

/-- What no lot takes raises the stream's unassigned grams, and no other sum. -/
theorem unassignedSums {u : State} (hroom : HasRoomFor g s) (hu : u.lot = s.lot) (hbins : u.bins = s.bins)
    (hun : ∀ j, (u.stream j).unassigned = (s.stream j).unassigned) :
    let t := addUnassigned i g u
    lotGrams t = lotGrams s ∧ deliveredGrams t = deliveredGrams s ∧ binGrams t = binGrams s ∧
      unassignedGrams t = unassignedGrams s + g ∧ (t.stream i).unassigned = (s.stream i).unassigned + g := by
  have hlot : ∀ j, (addUnassigned i g u).lotAt j = s.lotAt j := fun j => by
    unfold State.lotAt; rw [addUnassigned_lot, hu]
  have hbin : ∀ j, (addUnassigned i g u).bin j = s.bin j := fun j => by
    unfold State.bin; rw [addUnassigned_bins, hbins]
  have hself : ((addUnassigned i g u).stream i).unassigned = (s.stream i).unassigned + g := by
    rw [addUnassigned_streams, if_pos rfl, hun, satAdd_of_room (hroom.streams i)]
  refine ⟨sum_finRange_congr fun j => ?_, sum_finRange_congr fun j => ?_, sum_finRange_congr fun j => ?_,
    sum_finRange_add i hself fun j hj => ?_, hself⟩
  · simp only [hlot]
  · simp only [hlot]
  · rw [hbin]
  · rw [addUnassigned_streams, if_neg (Ne.symm hj), hun]

theorem bookSample_conserves (hroom : HasRoomFor g s)
    (hnd : ∀ k l, s.lotAt k = some l → (l.bins.map (·.bin)).Nodup) (c : Bool) :
    let t := bookSample i g c s
    (lotGrams t = lotGrams s + g ∧ deliveredGrams t = deliveredGrams s + g ∧ binGrams t = binGrams s + g ∧
        unassignedGrams t = unassignedGrams s ∧
        ((s.stream i).state = .feeding ∨ (s.stream i).state = .draining)) ∨
      (lotGrams t = lotGrams s ∧ deliveredGrams t = deliveredGrams s ∧ binGrams t = binGrams s ∧
        unassignedGrams t = unassignedGrams s + g ∧
        (t.stream i).unassigned = (s.stream i).unassigned + g) := by
  intro t
  have hkeep := unassignedSums (i := i) (u := s.putStream i ((s.stream i).withVerdict c)) hroom rfl rfl
    fun j => unassigned_withVerdict i j c s
  by_cases hbooks : (s.stream i).state = .feeding ∨ (s.stream i).state = .draining
  · have ht := (bookSample_eq i g c s).trans (if_pos ((books_iff _).mpr hbooks))
    obtain ⟨b, k, ⟨n, hk⟩, hto⟩ | hun := bookOrKeep_cases i (s.stream i).currentLot (s.activeBin i) g c
      (s.putStream i ((s.stream i).withVerdict c))
    · obtain ⟨l, hl, htakes⟩ := takes_of_bookingLot hk
      have hsums := bookedSums (c := c) (u := s.putStream i ((s.stream i).withVerdict c)) hroom hl (hnd k l hl) htakes
        rfl rfl fun j => unassigned_withVerdict i j c s
      rw [← hto, ← ht] at hsums
      obtain ⟨h1, h2, h3, h4⟩ := hsums
      exact Or.inl ⟨h1, h2, h3, h4, hbooks⟩
    · rw [← hun, ← ht] at hkeep
      exact Or.inr hkeep
  · rw [← bookSample_of_not_books hbooks] at hkeep
    exact Or.inr hkeep

/-- Settles O27: the two sums' arithmetic for the conservation, and the equations of booking for the place. -/
theorem bookingConservesGrams : Obligations.BookingConservesGrams := by
  refine ⟨fun s i g c hroom hnd => bookSample_conserves hroom hnd c, fun s i g c => ?_, fun s i k l b g => ?_⟩
  · refine ⟨fun hbooks => bookSample_of_not_books hbooks g c, fun n r route hbooks hlot hr hroute => ?_⟩
    have hbin : s.activeBin i = some route.bin := by simp [State.activeBin, State.routeBin, hr, hroute]
    have ht := (bookSample_eq i g c s).trans (if_pos ((books_iff _).mpr hbooks))
    rw [hlot, hbin] at ht
    refine ⟨fun hnone => ?_, fun k l hlaw hl htakes => ?_⟩
    · rw [ht]
      refine bookOrKeep_of_no_lot (fun n' b' hn hb => ?_) i g c
      cases hn; cases hb
      exact bookingLot_eq_none fun k l hl h => hnone k l hl ⟨h.1, (takes_iff _ _).mp h.2⟩
    · obtain ⟨hn, htakes⟩ := htakes
      have hk := bookingLot_eq_some (s := s.putStream i ((s.stream i).withVerdict c))
        ⟨hlaw.table, hlaw.apart, hlaw.list⟩ hl ((takes_iff _ _).mpr htakes)
      rw [hn] at hk
      rw [ht, bookOrKeep_of_lot hk]
      have hl' : (s.putStream i ((s.stream i).withVerdict c)).lotAt k = some l := hl
      simp only [bookLot, hl']
      rfl
  · refine ⟨fun h => (addUnassigned_eq i g s).trans (if_pos h), fun h => (addUnassigned_eq i g s).trans (if_neg h),
      fun hl => ⟨fun hover hrep => ?_, fun h => ?_⟩, if_pos rfl, fun hg => addFill_of_ne hg b s⟩
    · rw [overrunAfterBooking_of_lotAt hl, if_pos ⟨(overLimit_iff l).mpr hover, hrep⟩]
    · rw [overrunAfterBooking_of_lotAt hl, if_neg]
      rintro ⟨hover, hrep⟩
      obtain hno | hyes := h
      · exact hno ((overLimit_iff l).mp hover)
      · rw [hyes] at hrep; cases hrep

/-! ## Suspect records (R46, R68) -/

theorem tallyOf_putTally_self (i : StreamIdx) (s : State) : s.putTally i (s.tallyOf i) = s := by
  have hset : s.tally.streams.set i (s.tallyOf i) = s.tally.streams := Tbl.set_get_self _ _
  unfold State.putTally
  rw [hset]

theorem acceptSuspectRecord_of_uncalibrated (r : Suspect) (h : (s.tallyOf i).cal = none) : acceptSuspectRecord i r s =
    bookOrKeep i r.lot r.bin 0 false (s.putStream i { s.stream i with certifiedSinceRead := false }) := by
  simp only [acceptSuspectRecord, h]; rfl

theorem acceptSuspectRecord_of_calibrated (r : Suspect) {k : Calibration} (h : (s.tallyOf i).cal = some k) :
    acceptSuspectRecord i r s =
      bookOrKeep i r.lot r.bin (min maxGrams (gramsOf k (s.tallyOf i).residue r.counts r.time)) false
        ((s.putTally i { s.tallyOf i with residue := residueAfter k (s.tallyOf i).residue r.counts r.time }).putStream i
          { s.stream i with certifiedSinceRead := false }) := by
  simp only [acceptSuspectRecord, h]
  rw [← h]
  rfl

/-- The numerator of a suspect record's sums over the integers, for any trim whose factor is not negative (R57, R68). -/
theorem numerator_of_trim {k : Calibration} (h : -100000 ≤ k.trim) (counts time : Nat) :
    (numerator k counts time : Int) =
      max 0 ((counts : Int) * 1024000 - k.zero * (min time 4000 : Nat)) * k.span * (100000 + k.trim) := by
  have htrim : (trimFactor k : Int) = 100000 + k.trim := Int.toNat_of_nonneg (by omega)
  rw [numerator, Nat.cast_mul, Nat.cast_mul, htrim, netCount_cast]

/-- The grams and the residue that the acceptance of a suspect record computes (R68). -/
theorem acceptSuspectRecord_grams (i : StreamIdx) (r : Suspect) (s : State) : ∃ g residue : Nat,
    ((s.tallyOf i).cal = none → g = 0 ∧ residue = (s.tallyOf i).residue) ∧
    (∀ k, (s.tallyOf i).cal = some k → -100000 ≤ k.trim →
      let n := max 0 ((r.counts : Int) * 1024000 - k.zero * min r.time 4000)
      let total := n * k.span * (100000 + k.trim) + (s.tallyOf i).residue
      (g : Int) = min 18446744073709551615 (total / 102400000000000) ∧ (residue : Int) = total % 102400000000000) ∧
    acceptSuspectRecord i r s = bookOrKeep i r.lot r.bin g false
      ((s.putTally i { s.tallyOf i with residue := residue }).putStream i
        { s.stream i with certifiedSinceRead := false }) := by
  cases hcal : (s.tallyOf i).cal with
  | none =>
    refine ⟨0, (s.tallyOf i).residue, fun _ => ⟨rfl, rfl⟩, nofun, ?_⟩
    have hsame : s.putTally i { s.tallyOf i with residue := (s.tallyOf i).residue } = s := tallyOf_putTally_self i s
    rw [hsame, acceptSuspectRecord_of_uncalibrated r hcal]
  | some k =>
    refine ⟨_, _, nofun, fun k' hk' htrim => ?_, acceptSuspectRecord_of_calibrated r hcal⟩
    cases hk'
    have hnum := numerator_of_trim htrim r.counts r.time
    refine ⟨?_, ?_⟩
    · rw [gramsOf, divisor, maxGrams]
      push_cast [hnum]
      rfl
    · rw [residueAfter, divisor]
      push_cast [hnum]
      rfl

theorem deleteSuspect_eq (i : StreamIdx) (u : State) :
    deleteSuspect i u = removeReason i .meter (u.putStream i { u.stream i with suspect := none }) := rfl

/-- Settles O28. -/
theorem suspectRecordsResolved : Obligations.SuspectRecordsResolved := by
  intro q s hs
  refine ⟨fun n hn =>
      ⟨request_of_refuse _ _ hs (indexed_of_le _ hn), request_of_refuse _ _ hs (indexed_of_le _ hn)⟩,
    fun i => ?_⟩
  refine ⟨fun hnone => ?_, fun r hr => ?_⟩
  · refine ⟨request_of_refuse (a := i.val) (owner := ownAcceptSuspect) _ _ hs ?_,
      request_of_refuse (a := i.val) (owner := ownDiscardSuspect) _ _ hs ?_⟩
    · simp only [ownAcceptSuspect, indexed_val, hnone]
    · simp only [ownDiscardSuspect, indexed_val, hnone]
  · have hdiscard : ownDiscardSuspect i.val s = .done (deleteSuspect i) := by
      simp only [ownDiscardSuspect, indexed_val, hr]
    have haccept : ownAcceptSuspect i.val s = .done fun s => deleteSuspect i (acceptSuspectRecord i r s) := by
      simp only [ownAcceptSuspect, indexed_val, hr]
    have hca : exec (.acceptSuspect q (some i.val)) s =
        answeredDone (.acceptSuspect q (some i.val)) q (deleteSuspect i (acceptSuspectRecord i r s)) :=
      request_of_done (owner := ownAcceptSuspect) (f := fun s => deleteSuspect i (acceptSuspectRecord i r s))
        _ _ hs haccept
    have hcd : exec (.discardSuspect q (some i.val)) s =
        answeredDone (.discardSuspect q (some i.val)) q (deleteSuspect i s) :=
      request_of_done (owner := ownDiscardSuspect) (f := deleteSuspect i) _ _ hs hdiscard
    refine ⟨hcd, ?_⟩
    obtain ⟨g, residue, hunc, hcal, hbook⟩ := acceptSuspectRecord_grams i r s
    refine ⟨g, residue, hunc, hcal, ?_⟩
    intro s1
    refine ⟨fun n b k hlot hbin hk => ?_, fun hnone => ?_⟩
    · have hto : bookOrKeep i r.lot r.bin g false s1 = addFill b g (bookLot k b g false s1) := by
        rw [hlot, hbin]
        exact bookOrKeep_of_lot (s := s1) hk i g false
      rw [hca, hbook, hto]
      rfl
    · have hkeep : bookOrKeep i r.lot r.bin g false s1 = addUnassigned i g s1 :=
        bookOrKeep_of_no_lot (s := s1) hnone i g false
      rw [hca, hbook, hkeep]
      rfl

end Sys2Proof.Machine
end

section
/-! The segments: what a change of a record leaves alone, the release by state, the travel, the flush, the fault and the
position report of a segment (R38, R91 to R101). -/

namespace Sys2Proof.Machine

variable {s t u : State} {i : StreamIdx} {b : BinIdx} {g : SegIdx} {x : Segment}

/-! ## What a bin's operations change at most -/

/-- `t` is `s` but for the bins, the reports, the Loop and the events. -/
def BinsMoved (s t : State) : Prop :=
  t = { s with agenda := t.agenda, passDue := t.passDue, loop := t.loop, bins := t.bins, ind := t.ind }

namespace BinsMoved

theorem refl (s : State) : BinsMoved s s := rfl

theorem trans (h : BinsMoved s t) (h' : BinsMoved t u) : BinsMoved s u := by
  unfold BinsMoved at *
  rw [h', h]

theorem segs (h : BinsMoved s t) : t.segs = s.segs := by rw [h]
theorem seg (h : BinsMoved s t) (g : SegIdx) : t.seg g = s.seg g := by rw [h]; rfl

theorem emit (r : Report) (s : State) : BinsMoved s (s.emit r) := rfl
theorem occasion (s : State) : BinsMoved s s.occasion := rfl
theorem putBin (b : BinIdx) (x : Bin) (s : State) : BinsMoved s (s.putBin b x) := rfl
theorem raise (k : EventKind) (n : Nat) (s : State) : BinsMoved s (raise k n s) := by
  unfold BinsMoved
  rw [raise_frame]
theorem judgeBin (b : BinIdx) (s : State) : BinsMoved s (judgeBin b s) := judgeBin_frame b s
theorem place (f : OwnFrame) (s : State) : BinsMoved s (s.place f) := by
  unfold BinsMoved
  rw [place_frame]

theorem emptinessTest (b : BinIdx) (s : State) : BinsMoved s (emptinessTest b s) := by
  unfold Machine.emptinessTest
  dsimp only
  split
  · have hput := putBin b { s.bin b with fill := 0, cls := none } s
    split
    · split
      · exact hput
      · exact hput.trans (emit _ _)
    · split
      · exact hput.trans (judgeBin _ _)
      · exact (hput.trans (emit _ _)).trans (judgeBin _ _)
  · exact refl s

theorem gateChanged (b : BinIdx) (st : SegState) (s : State) : BinsMoved s (gateChanged b st s) := by
  unfold Machine.gateChanged
  dsimp only
  split
  · refine trans ?_ (emptinessTest b _)
    split
    · exact (putBin _ _ _).trans (emit _ _)
    · split
      · exact ((putBin _ _ _).trans (emit _ _)).trans (judgeBin _ _)
      · exact putBin _ _ _
  · split
    · exact (putBin _ _ _).trans (emit _ _)
    · split
      · exact ((putBin _ _ _).trans (emit _ _)).trans (judgeBin _ _)
      · exact putBin _ _ _

/-- Beside the record itself, a change of a segment's record changes only what the bin of its gate does. -/
theorem changeSeg (g : SegIdx) (x : Segment) (s : State) : BinsMoved (s.putSeg g x) (changeSeg g x s) := by
  unfold Machine.changeSeg
  dsimp only
  split
  · split
    · exact refl _
    · exact gateChanged _ _ _
  · exact refl _

theorem sendSet (x : Segment) (p : Nat) (s : State) : BinsMoved s (sendSet x p s) := by
  unfold Machine.sendSet
  split
  · exact place _ _
  · exact refl s

theorem reportReady (g : SegIdx) (s : State) : BinsMoved s (reportReady g s) := (emit _ _).trans (occasion _)

end BinsMoved

/-! ## What the Segment unit's operations change at most -/

/-- `t` is `s` but for what the Segment and Bin units, the reports, the Loop and the events hold. -/
def SegsMoved (s t : State) : Prop :=
  t = { s with agenda := t.agenda, passDue := t.passDue, loop := t.loop, segs := t.segs, bins := t.bins, ind := t.ind }

theorem BinsMoved.segsMoved (h : BinsMoved s t) : SegsMoved s t := by
  unfold SegsMoved
  rw [h]

namespace SegsMoved

theorem refl (s : State) : SegsMoved s s := rfl

theorem trans (h : SegsMoved s t) (h' : SegsMoved t u) : SegsMoved s u := by
  unfold SegsMoved at *
  rw [h', h]

theorem streams (h : SegsMoved s t) : t.streams = s.streams := by rw [h]
theorem tally (h : SegsMoved s t) : t.tally = s.tally := by rw [h]
theorem lot (h : SegsMoved s t) : t.lot = s.lot := by rw [h]
theorem alloc (h : SegsMoved s t) : t.alloc = s.alloc := by rw [h]
theorem mgmt (h : SegsMoved s t) : t.mgmt = s.mgmt := by rw [h]
theorem stream (h : SegsMoved s t) (i : StreamIdx) : t.stream i = s.stream i := by rw [h]; rfl
theorem tallyOf (h : SegsMoved s t) (i : StreamIdx) : t.tallyOf i = s.tallyOf i := by rw [h]; rfl
theorem lotAt (h : SegsMoved s t) (k : LotIdx) : t.lotAt k = s.lotAt k := by rw [h]; rfl
theorem routeAt (h : SegsMoved s t) (r : RouteIdx) : t.routeAt r = s.routeAt r := by rw [h]; rfl
theorem stagingOf (h : SegsMoved s t) (i : StreamIdx) : t.stagingOf i = s.stagingOf i := by rw [h]; rfl

theorem putSeg (g : SegIdx) (x : Segment) (s : State) : SegsMoved s (s.putSeg g x) := rfl
theorem emit (r : Report) (s : State) : SegsMoved s (s.emit r) := rfl
theorem occasion (s : State) : SegsMoved s s.occasion := rfl
theorem changeSeg (g : SegIdx) (x : Segment) (s : State) : SegsMoved s (changeSeg g x s) :=
  (putSeg g x s).trans (BinsMoved.changeSeg g x s).segsMoved

theorem sendSet (x : Segment) (p : Nat) (s : State) : SegsMoved s (sendSet x p s) :=
  (BinsMoved.sendSet x p s).segsMoved
theorem reportReady (g : SegIdx) (s : State) : SegsMoved s (reportReady g s) := (BinsMoved.reportReady g s).segsMoved

theorem freeSeg (g : SegIdx) (s : State) : SegsMoved s (freeSeg g s) := (changeSeg _ _ _).trans (occasion _)

theorem beginClosing (g : SegIdx) (s : State) : SegsMoved s (beginClosing g s) :=
  (changeSeg _ _ _).trans (sendSet _ _ _)

theorem endFlush (g : SegIdx) (s : State) : SegsMoved s (endFlush g s) := by
  unfold Machine.endFlush
  dsimp only
  split
  · exact (emit _ _).trans (beginClosing _ _)
  · exact (emit _ _).trans (freeSeg _ _)

theorem beginFlush (g : SegIdx) (s : State) : SegsMoved s (beginFlush g s) := by
  unfold Machine.beginFlush
  dsimp only
  split
  · exact (changeSeg _ _ _).trans (endFlush _ _)
  · exact changeSeg _ _ _

theorem freeOrClose (g : SegIdx) (s : State) : SegsMoved s (freeOrClose g s) := by
  unfold Machine.freeOrClose
  split
  · exact beginClosing _ _
  · exact freeSeg _ _

theorem faultSeg (g : SegIdx) (s : State) : SegsMoved s (faultSeg g s) :=
  ((changeSeg _ _ _).trans (BinsMoved.raise _ _ _).segsMoved).trans (emit _ _)

theorem reserveFree (g : SegIdx) (k : ResKind) (c : Claim) (s : State) : SegsMoved s (reserveFree g k c s) := by
  unfold Machine.reserveFree
  dsimp only
  split
  · exact (changeSeg _ _ _).trans (reportReady _ _)
  · split
    · exact (changeSeg _ _ _).trans (reportReady _ _)
    · split
      · exact (changeSeg _ _ _).trans (reportReady _ _)
      · exact (changeSeg _ _ _).trans (sendSet _ _ _)

theorem reserve (g : SegIdx) (k : ResKind) (c : Claim) (s : State) : SegsMoved s (reserve g k c s) := by
  unfold Machine.reserve
  dsimp only
  split
  · exact reserveFree _ _ _ _
  · split
    · exact putSeg _ _ _
    · split
      · exact ((changeSeg _ _ _).trans (emit _ _)).trans (reportReady _ _)
      · exact refl s

theorem activateSeg (i : StreamIdx) (g : SegIdx) (s : State) : SegsMoved s (activateSeg i g s) := changeSeg _ _ _

theorem moveUnderFlow (i : StreamIdx) (g : SegIdx) (p : Option Nat) (s : State) :
    SegsMoved s (moveUnderFlow i g p s) := by
  unfold Machine.moveUnderFlow
  dsimp only
  split
  · exact refl s
  · split
    · exact (changeSeg _ _ _).trans (sendSet _ _ _)
    · exact refl s

theorem takeStaged (i : StreamIdx) (g : SegIdx) (s : State) : SegsMoved s (takeStaged i g s) := by
  unfold Machine.takeStaged
  dsimp only
  split
  · exact changeSeg _ _ _
  · exact refl s

theorem releaseHolder (i : StreamIdx) (g : SegIdx) (s : State) : SegsMoved s (releaseHolder i g s) := by
  have hput := putSeg g { s.seg g with holders := (s.seg g).holders.erase i, feeders := (s.seg g).feeders.erase i } s
  unfold Machine.releaseHolder
  dsimp only
  split
  · split
    · split
      · split
        · exact hput.trans (beginFlush _ _)
        · exact (changeSeg _ _ _).trans (reportReady _ _)
      · exact hput
    · exact hput
  · split
    · split
      · exact hput.trans (beginFlush _ _)
      · exact hput.trans (freeOrClose _ _)
    · exact hput
  · split
    · exact hput.trans (beginFlush _ _)
    · split
      · exact hput.trans (freeOrClose _ _)
      · exact hput
  all_goals exact refl s

end SegsMoved

/-! ## The segments' records after a change -/

@[simp] theorem State.putSeg_putSeg (g : SegIdx) (x y : Segment) : (s.putSeg g x).putSeg g y = s.putSeg g y := by
  simp [State.putSeg]

theorem seg_changeSeg (g j : SegIdx) (x : Segment) (s : State) :
    (changeSeg g x s).seg j = if g = j then x else s.seg j := by
  rw [(BinsMoved.changeSeg g x s).seg, State.seg_putSeg]

theorem seg_reportReady (g j : SegIdx) (s : State) : (reportReady g s).seg j = s.seg j := rfl

theorem seg_freeSeg_self (g : SegIdx) (s : State) : (freeSeg g s).seg g =
    { (s.seg g).unreserved with state := .free, owner := none, unflushed := false, flush := none, travel := none } := by
  show (changeSeg _ _ _).seg g = _
  rw [seg_changeSeg, if_pos rfl]

theorem seg_beginClosing_self (g : SegIdx) (s : State) : (beginClosing g s).seg g =
    { (s.seg g).unreserved with
      state := .closing, commanded := some 0, flush := none, travel := some (s.seg g).travelMs } := by
  unfold beginClosing
  rw [(BinsMoved.sendSet _ _ _).seg, seg_changeSeg, if_pos rfl]

/-- The states of a segment that nothing holds any more. -/
def SegState.isLeaving : SegState → Prop
  | .free | .flushing | .closing => True
  | _ => False

theorem freeOrClose_leaving (g : SegIdx) (s : State) : ((freeOrClose g s).seg g).state.isLeaving := by
  unfold freeOrClose
  split
  · rw [seg_beginClosing_self]; trivial
  · rw [seg_freeSeg_self]; trivial

theorem endFlush_leaving (g : SegIdx) (s : State) : ((endFlush g s).seg g).state.isLeaving := by
  unfold endFlush
  dsimp only
  split
  · rw [seg_beginClosing_self]; trivial
  · rw [seg_freeSeg_self]; trivial

theorem beginFlush_leaving (g : SegIdx) (s : State) : ((beginFlush g s).seg g).state.isLeaving := by
  unfold beginFlush
  dsimp only
  split
  · exact endFlush_leaving g _
  · rw [seg_changeSeg, if_pos rfl]; trivial

/-! ## Release (R38, R91) -/

section Release

theorem releaseSeg_of_not_holder (h : (s.seg g).holders.has i = false) : releaseSeg i g s = s := by
  simp [releaseSeg, h]

theorem intakeLeftHeld_iff (i : StreamIdx) (g : SegIdx) (s : State) : intakeLeftHeld i g s = true ↔
    (s.stream i).config.intake = some g ∧ ((s.seg g).state = .carrying ∨ (s.seg g).state = .ready) := by
  simp [intakeLeftHeld]

/-- A release that leaves the segment neither READY nor CARRYING arms no drain timer. -/
theorem releaseSeg_of_not_left (h : (s.seg g).holders.has i = true) (hu : releaseHolder i g s = u)
    (hst : ¬((u.seg g).state = .carrying ∨ (u.seg g).state = .ready)) : releaseSeg i g s = u := by
  have hleft : intakeLeftHeld i g u = false := by
    rw [← Bool.not_eq_true, intakeLeftHeld_iff]
    exact fun hl => hst hl.2
  simp [releaseSeg, h, hu, hleft]

theorem not_left_of_leaving {st : SegState} (h : st.isLeaving) : ¬(st = .carrying ∨ st = .ready) := by
  rintro (rfl | rfl) <;> exact h

/-- A release that leaves the segment READY or CARRYING arms the drain timer of a DRAINING stream whose intake it is. -/
theorem releaseSeg_of_left (h : (s.seg g).holders.has i = true) (hu : releaseHolder i g s = u)
    (hst : (u.seg g).state = .carrying ∨ (u.seg g).state = .ready) (hms : (u.seg g).flushMs = (s.seg g).flushMs) :
    ((s.stream i).config.intake = some g ∧ (s.stream i).state = .draining →
      releaseSeg i g s = u.putStream i { s.stream i with drain := some (s.seg g).flushMs }) ∧
    (¬((s.stream i).config.intake = some g ∧ (s.stream i).state = .draining) → releaseSeg i g s = u) := by
  have hstream : u.stream i = s.stream i := hu ▸ (SegsMoved.releaseHolder i g s).stream i
  have hcond : (intakeLeftHeld i g u && decide ((u.stream i).state = .draining)) = true ↔
      (s.stream i).config.intake = some g ∧ (s.stream i).state = .draining := by
    rw [Bool.and_eq_true, intakeLeftHeld_iff, decide_eq_true_iff, hstream]
    exact ⟨fun hc => ⟨hc.1.1, hc.2⟩, fun hc => ⟨⟨hc.1, hst⟩, hc.2⟩⟩
  have heq : releaseSeg i g s = if (intakeLeftHeld i g u && decide ((u.stream i).state = .draining)) = true then
      u.putStream i { u.stream i with drain := some (u.seg g).flushMs } else u := by
    simp only [releaseSeg, h, hu, if_true]
    rfl
  refine ⟨fun hd => ?_, fun hd => ?_⟩
  · rw [heq, if_pos (hcond.mpr hd), hstream, hms]
  · rw [heq, if_neg (mt hcond.mp hd)]

/-- A segment's record without holder `i` (R91). -/
def Segment.without (x : Segment) (i : StreamIdx) : Segment :=
  { x with holders := x.holders.erase i, feeders := x.feeders.erase i }

theorem releaseHolder_of_carrying (hx : (s.seg g).state = .carrying) : releaseHolder i g s =
    if (s.seg g).feeders.has i then
      if ((s.seg g).without i).feeders.isEmpty then
        if ((s.seg g).without i).holders.isEmpty then beginFlush g (s.putSeg g ((s.seg g).without i))
        else reportReady g (changeSeg g { (s.seg g).without i with state := .ready, unflushed := true } s)
      else s.putSeg g ((s.seg g).without i)
    else s.putSeg g ((s.seg g).without i) := by
  simp only [releaseHolder, hx, Segment.without]

theorem releaseHolder_of_ready (hx : (s.seg g).state = .ready) : releaseHolder i g s =
    if ((s.seg g).without i).holders.isEmpty then
      if (s.seg g).unflushed then beginFlush g (s.putSeg g ((s.seg g).without i))
      else freeOrClose g (s.putSeg g ((s.seg g).without i))
    else s.putSeg g ((s.seg g).without i) := by
  simp only [releaseHolder, hx, Segment.without]

theorem releaseHolder_of_setting (hx : (s.seg g).state = .setting) : releaseHolder i g s =
    if (s.seg g).underFlow then beginFlush g (s.putSeg g ((s.seg g).without i))
    else if ((s.seg g).without i).holders.isEmpty then freeOrClose g (s.putSeg g ((s.seg g).without i))
    else s.putSeg g ((s.seg g).without i) := by
  simp only [releaseHolder, hx, Segment.without]

theorem releaseHolder_of_other (hx : (s.seg g).state = .flushing ∨ (s.seg g).state = .closing ∨
    (s.seg g).state = .fault ∨ (s.seg g).state = .free) : releaseHolder i g s = s := by
  obtain hx | hx | hx | hx := hx <;> simp only [releaseHolder, hx]

theorem freeOrClose_eq (g : SegIdx) (s : State) :
    freeOrClose g s = if (s.seg g).gateBin = none then freeSeg g s else beginClosing g s := by
  unfold freeOrClose
  cases (s.seg g).gateBin <;> rfl

theorem freed_not_left (g : SegIdx) (s : State) :
    ¬(((freeOrClose g s).seg g).state = .carrying ∨ ((freeOrClose g s).seg g).state = .ready) :=
  not_left_of_leaving (freeOrClose_leaving g s)

theorem flushed_not_left (g : SegIdx) (s : State) :
    ¬(((beginFlush g s).seg g).state = .carrying ∨ ((beginFlush g s).seg g).state = .ready) :=
  not_left_of_leaving (beginFlush_leaving g s)

theorem releaseSeg_of_other (hx : (s.seg g).state = .flushing ∨ (s.seg g).state = .closing ∨
    (s.seg g).state = .fault ∨ (s.seg g).state = .free) : releaseSeg i g s = s := by
  cases h : (s.seg g).holders.has i with
  | false => exact releaseSeg_of_not_holder h
  | true =>
    refine releaseSeg_of_not_left h (releaseHolder_of_other hx) ?_
    rintro (hc | hc) <;> simp [hc] at hx

/-- Settles O52, row by row of R91's table. -/
theorem releaseActsByState : Obligations.ReleaseActsByState := by
  intro s i g x y drained freed
  have hput : (s.putSeg g y).seg g = y := by simp
  have hms : ((s.putSeg g y).seg g).flushMs = x.flushMs := by rw [hput]; rfl
  have hfreed : freeOrClose g (s.putSeg g y) = freed (s.putSeg g y) := by
    rw [freeOrClose_eq, hput]
    rfl
  have hstate : ((s.putSeg g y).seg g).state = x.state := by rw [hput]
  refine ⟨releaseSeg_of_not_holder, releaseSeg_of_other,
    fun h hx hf => ⟨fun hye => ?_, fun hye hyh => ?_, fun hye hyh => ?_⟩,
    fun h hx hf => ?_, fun h hx => ⟨fun hyh => ?_, fun hyh hun => ?_, fun hyh hun => ?_⟩, fun h hx hun => ?_,
    fun h hx hun => ⟨fun hyh => ?_, fun hyh => ?_⟩⟩
  · have hu : releaseHolder i g s = s.putSeg g y :=
      (releaseHolder_of_carrying hx).trans ((if_pos hf).trans (if_neg (Bool.not_eq_true _ ▸ hye)))
    exact releaseSeg_of_left h hu (Or.inl (hstate.trans hx)) hms
  · have hu : releaseHolder i g s = reportReady g (changeSeg g { y with state := .ready, unflushed := true } s) :=
      (releaseHolder_of_carrying hx).trans
        ((if_pos hf).trans ((if_pos hye).trans (if_neg (Bool.not_eq_true _ ▸ hyh))))
    have hseg : (reportReady g (changeSeg g { y with state := .ready, unflushed := true } s)).seg g =
        { y with state := .ready, unflushed := true } := (seg_changeSeg g g _ s).trans (if_pos rfl)
    exact releaseSeg_of_left h hu (Or.inr (congrArg Segment.state hseg)) ((congrArg Segment.flushMs hseg).trans rfl)
  · have hu : releaseHolder i g s = beginFlush g (s.putSeg g y) :=
      (releaseHolder_of_carrying hx).trans ((if_pos hf).trans ((if_pos hye).trans (if_pos hyh)))
    exact releaseSeg_of_not_left h hu (flushed_not_left g _)
  · have hu : releaseHolder i g s = s.putSeg g y :=
      (releaseHolder_of_carrying hx).trans (if_neg (Bool.not_eq_true _ ▸ hf))
    exact releaseSeg_of_left h hu (Or.inl (hstate.trans hx)) hms
  · have hu : releaseHolder i g s = s.putSeg g y :=
      (releaseHolder_of_ready hx).trans (if_neg (Bool.not_eq_true _ ▸ hyh))
    exact releaseSeg_of_left h hu (Or.inr (hstate.trans hx)) hms
  · have hu : releaseHolder i g s = beginFlush g (s.putSeg g y) :=
      (releaseHolder_of_ready hx).trans ((if_pos hyh).trans (if_pos hun))
    exact releaseSeg_of_not_left h hu (flushed_not_left g _)
  · have hu : releaseHolder i g s = freeOrClose g (s.putSeg g y) :=
      (releaseHolder_of_ready hx).trans ((if_pos hyh).trans (if_neg (Bool.not_eq_true _ ▸ hun)))
    exact (releaseSeg_of_not_left h hu (freed_not_left g _)).trans hfreed
  · have hu : releaseHolder i g s = beginFlush g (s.putSeg g y) :=
      (releaseHolder_of_setting hx).trans (if_pos hun)
    exact releaseSeg_of_not_left h hu (flushed_not_left g _)
  · have hu : releaseHolder i g s = s.putSeg g y :=
      (releaseHolder_of_setting hx).trans
        ((if_neg (Bool.not_eq_true _ ▸ hun)).trans (if_neg (Bool.not_eq_true _ ▸ hyh)))
    refine releaseSeg_of_not_left h hu ?_
    rw [hstate, show x.state = .setting from hx]
    rintro (hc | hc) <;> cases hc
  · have hu : releaseHolder i g s = freeOrClose g (s.putSeg g y) :=
      (releaseHolder_of_setting hx).trans ((if_neg (Bool.not_eq_true _ ▸ hun)).trans (if_pos hyh))
    exact (releaseSeg_of_not_left h hu (freed_not_left g _)).trans hfreed

end Release

/-! ## Position reports (R92, R93) -/

section Positions

theorem segOfActuator_eq_none {a : Nat} (h : ∀ g, (s.seg g).actuator ≠ some a) : segOfActuator s a = none :=
  Tbl.findIdx?_eq_none_iff.mpr fun g => by simpa [State.seg] using h g

theorem segOfActuator_eq_some {a : Nat} (h : (s.seg g).actuator = some a)
    (hu : ∀ j, (s.seg j).actuator = some a → j = g) : segOfActuator s a = some g :=
  Tbl.findIdx?_eq_some_of_unique (by simpa [State.seg] using h) fun j hj => hu j (by simpa [State.seg] using hj)

theorem judgeReport_of_only_records (e : Bool) (h : (s.seg g).state = .free ∨ (s.seg g).state = .fault) :
    judgeReport g e s = s := by
  obtain h | h := h <;> simp only [judgeReport, h]

theorem judgeReport_of_setting (e : Bool) (h : (s.seg g).state = .setting) : judgeReport g e s =
    if e = true then
      if (s.seg g).underFlow then
        changeSeg g { s.seg g with state := .carrying, underFlow := false, travel := none } s
      else reportReady g (changeSeg g { s.seg g with state := .ready, travel := none } s)
    else s := by
  simp only [judgeReport, h]
  cases e <;> rfl

theorem judgeReport_of_resting (e : Bool) (h : (s.seg g).state = .ready ∨ (s.seg g).state = .carrying ∨
    ((s.seg g).state = .flushing ∧ (s.seg g).travel = none)) :
    judgeReport g e s = if e = true then s else faultSeg g s := by
  obtain h | h | ⟨h, ht⟩ := h
  · simp only [judgeReport, h]
  · simp only [judgeReport, h]
  · simp only [judgeReport, h, Segment.travelPending, ht]
    rfl

theorem judgeReport_of_travelling (e : Bool) (h : (s.seg g).state = .flushing) (ht : (s.seg g).travel ≠ none) :
    judgeReport g e s = if e = true then s.putSeg g { s.seg g with travel := none } else s := by
  have hp : (s.seg g).travelPending = true := by simp [Segment.travelPending, h, Option.isSome_iff_ne_none, ht]
  simp only [judgeReport, h, hp, if_true]

theorem judgeReport_of_closing (e : Bool) (h : (s.seg g).state = .closing) :
    judgeReport g e s = if e = true then freeSeg g s else s := by
  simp only [judgeReport, h]

/-- Settles O51, state by state of R93's table. -/
theorem positionReportsJudged : Obligations.PositionReportsJudged := by
  intro s src p c
  refine ⟨fun hown => ?_, fun hown hnone => ?_, fun g hown hg huniq => ?_⟩
  · show execPosrep src p s = _
    simp [execPosrep, event, ownSource, hown, happens]
  · refine (exec_posrep_of_other hown p).trans ?_
    simp only [posrepReceived, segOfActuator_eq_none hnone]
  · intro x recorded same
    have hself : recorded.seg g = x := by simp [recorded]
    have hexec : exec c s = happens (judgeReport g (decide same) recorded) := by
      refine (exec_posrep_of_other hown p).trans ?_
      simp only [posrepReceived, segOfActuator_eq_some hg huniq, positionReported]
      rw [show (s.putSeg g { s.seg g with reported := some p.toNat }).seg g = x from hself]
    have hthen : ∀ {u}, judgeReport g (decide same) recorded = u → exec c s = happens u :=
      fun h => hexec.trans (congrArg happens h)
    refine ⟨fun hx => hthen ?_, fun hx hsame hflow => hthen ?_, fun hx hsame hflow => hthen ?_,
      fun hx hsame => hthen ?_, fun hx => ⟨fun hsame => hthen ?_, fun hsame => hthen ?_⟩,
      fun hx ht => ⟨fun hsame => hthen ?_, fun hsame => hthen ?_⟩,
      fun hx => ⟨fun hsame => hthen ?_, fun hsame => hthen ?_⟩⟩
    · exact judgeReport_of_only_records _ (hself ▸ hx)
    · rw [judgeReport_of_setting _ (hself ▸ hx), hself, if_pos (decide_eq_true hsame), if_neg (by simp [hflow])]
      rfl
    · rw [judgeReport_of_setting _ (hself ▸ hx), hself, if_pos (decide_eq_true hsame), if_pos hflow]
    · rw [judgeReport_of_setting _ (hself ▸ hx), if_neg (by simpa using hsame)]
    · rw [judgeReport_of_resting _ (hself ▸ hx), if_pos (decide_eq_true hsame)]
    · rw [judgeReport_of_resting _ (hself ▸ hx), if_neg (by simpa using hsame)]
    · rw [judgeReport_of_travelling _ (hself ▸ hx) (hself ▸ ht), hself,
        if_pos (decide_eq_true hsame), State.putSeg_putSeg]
    · rw [judgeReport_of_travelling _ (hself ▸ hx) (hself ▸ ht), if_neg (by simpa using hsame)]
    · rw [judgeReport_of_closing _ (hself ▸ hx), if_pos (decide_eq_true hsame)]
    · rw [judgeReport_of_closing _ (hself ▸ hx), if_neg (by simpa using hsame)]

end Positions

end Sys2Proof.Machine
end

section
/-! The streams: what the changes of a stream's state leave alone, the exit test, hold reasons, attaching and detaching,
and the streams' timers (R10, R11, R33, R37 to R42). -/

namespace Sys2Proof

section Sets

variable {n : Nat} {S T : IdxSet n}

theorem IdxSet.ext_has (h : ∀ i, S.has i = T.has i) : S = T := by
  cases S; cases T
  exact congrArg IdxSet.mk (Tbl.ext_get h)

theorem IdxSet.erase_of_not_has {i : Fin n} (h : S.has i = false) : S.erase i = S :=
  IdxSet.ext_has fun j => by
    rw [IdxSet.has_erase]
    by_cases hij : i = j
    · subst hij; simp [h]
    · simp [hij]

theorem IdxSet.isEmpty_iff : S.isEmpty = true ↔ ∀ i, S.has i = false := by
  have hmem : true ∈ S.bits.items ↔ ∃ i, S.has i = true := by
    rw [List.mem_iff_getElem]
    constructor
    · rintro ⟨k, hk, h⟩
      exact ⟨⟨k, S.bits.len ▸ hk⟩, h⟩
    · rintro ⟨i, h⟩
      exact ⟨i.val, S.bits.len.symm ▸ i.isLt, h⟩
  rw [IdxSet.isEmpty, IdxSet.card, beq_iff_eq, List.count_eq_zero, hmem]
  simp

end Sets

namespace Machine

variable {s t u : State} {i j : StreamIdx} {n : Nat} {b : BinIdx}

/-! ## Attaching and detaching (R10, R11) -/

section Attachment

variable {k : LotIdx} {l : Lot}

theorem attach_of_lotIdx?_none (h : s.lotIdx? n = none) (i : StreamIdx) : attach n i s = s := by
  simp only [attach, h]

theorem detach_of_lotIdx?_none (h : s.lotIdx? n = none) (i : StreamIdx) : detach n i s = s := by
  simp only [detach, h]

theorem running_iff (l : Lot) : l.running = true ↔ l.state = .opened ∨ l.state = .discharging := by
  simp [Lot.running]

theorem attach_of_lotAt (hn : s.lotIdx? n = some k) (hl : s.lotAt k = some l) (i : StreamIdx) : attach n i s =
    if l.running then s.putLot k (some { l with
      attached := l.attached.insert i, used := l.used.insert i, state := .discharging })
    else s := by
  simp only [attach, hn, hl]

theorem detach_of_lotAt (hn : s.lotIdx? n = some k) (hl : s.lotAt k = some l) (i : StreamIdx) : detach n i s =
    let l1 := { l with attached := l.attached.erase i }
    if l.attached.has i then
      if l1.attached.isEmpty then
        match l.state with
        | .discharging => s.putLot k (some { l1 with state := .opened })
        | .closing => completionTest k (s.putLot k (some l1))
        | _ => s.putLot k (some l1)
      else s.putLot k (some l1)
    else s := by
  simp only [detach, hn, hl] <;> rfl

/-- Attaching changes the lots as the lots alone say. -/
theorem attach_lot_congr (h : s.lot = t.lot) (n : Nat) (i : StreamIdx) : (attach n i s).lot = (attach n i t).lot := by
  have hidx : s.lotIdx? n = t.lotIdx? n := by unfold State.lotIdx?; rw [h]
  cases hn : t.lotIdx? n with
  | none => rw [attach_of_lotIdx?_none (hidx.trans hn), attach_of_lotIdx?_none hn, h]
  | some k =>
    obtain ⟨l, hl, -⟩ := number_of_lotIdx? hn
    have hl' : s.lotAt k = some l := by unfold State.lotAt; rw [h]; exact hl
    rw [attach_of_lotAt (hidx.trans hn) hl', attach_of_lotAt hn hl]
    split
    · simp only [State.putLot, h]
    · exact h

theorem completionTest_lot_congr (h : s.lot = t.lot) (k : LotIdx) :
    (completionTest k s).lot = (completionTest k t).lot := by
  have hat : s.lotAt k = t.lotAt k := by unfold State.lotAt; rw [h]
  unfold completionTest
  rw [hat, h]
  split
  · exact h
  · split
    · split
      · simp only [raise_lot, State.putLot, State.putOutturn, h]
      · split
        · exact h
        · simp only [raise_lot, State.putLot, h]
    · exact h

/-- Detaching changes the lots as the lots alone say. -/
theorem detach_lot_congr (h : s.lot = t.lot) (n : Nat) (i : StreamIdx) : (detach n i s).lot = (detach n i t).lot := by
  have hidx : s.lotIdx? n = t.lotIdx? n := by unfold State.lotIdx?; rw [h]
  cases hn : t.lotIdx? n with
  | none => rw [detach_of_lotIdx?_none (hidx.trans hn), detach_of_lotIdx?_none hn, h]
  | some k =>
    obtain ⟨l, hl, -⟩ := number_of_lotIdx? hn
    have hl' : s.lotAt k = some l := by unfold State.lotAt; rw [h]; exact hl
    have hput : ∀ x, (s.putLot k x).lot = (t.putLot k x).lot := fun x => by simp only [State.putLot, h]
    rw [detach_of_lotAt (hidx.trans hn) hl', detach_of_lotAt hn hl]
    dsimp only
    split
    · split
      · split
        · exact hput _
        · exact completionTest_lot_congr (hput _) k
        · exact hput _
      · exact hput _
    · exact h

/-- Where the detaching of a last stream completes a CLOSING lot, its place is tested with the lot as it then stands. -/
theorem detach_of_last_closing (hn : s.lotIdx? n = some k) (hl : s.lotAt k = some l) (hi : l.attached.has i = true)
    (hlast : (l.attached.erase i).isEmpty = true) (hc : l.state = .closing) : detach n i s =
      completionTest k (s.putLot k (some { l with attached := l.attached.erase i })) := by
  rw [detach_of_lotAt hn hl]
  simp only [hi, hlast, hc, if_true]

end Attachment

/-! ## What a change of a stream's state leaves alone -/

theorem stream_detachStream_self (i : StreamIdx) (s : State) :
    (detachStream i s).stream i = { s.stream i with currentLot := none } := by
  unfold detachStream
  split
  · simp [State.modStream]
  next h => rw [← h]

theorem stream_detachStream_other (h : j ≠ i) (s : State) : (detachStream i s).stream j = s.stream j := by
  unfold detachStream
  split
  · simp [State.modStream, State.stream_putStream, h.symm]
  · rfl

/-- `t` is `s` but for stream `i`'s record and what lots, queue, reports, Loop and events hold. -/
def Placed (i : StreamIdx) (s t : State) : Prop :=
  t = { s.putStream i (t.stream i) with
    agenda := t.agenda, passDue := t.passDue, loop := t.loop, lot := t.lot, alloc := t.alloc, ind := t.ind }

namespace Placed

theorem trans (h : Placed i s t) (h' : Placed i t u) : Placed i s u := by
  unfold Placed at *
  generalize u.stream i = y at *
  generalize t.stream i = x at *
  rw [h', h]
  simp only [State.putStream, Tbl.set_set]

theorem tally (h : Placed i s t) : t.tally = s.tally := by rw [h]; rfl
theorem segs (h : Placed i s t) : t.segs = s.segs := by rw [h]; rfl
theorem bins (h : Placed i s t) : t.bins = s.bins := by rw [h]; rfl
theorem mgmt (h : Placed i s t) : t.mgmt = s.mgmt := by rw [h]; rfl
theorem stream_other (h : Placed i s t) (hj : j ≠ i) : t.stream j = s.stream j := by
  rw [h]
  exact (State.stream_putStream ..).trans (if_neg hj.symm)

theorem modStream (i : StreamIdx) (f : Stream → Stream) (s : State) : Placed i s (s.modStream i f) := by
  unfold Placed
  simp [State.modStream]
  rfl

theorem refreshLamps (i : StreamIdx) (s : State) : Placed i s (refreshLamps s) := by
  unfold Placed
  simp
  rfl

theorem attach (n : Nat) (i : StreamIdx) (s : State) : Placed i s (attach n i s) := by
  unfold Placed
  rw [stream_attach, State.putStream_stream_self, attach_frame]

theorem detach (n : Nat) (i : StreamIdx) (s : State) : Placed i s (detach n i s) := by
  unfold Placed
  rw [stream_detach, State.putStream_stream_self, detach_frame]

theorem refl (i : StreamIdx) (s : State) : Placed i s s := by
  unfold Placed
  rw [State.putStream_stream_self]

theorem detachStream (i : StreamIdx) (s : State) : Placed i s (detachStream i s) := by
  unfold Machine.detachStream
  split
  · exact (detach _ i s).trans (modStream i _ _)
  · exact refl i s

theorem queueRequest (i : StreamIdx) (n : Nat) (b : BinIdx) (s : State) : Placed i s (queueRequest i n b s) := by
  unfold Placed
  rw [show (Machine.queueRequest i n b s).stream i = s.stream i from rfl, State.putStream_stream_self]
  rfl

theorem becomeIdle (i : StreamIdx) (s : State) : Placed i s (becomeIdle i s) :=
  ((detachStream i s).trans (modStream i _ _)).trans (refreshLamps i _)

theorem becomeHeld (i : StreamIdx) (mark : Bool) (s : State) : Placed i s (becomeHeld i mark s) :=
  ((detachStream i s).trans (modStream i _ _)).trans (refreshLamps i _)

theorem becomeWaiting (i : StreamIdx) (n : Nat) (b : BinIdx) (s : State) : Placed i s (becomeWaiting i n b s) := by
  unfold Machine.becomeWaiting
  refine trans (trans (trans ?_ (modStream i _ _)) (refreshLamps i _)) (queueRequest i n b _)
  split
  · exact refl i s
  · exact (detachStream i s).trans (attach n i _)

theorem holdNoBin (i : StreamIdx) (n : Nat) (s : State) : Placed i s (holdNoBin i n s) :=
  (becomeHeld i false s).trans (modStream i _ _)

theorem exitTest (i : StreamIdx) (s : State) : Placed i s (exitTest i s) := by
  unfold Machine.exitTest
  dsimp only
  split
  · exact becomeHeld i false s
  · split
    · split
      · split
        · exact becomeWaiting i _ _ s
        · exact holdNoBin i _ s
      · exact becomeIdle i s
    · exact becomeIdle i s

end Placed

/-! ## A stream's record after it has been placed in a state -/

theorem stream_becomeIdle_self (i : StreamIdx) (s : State) : (becomeIdle i s).stream i = { s.stream i with
    state := .idle, activeRoute := none, silence := none, fromIdle := false, currentLot := none } := by
  simp [becomeIdle, State.modStream, stream_detachStream_self]

theorem stream_becomeHeld_self (i : StreamIdx) (mark : Bool) (s : State) :
    (becomeHeld i mark s).stream i = { s.stream i with
      state := .held, activeRoute := none, silence := none, fromIdle := mark, currentLot := none } := by
  simp [becomeHeld, State.modStream, stream_detachStream_self]

theorem stream_becomeWaiting_self (i : StreamIdx) (n : Nat) (b : BinIdx) (s : State) :
    (becomeWaiting i n b s).stream i = { s.stream i with
      state := .waiting, currentLot := some n, activeRoute := none, fromIdle := false
      silence := some (s.stream i).config.silenceTime } := by
  unfold becomeWaiting
  show ((refreshLamps _).stream i) = _
  split <;> simp [State.modStream, stream_detachStream_self]

theorem stream_holdNoBin_self (i : StreamIdx) (n : Nat) (s : State) :
    (holdNoBin i n s).stream i = { s.stream i with
      state := .held, activeRoute := none, silence := none, fromIdle := false, currentLot := none
      reasons := { (s.stream i).reasons with noBin := true }, noBinLot := some n } := by
  simp [holdNoBin, State.modStream, stream_becomeHeld_self]

theorem becomeIdle_alloc (i : StreamIdx) (s : State) : (becomeIdle i s).alloc = s.alloc := by
  simp [becomeIdle, State.modStream]

theorem becomeHeld_alloc (i : StreamIdx) (mark : Bool) (s : State) : (becomeHeld i mark s).alloc = s.alloc := by
  simp [becomeHeld, State.modStream]

theorem holdNoBin_alloc (i : StreamIdx) (n : Nat) (s : State) : (holdNoBin i n s).alloc = s.alloc := by
  simp [holdNoBin, State.modStream, becomeHeld_alloc]

theorem becomeWaiting_alloc (i : StreamIdx) (n : Nat) (b : BinIdx) (s : State) : (becomeWaiting i n b s).alloc =
    { s.alloc with queue := s.alloc.queue ++ [⟨i, n, b, s.routeFor i b, false⟩] } := by
  have hs1 : (if (s.stream i).currentLot = some n then s else attach n i (detachStream i s)).alloc = s.alloc := by
    split <;> simp
  unfold becomeWaiting queueRequest State.routeFor
  simp only [State.occasion, State.putQueue, refreshLamps_alloc, State.modStream]
  simp only [State.putStream, hs1]

/-- A state with stream `i` parted from its lot, its record as it was. -/
def State.parted (s : State) (i : StreamIdx) : State :=
  match (s.stream i).currentLot with
  | some m => detach m i s
  | none => s

theorem detachStream_lot (i : StreamIdx) (s : State) : (detachStream i s).lot = (s.parted i).lot := by
  unfold detachStream State.parted
  cases (s.stream i).currentLot <;> rfl

theorem becomeIdle_lot (i : StreamIdx) (s : State) : (becomeIdle i s).lot = (s.parted i).lot := by
  simp [becomeIdle, State.modStream, detachStream_lot]

theorem becomeHeld_lot (i : StreamIdx) (mark : Bool) (s : State) : (becomeHeld i mark s).lot = (s.parted i).lot := by
  simp [becomeHeld, State.modStream, detachStream_lot]

theorem holdNoBin_lot (i : StreamIdx) (n : Nat) (s : State) : (holdNoBin i n s).lot = (s.parted i).lot := by
  simp [holdNoBin, State.modStream, becomeHeld_lot]

theorem becomeWaiting_lot (i : StreamIdx) (n : Nat) (b : BinIdx) (s : State) : (becomeWaiting i n b s).lot =
    if (s.stream i).currentLot = some n then s.lot else (attach n i (s.parted i)).lot := by
  unfold becomeWaiting queueRequest
  simp only [State.occasion, State.putQueue, refreshLamps_lot, State.modStream, State.putStream]
  split
  · rfl
  · exact attach_lot_congr (detachStream_lot i s) n i

/-! ## The exit test (R33) -/

/-- What takes stream `i` to WAITING for lot `n`, but for the lot's current bin (R33). -/
def Wants (s : State) (i : StreamIdx) (n : Nat) : Prop :=
  (s.stream i).demand = true ∧ (s.stream i).lastLookup = some (.lot n) ∧
    (s.standing n = some (.inTable .opened) ∨ s.standing n = some (.inTable .discharging)) ∧
    (s.tallyOf i).cal ≠ none

theorem qualifies_iff (s : State) (n : Nat) : s.qualifies n = true ↔
    s.standing n = some (.inTable .opened) ∨ s.standing n = some (.inTable .discharging) := by
  unfold State.qualifies
  split <;> simp_all

theorem startableLot_eq_some_iff : s.startableLot i = some n ↔
    (s.stream i).lastLookup = some (.lot n) ∧
    (s.standing n = some (.inTable .opened) ∨ s.standing n = some (.inTable .discharging)) ∧
    (s.tallyOf i).cal ≠ none := by
  have hcal : s.calibrated i = true ↔ (s.tallyOf i).cal ≠ none := by
    simp [State.calibrated, Option.isSome_iff_ne_none]
  rw [← qualifies_iff, ← hcal]
  unfold State.startableLot
  split
  next m hm =>
    rw [hm, Option.some.injEq, Lookup.lot.injEq]
    split
    next hq =>
      rw [Bool.and_eq_true] at hq
      rw [Option.some.injEq]
      exact ⟨fun h => ⟨h, h ▸ hq⟩, And.left⟩
    next hq =>
      refine ⟨nofun, fun ⟨h, hl⟩ => absurd (Bool.and_eq_true_iff.mpr hl) (h ▸ hq)⟩
  next h =>
    simp only [reduceCtorEq, false_iff, not_and]
    exact fun hl => absurd hl (h n)

theorem exitTest_of_reasons (h : (s.stream i).reasons ≠ HoldSet.none) :
    exitTest i s = becomeHeld i false s := if_pos h

theorem exitTest_of_no_reasons (h : (s.stream i).reasons = HoldSet.none) : exitTest i s =
    if (s.stream i).demand then
      match s.startableLot i with
      | some n => match s.currentBinOf n with
        | some b => becomeWaiting i n b s
        | none => holdNoBin i n s
      | none => becomeIdle i s
    else becomeIdle i s := if_neg (not_not_intro h)

theorem exitTest_of_waiting (h : (s.stream i).reasons = HoldSet.none) (hw : Wants s i n)
    (hb : s.currentBinOf n = some b) : exitTest i s = becomeWaiting i n b s := by
  obtain ⟨hd, hl⟩ := hw
  simp only [exitTest_of_no_reasons h, hd, startableLot_eq_some_iff.mpr hl, hb, if_true]

theorem exitTest_of_no_bin (h : (s.stream i).reasons = HoldSet.none) (hw : Wants s i n)
    (hb : s.currentBinOf n = none) : exitTest i s = holdNoBin i n s := by
  obtain ⟨hd, hl⟩ := hw
  simp only [exitTest_of_no_reasons h, hd, startableLot_eq_some_iff.mpr hl, hb, if_true]

theorem exitTest_of_idle (h : (s.stream i).reasons = HoldSet.none) (hw : ∀ n, ¬Wants s i n) :
    exitTest i s = becomeIdle i s := by
  rw [exitTest_of_no_reasons h]
  split
  next hd =>
    have hnone : s.startableLot i = none :=
      Option.eq_none_iff_forall_ne_some.mpr fun n hn => hw n ⟨hd, startableLot_eq_some_iff.mp hn⟩
    simp only [hnone]
  · rfl

/-- Settles O48. -/
theorem exitTestPlacesStream : Obligations.ExitTestPlacesStream := by
  refine ⟨fun s i => ?_, fun s n i => ⟨fun hnone => ?_, fun k l hlaw hl hn => ?_⟩⟩
  · refine ⟨fun h => ?_, fun n b h hw hb => ?_, fun n h hw hb => ?_, fun h hw => ?_⟩
    · have hx := exitTest_of_reasons h
      have hy := stream_becomeHeld_self i false s
      rw [← hx] at hy
      refine ⟨congrArg Stream.state hy, by rw [hy], congrArg Stream.currentLot hy,
        congrArg Stream.fromIdle hy, congrArg Stream.activeRoute hy, ?_, ?_⟩
      · rw [hx, becomeHeld_alloc]
      · rw [hx, becomeHeld_lot]; rfl
    · have hx := exitTest_of_waiting h hw hb
      have hy := stream_becomeWaiting_self i n b s
      rw [← hx] at hy
      refine ⟨congrArg Stream.state hy, congrArg Stream.currentLot hy, congrArg Stream.silence hy,
        congrArg Stream.fromIdle hy, ?_, fun hc => ?_, fun hc => ?_⟩
      · rw [hx, becomeWaiting_alloc]
      · rw [hx, becomeWaiting_lot, if_pos hc]
      · rw [hx, becomeWaiting_lot, if_neg hc]; rfl
    · have hx := exitTest_of_no_bin h hw hb
      have hy := stream_holdNoBin_self i n s
      rw [← hx] at hy
      refine ⟨congrArg Stream.state hy, (congrArg Stream.reasons hy).trans (by rw [h]), congrArg Stream.noBinLot hy,
        congrArg Stream.fromIdle hy, congrArg Stream.currentLot hy, ?_, ?_⟩
      · rw [hx, holdNoBin_alloc]
      · rw [hx, holdNoBin_lot]; rfl
    · have hx := exitTest_of_idle h hw
      have hy := stream_becomeIdle_self i s
      rw [← hx] at hy
      refine ⟨congrArg Stream.state hy, congrArg Stream.currentLot hy, congrArg Stream.activeRoute hy,
        congrArg Stream.silence hy, ?_, ?_⟩
      · rw [hx, becomeIdle_alloc]
      · rw [hx, becomeIdle_lot]; rfl
  · have hidx : s.lotIdx? n = none := (lotIdx?_eq_none_iff n).mpr hnone
    exact ⟨attach_of_lotIdx?_none hidx i, detach_of_lotIdx?_none hidx i⟩
  · have hidx : s.lotIdx? n = some k := hn ▸ lotIdx?_of_lotAt hlaw hl
    have hattach := attach_of_lotAt hidx hl i
    have hdetach := detach_of_lotAt hidx hl i
    refine ⟨fun hst => ?_, fun hst => ?_, fun hi => ?_,
      fun hi => ⟨fun hst => ?_, fun hlast hst => ?_, fun hlast hst => ?_⟩⟩
    · rw [hattach, if_pos ((running_iff l).mpr hst)]
    · rw [hattach, if_neg]
      rw [running_iff]
      rintro (h | h) <;> simp [h] at hst
    · rw [hdetach]; simp [hi]
    · rw [hdetach]
      dsimp only
      rw [if_pos hi]
      split
      next he =>
        obtain hst | hst | hst := hst
        · exact absurd he hst
        · simp only [hst]
        · simp only [hst]
      · rfl
    · rw [hdetach]
      simp only [hi, show (l.attached.erase i).isEmpty = true from hlast, hst, if_true]
    · rw [detach_of_last_closing hidx hl hi hlast hst]
      have hput : (s.putLot k (some { l with attached := l.attached.erase i })).lotAt k =
          some { l with attached := l.attached.erase i } := by simp
      have hwaits : ({ l with attached := l.attached.erase i } : Lot).waits := ⟨hst, hlast⟩
      refine ⟨fun hroom => ?_, fun hfull hrep => ?_, fun hfull hrep => ?_⟩
      · rw [completionTest_of_room hput hwaits hroom, ← hn]
        simp [State.putOutturn, State.putLot, Lot.outturnRecord]
      · rw [completionTest_of_full hput hwaits hfull, if_pos hrep]
      · rw [completionTest_of_full hput hwaits hfull, if_neg (by simp [hrep]), State.putLot_putLot]

/-! ## Releases of a stream's segments, as the streams see them -/

/-- `t` is `s` but for stream `i`'s drain timer and what segments, bins, reports, Loop and events hold. -/
def Released (i : StreamIdx) (s t : State) : Prop :=
  ∃ d, SegsMoved (s.putStream i { s.stream i with drain := d }) t

namespace Released

theorem of_moved (h : SegsMoved s t) (i : StreamIdx) : Released i s t := by
  refine ⟨(s.stream i).drain, ?_⟩
  rwa [show { s.stream i with drain := (s.stream i).drain } = s.stream i from rfl, State.putStream_stream_self]

theorem refl (i : StreamIdx) (s : State) : Released i s s := of_moved (SegsMoved.refl s) i

theorem stream_self (h : Released i s t) : ∃ d, t.stream i = { s.stream i with drain := d } := by
  obtain ⟨d, h⟩ := h
  exact ⟨d, (h.stream i).trans (by simp)⟩

theorem stream_other (h : Released i s t) (hj : j ≠ i) : t.stream j = s.stream j := by
  obtain ⟨d, h⟩ := h
  exact (h.stream j).trans (by simp [State.stream_putStream, hj.symm])

theorem tally (h : Released i s t) : t.tally = s.tally := h.elim fun _ h => h.tally
theorem lot (h : Released i s t) : t.lot = s.lot := h.elim fun _ h => h.lot
theorem alloc (h : Released i s t) : t.alloc = s.alloc := h.elim fun _ h => h.alloc
theorem mgmt (h : Released i s t) : t.mgmt = s.mgmt := h.elim fun _ h => h.mgmt

theorem trans (h : Released i s t) (h' : Released i t u) : Released i s u := by
  obtain ⟨d, h⟩ := h
  obtain ⟨d', h'⟩ := h'
  refine ⟨d', ?_⟩
  have hself : t.stream i = { s.stream i with drain := d } := (h.stream i).trans (by simp)
  rw [hself] at h'
  unfold SegsMoved at *
  rw [h', h]
  simp [State.putStream]

theorem releaseSeg (i : StreamIdx) (g : SegIdx) (s : State) : Released i s (releaseSeg i g s) := by
  have hmoved := SegsMoved.releaseHolder i g s
  unfold Machine.releaseSeg
  dsimp only
  split
  · split
    · exact (of_moved hmoved i).trans ⟨some ((releaseHolder i g s).seg g).flushMs, SegsMoved.refl _⟩
    · exact of_moved hmoved i
  · exact refl i s

theorem foldl {α : Type} (f : α → SegIdx) (l : List α) (i : StreamIdx) (s : State) :
    Released i s (l.foldl (fun s a => Machine.releaseSeg i (f a) s) s) := by
  induction l generalizing s with
  | nil => exact refl i s
  | cons a l ih => exact (releaseSeg i (f a) s).trans (ih _)

theorem releaseRoute (i : StreamIdx) (r : RouteIdx) (s : State) : Released i s (releaseRoute i r s) :=
  foldl Step.segment (s.stepsOf r) i s

theorem releaseGrant (q : Request) (s : State) : Released q.stream s (releaseGrant q s) := by
  unfold Machine.releaseGrant
  split
  · exact releaseRoute _ _ s
  · exact refl _ s

end Released

/-! ## Requests and staging records that go -/

theorem requestOf_eq_some {q : Request} (h : s.requestOf i = some q) : q.stream = i ∧ q ∈ s.alloc.queue :=
  ⟨by simpa using List.find?_some h, List.mem_of_find?_eq_some h⟩

theorem requestOf_eq_none_iff : s.requestOf i = none ↔ ∀ q ∈ s.alloc.queue, q.stream ≠ i := by
  simp [State.requestOf]

theorem mem_queue_dropRequest {q : Request} :
    q ∈ (s.dropRequest i).alloc.queue ↔ q ∈ s.alloc.queue ∧ q.stream ≠ i := by
  simp [State.dropRequest]

/-- What the removal of a request leaves: the other requests, and everything but the releases. -/
theorem removeRequest_eq (i : StreamIdx) (s : State) : ∃ u, Released i s u ∧
    removeRequest i s = if s.requestOf i = none then s else (u.dropRequest i).occasion := by
  unfold removeRequest
  cases h : s.requestOf i with
  | none => exact ⟨s, Released.refl i s, rfl⟩
  | some q =>
    obtain ⟨hq, -⟩ := requestOf_eq_some h
    exact ⟨releaseGrant q s, hq ▸ Released.releaseGrant q s, rfl⟩

section RemoveRequest

theorem removeRequest_queue (i : StreamIdx) (s : State) :
    (removeRequest i s).alloc = { s.alloc with queue := s.alloc.queue.filter (·.stream != i) } := by
  obtain ⟨u, hu, heq⟩ := removeRequest_eq i s
  rw [heq]
  split
  next h =>
    have hall : s.alloc.queue.filter (·.stream != i) = s.alloc.queue :=
      List.filter_eq_self.mpr fun q hq => by simpa using requestOf_eq_none_iff.mp h q hq
    rw [hall]
  · simp only [State.dropRequest, State.occasion, State.putQueue, hu.alloc]

theorem removeRequest_streams_self (i : StreamIdx) (s : State) :
    ∃ d, (removeRequest i s).stream i = { s.stream i with drain := d } := by
  obtain ⟨u, hu, heq⟩ := removeRequest_eq i s
  rw [heq]
  split
  · exact ⟨_, rfl⟩
  · exact hu.stream_self

theorem removeRequest_stream_other (hj : j ≠ i) (s : State) : (removeRequest i s).stream j = s.stream j := by
  obtain ⟨u, hu, heq⟩ := removeRequest_eq i s
  rw [heq]
  split
  · rfl
  · exact hu.stream_other hj

theorem removeRequest_lot (i : StreamIdx) (s : State) : (removeRequest i s).lot = s.lot := by
  obtain ⟨u, hu, heq⟩ := removeRequest_eq i s
  rw [heq]
  split
  · rfl
  · exact hu.lot

theorem removeRequest_tally (i : StreamIdx) (s : State) : (removeRequest i s).tally = s.tally := by
  obtain ⟨u, hu, heq⟩ := removeRequest_eq i s
  rw [heq]
  split
  · rfl
  · exact hu.tally

theorem removeRequest_mgmt (i : StreamIdx) (s : State) : (removeRequest i s).mgmt = s.mgmt := by
  obtain ⟨u, hu, heq⟩ := removeRequest_eq i s
  rw [heq]
  split
  · rfl
  · exact hu.mgmt

end RemoveRequest

/-- What dropping a staging record leaves: no record of the stream, and everything but the releases. -/
theorem dropStaging_eq (i : StreamIdx) (s : State) : ∃ u, Released i s u ∧
    dropStaging i s = if s.stagingOf i = none then s else (u.putStaging i none).occasion := by
  unfold dropStaging
  cases h : s.stagingOf i with
  | none => exact ⟨s, Released.refl i s, rfl⟩
  | some x => exact ⟨_, Released.foldl id x.staged.toList i s, rfl⟩

theorem stagingOf_dropStaging_self (i : StreamIdx) (s : State) : (dropStaging i s).stagingOf i = none := by
  obtain ⟨u, hu, heq⟩ := dropStaging_eq i s
  rw [heq]
  split
  · assumption
  · exact State.stagingOf_putStaging .. ▸ if_pos rfl

/-! ## DRAINING (R36, R118) -/

theorem sendPermit_moved (i : StreamIdx) (feed : Bool) (s : State) : BinsMoved s (sendPermit i feed s) := by
  unfold sendPermit
  split
  · exact BinsMoved.place _ _
  · exact BinsMoved.refl s

theorem stream_permitStop_self (i : StreamIdx) (s : State) :
    (permitStop i s).stream i = { s.stream i with permit := none } := by
  simp [permitStop, State.modStream, (sendPermit_moved i false s).segsMoved.stream]

/-- DRAINING of stream `i` leaves its record, but for state, permit and drain timer, no staging record, and the lots as
they stood (R36, R118). -/
theorem enterDraining_spec (i : StreamIdx) (s : State) :
    (∃ d, (enterDraining i s).stream i = { s.stream i with state := .draining, permit := none, drain := d }) ∧
      (enterDraining i s).stagingOf i = none ∧ (enterDraining i s).lot = s.lot := by
  have hstop : ∀ v : State, (permitStop i v).lot = v.lot := fun v => by
    simp [permitStop, State.modStream, (sendPermit_moved i false v).segsMoved.lot]
  set s1 := permitStop i (refreshLamps (s.modStream i fun x => { x with state := .draining })) with hs1
  have hself : s1.stream i = { s.stream i with state := .draining, permit := none } := by
    rw [hs1, stream_permitStop_self]
    simp [State.modStream]
  have hlot : s1.lot = s.lot := by rw [hs1, hstop]; rfl
  have hroute : Released i s1 (match (s.stream i).activeRoute with | some r => releaseRoute i r s1 | none => s1) := by
    split
    · exact Released.releaseRoute i _ s1
    · exact Released.refl i s1
  have hdef : enterDraining i s =
      (dropStaging i (match (s.stream i).activeRoute with | some r => releaseRoute i r s1 | none => s1)).occasion := rfl
  generalize (match (s.stream i).activeRoute with | some r => releaseRoute i r s1 | none => s1) = s2 at hroute hdef
  obtain ⟨u, hu, heq⟩ := dropStaging_eq i s2
  have hrel := hroute.trans hu
  refine ⟨?_, ?_, ?_⟩
  · have hfrom : ∃ v, Released i s1 v ∧ (enterDraining i s).stream i = v.stream i := by
      rw [hdef, heq]
      split
      · exact ⟨s2, hroute, rfl⟩
      · exact ⟨u, hrel, rfl⟩
    obtain ⟨v, hv, hve⟩ := hfrom
    obtain ⟨d, hd⟩ := hv.stream_self
    exact ⟨d, by rw [hve, hd, hself]⟩
  · rw [hdef]; exact stagingOf_dropStaging_self i s2
  · rw [hdef, heq]
    split
    · exact hroute.lot.trans hlot
    · exact hrel.lot.trans hlot

/-! ## Hold reasons (R37, R39) -/

section Reasons

theorem Stream.withReason_reasons (x : Stream) (r : HoldReason) : (x.withReason r).reasons = (match r with
    | .operator => { x.reasons with operator := true }
    | .silent => { x.reasons with silent := true }
    | .meter => { x.reasons with meter := true }
    | .noBin _ => { x.reasons with noBin := true }
    | .segment _ => { x.reasons with segment := true }) := by
  cases r with
  | noBin n =>
    unfold Stream.withReason
    dsimp only
    split
    next h => rw [← h]
    · rfl
  | _ => rfl

/-- A reason joins the set, the NO-BIN lot and the faulted segments, and leaves the rest of the record. -/
theorem Stream.withReason_frame (x : Stream) (r : HoldReason) : x.withReason r = { x with
    reasons := (x.withReason r).reasons, noBinLot := (x.withReason r).noBinLot
    faulted := (x.withReason r).faulted } := by
  cases r with
  | noBin n =>
    have hin : x.withReason (.noBin n) = if x.reasons.noBin then x
        else { x with reasons := { x.reasons with noBin := true }, noBinLot := some n } := rfl
    rw [hin]
    split <;> rfl
  | _ => rfl

theorem marks_iff (r : HoldReason) : r.marks = true ↔ ∀ n, r ≠ .noBin n := by
  cases r <;> simp [HoldReason.marks]

theorem leaveIdle_unlock {v : Unlock} (hu : s.mgmt.unlock = some v) (hv : v.stream = i) :
    (leaveIdle i s).mgmt.unlock = none := by
  have hun : s.unlockedFor i = true := by simp [State.unlockedFor, hu, hv]
  simp only [leaveIdle, hun, if_true, endUnlock, hu]
  split <;> rfl

theorem stream_joined (i : StreamIdx) (r : HoldReason) (s : State) :
    (s.modStream i (·.withReason r)).stream i = (s.stream i).withReason r := by simp [State.modStream]

theorem addReason_idle (h : (s.stream i).state = .idle) (r : HoldReason) :
    addReason i r s = becomeHeld i r.marks (leaveIdle i (s.modStream i (·.withReason r))) := by
  simp only [addReason, h]

theorem addReason_waiting (h : (s.stream i).state = .waiting) (r : HoldReason) :
    addReason i r s = becomeHeld i false (removeRequest i (s.modStream i (·.withReason r))) := by
  simp only [addReason, h]

theorem addReason_feeding (h : (s.stream i).state = .feeding) (r : HoldReason) :
    addReason i r s = enterDraining i (s.putStream i ((s.stream i).withReason r)) := by
  simp only [addReason, h]
  rfl

theorem addReason_staying (h : (s.stream i).state = .draining ∨ (s.stream i).state = .held) (r : HoldReason) :
    addReason i r s = s.putStream i ((s.stream i).withReason r) := by
  obtain h | h := h <;> simp only [addReason, h] <;> rfl

theorem removeReason_of_leaving (r : HoldReason) (h : (s.stream i).state = .held)
    (hne : (s.stream i).reasons ≠ HoldSet.none) (he : ((s.stream i).withoutReason r).reasons = HoldSet.none) :
    removeReason i r s = leaveHeld i (s.putStream i ((s.stream i).withoutReason r)) := if_pos ⟨h, hne, he⟩

theorem removeReason_of_staying (r : HoldReason) (h : (s.stream i).state ≠ .held ∨
    (s.stream i).reasons = HoldSet.none ∨ ((s.stream i).withoutReason r).reasons ≠ HoldSet.none) :
    removeReason i r s = s.putStream i ((s.stream i).withoutReason r) := by
  refine if_neg ?_
  rintro ⟨h1, h2, h3⟩
  obtain h | h | h := h
  · exact h h1
  · exact h2 h
  · exact h h3

/-- A reason that is not in the set leaves the record as it is when it is removed (R39). -/
theorem Stream.withoutReason_of_absent {x : Stream} {r : HoldReason} (hlaw : x.Law) (h : match r with
    | .operator => x.reasons.operator = false
    | .silent => x.reasons.silent = false
    | .meter => x.reasons.meter = false
    | .noBin _ => x.reasons.noBin = false
    | .segment g => x.faulted.has g = false) : x.withoutReason r = x := by
  cases r with
  | operator => exact Stream.withoutReason_operator_of_absent h
  | silent => simp only [Stream.withoutReason, ← h]
  | meter => simp only [Stream.withoutReason, ← h]
  | noBin n =>
    have hlot : x.noBinLot = none := by
      have := hlaw.noBin
      rwa [h, Option.isSome_eq_false_iff, Option.isNone_iff_eq_none] at this
    simp only [Stream.withoutReason, ← h, ← hlot]
  | segment g =>
    have hseg : (x.reasons.segment && !x.faulted.isEmpty) = x.reasons.segment := by
      rw [hlaw.faulted, Bool.and_self]
    simp only [Stream.withoutReason, IdxSet.erase_of_not_has h, hseg]

end Reasons

/-- Settles O47. -/
theorem addedReasonActsByState : Obligations.AddedReasonActsByState := by
  refine ⟨fun s i r => ?_, fun s i r => ?_⟩
  · refine ⟨(s.stream i).withReason_reasons r, ?_, fun hx => ?_, fun hx => ?_, fun hx => ?_,
      fun hx => addReason_staying hx r⟩
    · rintro g h rfl
      show ((s.stream i).faulted.insert g).has h = true ↔ _
      rw [IdxSet.has_insert, Bool.or_eq_true, decide_eq_true_eq, eq_comm]
    · have hy := stream_becomeHeld_self i r.marks (leaveIdle i (s.modStream i (·.withReason r)))
      rw [stream_leaveIdle, stream_joined] at hy
      rw [addReason_idle hx]
      refine ⟨by rw [hy], by rw [hy], ?_, by rw [hy], by rw [hy], fun u hu hui => ?_⟩
      · rw [hy]; exact marks_iff r
      · rw [(Placed.becomeHeld i r.marks _).mgmt]
        exact leaveIdle_unlock hu hui
    · set t := s.modStream i (·.withReason r) with ht
      obtain ⟨d, hd⟩ := removeRequest_streams_self i t
      have hy := stream_becomeHeld_self i false (removeRequest i t)
      rw [hd, ht, stream_joined] at hy
      have hcur : ((removeRequest i t).stream i).currentLot = (s.stream i).currentLot := by
        rw [hd, ht, stream_joined]; exact Stream.withReason_currentLot _ _
      have hlot := becomeHeld_lot i false (removeRequest i t)
      rw [addReason_waiting hx]
      refine ⟨by rw [hy], by rw [hy], by rw [hy], by rw [hy], by rw [hy], fun q hq => ?_,
        fun n hn => ?_, fun hn => ?_⟩
      · rw [becomeHeld_alloc, removeRequest_queue] at hq
        simpa using (List.mem_filter.mp hq).2
      · rw [hlot, State.parted, hcur, hn]
        have hl : (removeRequest i t).lot = s.lot := removeRequest_lot i t
        exact detach_lot_congr hl n i
      · rw [hlot, State.parted, hcur, hn]
        exact removeRequest_lot i t
    · obtain ⟨⟨d, hy⟩, hst, hlot⟩ := enterDraining_spec i (s.putStream i ((s.stream i).withReason r))
      rw [State.stream_putStream, if_pos rfl] at hy
      have heq := addReason_feeding hx r
      rw [← heq] at hy hst hlot
      refine ⟨heq, by rw [hy], by rw [hy], ?_, ?_, hst, hlot⟩
      · rw [hy]; exact Stream.withReason_currentLot _ _
      · rw [hy, Stream.withReason_frame]
  · refine ⟨⟨?_, ?_, ?_, ?_, ?_, ?_⟩, fun h hne he => ⟨fun hm => ?_, fun hm => ?_⟩,
      removeReason_of_staying r,
      fun hlaw habs => ?_⟩
    · cases r <;> rfl
    · rintro rfl; rfl
    · rintro rfl; rfl
    · rintro rfl; rfl
    · rintro n rfl; rfl
    · rintro g rfl
      have hf : ((s.stream i).withoutReason (.segment g)).faulted = (s.stream i).faulted.erase g := rfl
      have hr : ((s.stream i).withoutReason (.segment g)).reasons = { (s.stream i).reasons with
        segment := (s.stream i).reasons.segment && !((s.stream i).faulted.erase g).isEmpty } := rfl
      refine ⟨rfl, fun h => ?_, fun ⟨h, hh, hne⟩ => ?_, fun hall => ?_⟩
      · rw [hf, IdxSet.has_erase, Bool.and_eq_true, decide_eq_true_eq, and_comm, ne_comm]
      · have hmem : ((s.stream i).faulted.erase g).isEmpty = false := by
          rw [← Bool.not_eq_true, IdxSet.isEmpty_iff]
          exact fun hno => by simpa [IdxSet.has_erase, hh, hne.symm] using hno h
        rw [hr, hmem, Bool.not_false, Bool.and_true]
      · have hmem : ((s.stream i).faulted.erase g).isEmpty = true := by
          rw [IdxSet.isEmpty_iff]
          intro h
          rw [IdxSet.has_erase, Bool.and_eq_false_iff, decide_eq_false_iff_not, not_not]
          exact (Classical.em (g = h)).imp_right fun hne => Bool.not_eq_true _ ▸ fun hh => hne (hall h hh).symm
        rw [hr, hmem, Bool.not_true, Bool.and_false]
    · rw [removeReason_of_leaving r h hne he, leaveHeld, State.stream_putStream, if_pos rfl, if_pos]
      simpa using hm
    · rw [removeReason_of_leaving r h hne he, leaveHeld, State.stream_putStream, if_pos rfl, if_neg]
      simpa using hm
    · exact removeReason_of_absent r (Stream.withoutReason_of_absent hlaw habs)

/-! ## The streams' timers (R38, R41, R42) -/

theorem timed_iff (x : StreamState) : x.timed = true ↔ x = .waiting ∨ x = .feeding ∨ x = .draining := by
  cases x <;> simp [StreamState.timed]

/-- Settles O49. -/
theorem streamTimerExpiries : Obligations.StreamTimerExpiries := by
  intro s i x
  refine ⟨fun ms hms hst => ?_, fun hms => ?_, fun ms a r n y hms hst ha hr hy hn => ?_, fun hms => ?_,
    fun ms hms hst => ?_, fun hms => ?_⟩
  · show Host.Outcome.next (settled (silenceExpired i s)) = _
    have htimed : x.state.timed = true := (timed_iff _).mpr hst
    simp only [silenceExpired, show (s.stream i).silence = some ms from hms,
      show (s.stream i).state.timed = true from htimed, if_true]
    rfl
  · show Host.Outcome.next (settled (silenceExpired i s)) = _
    simp only [silenceExpired, show (s.stream i).silence = none from hms]
  · show Host.Outcome.next (settled (permitExpired i s)) = _
    have hbin : s.activeBin i = some y.bin := by
      simp [State.activeBin, State.routeBin, show (s.stream i).activeRoute = some r from hr, hy]
    have hsend : sendPermit i true s = s.place (.permit a i true y.bin n) := by
      simp only [sendPermit, show (s.stream i).config.unloader = some a from ha, hbin,
        show (s.stream i).currentLot = some n from hn]
    simp only [permitExpired, show (s.stream i).permit = some ms from hms,
      show (s.stream i).state = .feeding from hst, if_true, permitFeed, hsend]
    rfl
  · show Host.Outcome.next (settled (permitExpired i s)) = _
    simp only [permitExpired, show (s.stream i).permit = none from hms]
  · show Host.Outcome.next (settled (drainExpired i s)) = _
    simp only [drainExpired, show (s.stream i).drain = some ms from hms,
      show (s.stream i).state = .draining from hst, if_true]
    rfl
  · show Host.Outcome.next (settled (drainExpired i s)) = _
    simp only [drainExpired, show (s.stream i).drain = none from hms]

end Machine
end Sys2Proof
end

section
/-! The choice of a lot's current bin, the lots' part in a bin's report, and CLOSE_LOT (R12 to R19, R39, R120, R127). -/

namespace Sys2Proof.Machine

variable {s : State} {l : Lot} {n : Nat} {b : BinIdx}

/-! ## Usable bins (R16) -/

theorem Bin.usable_iff (x : Bin) (cls : Nat) : x.usable cls = true ↔
    ∃ c, x.config = some c ∧ (x.state = .available ∨ x.state = .filling) ∧ (x.cls = none ∨ x.cls = some cls) := by
  simp only [Bin.usable, Bool.and_eq_true, Bool.or_eq_true, decide_eq_true_eq, Option.isSome_iff_exists]
  exact ⟨fun ⟨⟨⟨c, hc⟩, hst⟩, hcls⟩ => ⟨c, hc, hst, hcls⟩, fun ⟨c, hc, hst, hcls⟩ => ⟨⟨⟨c, hc⟩, hst⟩, hcls⟩⟩

theorem usableAt_iff (s : State) (l : Lot) (p : Nat) : usableAt s l p = true ↔
    ∃ d c, l.bins[p]? = some d ∧ (s.bin d.bin).config = some c ∧
      ((s.bin d.bin).state = .available ∨ (s.bin d.bin).state = .filling) ∧
      ((s.bin d.bin).cls = none ∨ (s.bin d.bin).cls = some l.cls) := by
  unfold usableAt
  cases l.bins[p]? with
  | none => simp
  | some d => simp [Bin.usable_iff]

theorem lt_of_usableAt {p : Nat} (h : usableAt s l p = true) : p < l.bins.length := by
  obtain ⟨d, c, hd, -⟩ := (usableAt_iff s l p).mp h
  exact (List.getElem?_eq_some_iff.mp hd).1

/-! ## The searches (R17, R18, R120) -/

theorem firstUsable_eq_some_iff {p : Nat} : firstUsable s l = some p ↔
    p < l.bins.length ∧ usableAt s l p = true ∧ ∀ j < p, ¬usableAt s l j = true := by
  simp only [firstUsable, List.find?_range_eq_some, List.mem_range, Bool.not_eq_true', Bool.not_eq_true]
  exact ⟨fun ⟨h, hlt, hj⟩ => ⟨hlt, h, hj⟩, fun ⟨hlt, h, hj⟩ => ⟨h, hlt, hj⟩⟩

theorem firstUsable_eq_none_iff : firstUsable s l = none ↔ ∀ p < l.bins.length, ¬usableAt s l p = true := by
  simp [firstUsable]

/-- A search of the positions after `p` ends at the first of them, in wrapping order, that meets the test. -/
theorem find?_positionsAfter_eq_some_iff {n p r : Nat} {f : Nat → Bool} :
    (positionsAfter n p).find? f = some r ↔
      ∃ k < n, r = (p + 1 + k) % n ∧ f r = true ∧ ∀ j < k, ¬f ((p + 1 + j) % n) = true := by
  simp only [positionsAfter, List.find?_map, Option.map_eq_some_iff, List.find?_range_eq_some, Function.comp,
    List.mem_range, Bool.not_eq_true', Bool.not_eq_true]
  constructor
  · rintro ⟨k, ⟨hf, hk, hj⟩, rfl⟩
    exact ⟨k, hk, rfl, hf, hj⟩
  · rintro ⟨k, hk, rfl, hf, hj⟩
    exact ⟨k, ⟨hf, hk, hj⟩, rfl⟩

/-- The positions after `p` are all the positions of the list. -/
theorem mem_positionsAfter {n p q : Nat} (hp : p < n) : q ∈ positionsAfter n p ↔ q < n := by
  simp only [positionsAfter, List.mem_map, List.mem_range]
  constructor
  · rintro ⟨k, -, rfl⟩
    exact Nat.mod_lt _ (by omega)
  · intro hq
    obtain hlt | hge := Nat.lt_or_ge p q
    · refine ⟨q - p - 1, by omega, ?_⟩
      rw [show p + 1 + (q - p - 1) = q by omega, Nat.mod_eq_of_lt hq]
    · refine ⟨n + q - p - 1, by omega, ?_⟩
      rw [show p + 1 + (n + q - p - 1) = q + n by omega, Nat.add_mod_right, Nat.mod_eq_of_lt hq]

theorem nextUsable_eq_none_iff {p : Nat} (hp : p < l.bins.length) :
    nextUsable s l p = none ↔ ∀ j < l.bins.length, ¬usableAt s l j = true := by
  simp only [nextUsable, List.find?_eq_none, mem_positionsAfter hp]

/-- The `k`-th position after `p` is `p` itself only for the last `k`. -/
theorem positionAfter_eq_self_iff {n p k : Nat} (hp : p < n) (hk : k < n) : (p + 1 + k) % n = p ↔ k + 1 = n := by
  constructor
  · intro h
    by_contra hne
    obtain hlt | hge := Nat.lt_or_ge (p + 1 + k) n
    · rw [Nat.mod_eq_of_lt hlt] at h; omega
    · rw [Nat.mod_eq_sub_mod hge, Nat.mod_eq_of_lt (by omega)] at h; omega
  · rintro rfl
    rw [show p + 1 + k = p + (k + 1) by omega, Nat.add_mod_right, Nat.mod_eq_of_lt hp]

theorem nextBin_eq_some_iff {p : Nat} (hp : p < l.bins.length) (hcur : l.current = some p) : l.nextBin s = some b ↔
    ∃ k d, k + 1 < l.bins.length ∧ l.bins[(p + 1 + k) % l.bins.length]? = some d ∧ d.bin = b ∧
      usableAt s l ((p + 1 + k) % l.bins.length) = true ∧
      ∀ j < k, ¬usableAt s l ((p + 1 + j) % l.bins.length) = true := by
  have htest : ∀ k < l.bins.length, ((p + 1 + k) % l.bins.length != p &&
      usableAt s l ((p + 1 + k) % l.bins.length)) = true ↔
      k + 1 < l.bins.length ∧ usableAt s l ((p + 1 + k) % l.bins.length) = true := fun k hk => by
    rw [Bool.and_eq_true, bne_iff_ne, ne_eq, positionAfter_eq_self_iff hp hk]
    exact and_congr_left fun _ => ⟨fun h => by omega, fun h => by omega⟩
  have hfound : l.nextBin s = some b ↔ ∃ r, (positionsAfter l.bins.length p).find?
      (fun q => q != p && usableAt s l q) = some r ∧ ∃ d, l.bins[r]? = some d ∧ d.bin = b := by
    simp only [Lot.nextBin, hcur]
    cases (positionsAfter l.bins.length p).find? (fun q => q != p && usableAt s l q) with
    | none => simp
    | some r => simp [Option.map_eq_some_iff]
  rw [hfound]
  constructor
  · rintro ⟨r, hr, d, hd, hb⟩
    obtain ⟨k, hk, rfl, hf, hj⟩ := find?_positionsAfter_eq_some_iff.mp hr
    obtain ⟨hlt, hu⟩ := (htest k hk).mp hf
    exact ⟨k, d, hlt, hd, hb, hu, fun j hjk hju => hj j hjk ((htest j (by omega)).mpr ⟨by omega, hju⟩)⟩
  · rintro ⟨k, d, hlt, hd, hb, hu, hj⟩
    refine ⟨_, find?_positionsAfter_eq_some_iff.mpr ⟨k, by omega, rfl, (htest k (by omega)).mpr ⟨hlt, hu⟩, ?_⟩,
      d, hd, hb⟩
    exact fun j hjk hju => hj j hjk ((htest j (by omega)).mp hju).2

/-! ## The lots' part in a bin's report (R16) -/

theorem concerned_iff (s : State) (b : BinIdx) (l : Lot) : l.concerned s b = true ↔
    (l.state = .opened ∨ l.state = .discharging) ∧
      ((∃ p d, l.current = some p ∧ l.bins[p]? = some d ∧ d.bin = b ∧ ¬(s.bin b).usable l.cls = true) ∨
        (l.current = none ∧ (∃ d ∈ l.bins, d.bin = b) ∧ (s.bin b).usable l.cls = true)) := by
  rw [Lot.concerned, Bool.and_eq_true, running_iff]
  refine and_congr_right fun _ => ?_
  cases hcur : l.current with
  | none => simp [Lot.currentBin, hcur]
  | some p =>
    cases hd : l.bins[p]? with
    | none => simp [Lot.currentBin, hcur, hd]
    | some d => simp [Lot.currentBin, hcur, hd]

/-- Whether the report about bin `b`, examined from index `i` on, concerns the lot at `k` (R16). -/
def Concerned (s : State) (b : BinIdx) (i : Nat) (k : LotIdx) : Prop :=
  i ≤ k.val ∧ ∃ l, s.lotAt k = some l ∧ l.concerned s b = true

theorem concernedTest_iff (s : State) (b : BinIdx) (i : Nat) (k : LotIdx) : (decide (i ≤ k.val) &&
    (match s.lotAt k with | some l => l.concerned s b | none => false)) = true ↔ Concerned s b i k := by
  rw [Concerned, Bool.and_eq_true, decide_eq_true_eq]
  cases s.lotAt k <;> simp

theorem nextConcerned_eq_none {i : Nat} (h : ∀ k, ¬Concerned s b i k) : nextConcerned s b i = none :=
  List.find?_eq_none.mpr fun k _ hk => h k ((concernedTest_iff s b i k).mp hk)

theorem nextConcerned_eq_some {i : Nat} {k : LotIdx} (hk : Concerned s b i k)
    (hfirst : ∀ j < k, ¬Concerned s b i j) :
    nextConcerned s b i = some k := by
  refine List.find?_eq_some_iff_getElem.mpr
    ⟨(concernedTest_iff s b i k).mpr hk, k.val, by simp, by simp, fun j hj => ?_⟩
  have hlt : (⟨j, hj.trans k.isLt⟩ : LotIdx) < k := hj
  rw [List.getElem_finRange, Bool.not_eq_true', ← Bool.not_eq_true]
  exact fun hc => hfirst _ hlt ((concernedTest_iff s b i _).mp hc)

/-- A lot whose list holds a bin usable for it has a first usable position. -/
theorem firstUsable_ne_none {d : Delivery} (hd : d ∈ l.bins) (hu : (s.bin d.bin).usable l.cls = true) :
    ∃ p, firstUsable s l = some p := by
  obtain ⟨p, hp, rfl⟩ := List.getElem_of_mem hd
  refine Option.ne_none_iff_exists'.mp fun hnone => firstUsable_eq_none_iff.mp hnone p hp ?_
  simp [usableAt, List.getElem?_eq_getElem hp, hu]

/-- Settles O42. -/
theorem currentBinSearch : Obligations.CurrentBinSearch := by
  refine ⟨fun s l => ?_, fun s b i => ?_⟩
  · intro good
    have hgood : ∀ p, good p ↔ usableAt s l p = true := fun p => (usableAt_iff s l p).symm
    simp only [hgood]
    exact ⟨fun p => firstUsable_eq_some_iff, firstUsable_eq_none_iff, fun p r _ => find?_positionsAfter_eq_some_iff,
      fun p hp => nextUsable_eq_none_iff hp, fun p b hp hcur => nextBin_eq_some_iff hp hcur⟩
  · intro usable concerned moved
    have hconc : ∀ k, concerned k ↔ Concerned s b i k := fun k => by
      refine and_congr_right fun _ => exists_congr fun l => and_congr_right fun _ => ?_
      rw [concerned_iff, show usable l ↔ (s.bin b).usable l.cls = true from (Bin.usable_iff _ _).symm]
    refine ⟨rfl, fun hnone => ?_, fun k l hk hfirst hl => ?_⟩
    · have hno : nextConcerned s b i = none := nextConcerned_eq_none fun k => (hconc k).not.mp (hnone k)
      simp only [takeReport, examineLots, hno]
    · have hck := (hconc k).mp hk
      have hnext : nextConcerned s b i = some k := nextConcerned_eq_some hck fun j hj => (hconc j).not.mp (hfirst j hj)
      obtain ⟨-, l', hl', hc⟩ := hck
      obtain rfl : l = l' := Option.some.inj (hl.symm.trans hl')
      have htake : takeReport (.examineLots b i) s = (moveCurrent k s).emit (.examineLots b (k.val + 1)) := by
        simp only [takeReport, examineLots, hnext]
      refine ⟨fun p hcur => ?_, fun hcur => ?_⟩
      · rw [htake]
        simp only [moveCurrent, hl, hcur, setCurrent, moved, Lot.currentBin]
        cases nextUsable s l p <;> rfl
      · obtain ⟨-, ⟨p, d, hp, -⟩ | ⟨-, ⟨d, hd, hdb⟩, hu⟩⟩ := (concerned_iff s b l).mp hc
        · rw [hcur] at hp; cases hp
        · obtain ⟨p, hp⟩ := firstUsable_ne_none hd (hdb ▸ hu)
          refine ⟨p, hp, ?_⟩
          rw [htake]
          simp only [moveCurrent, hl, hcur, chooseCurrent_of_first hl hcur hp]
          rfl

/-! ## CLOSE_LOT (R12, R13, R39, R127) -/

theorem exec_closeLot (q : Requester) (n : Option Nat) (s : State) :
    exec (.closeLot q n) s = request (.closeLot q n) q n ownCloseLot s := by rfl

theorem ownCloseLot_of_lotAt (hs : LotLaw s) {i : LotIdx} (hl : s.lotAt i = some l) :
    ownCloseLot l.number s = if l.state = .closing then .refuse .badState else .done (closeLotAt i) := by
  simp only [ownCloseLot, lotIdx?_of_lotAt hs hl, hl]

/-- A walk of the streams that changes none of them changes nothing. -/
theorem forEach_eq_self {f : StreamIdx → State → State} (h : ∀ i, f i s = s) : forEach f s = s := by
  unfold forEach
  induction List.finRange 8 with
  | nil => rfl
  | cons i l ih => rw [List.foldl_cons, h, ih]

theorem removeRequestsOf_eq_self (h : ∀ r ∈ s.alloc.queue, r.lot ≠ n) : removeRequestsOf n s = s := by
  have hnone : requestsOf s n = [] := List.filter_eq_nil_iff.mpr fun r hr => by simpa using h r hr
  rw [removeRequestsOf, hnone]
  rfl

theorem closeStream_of_ne {i : StreamIdx} (h : (s.stream i).currentLot ≠ some n) : closeStream n i s = s := if_neg h

theorem freeHeldFor_of_ne {i : StreamIdx} (h : (s.stream i).noBinLot ≠ some n) : freeHeldFor n i s = s := if_neg h

/-- Settles O44. -/
theorem closeLotTaken : Obligations.CloseLotTaken := by
  refine ⟨fun q n s hs => ?_, fun q n s i l hs hlaw hl hn hst => ?_⟩
  · intro c
    refine ⟨fun hno => request_of_refuse _ q hs (by simp [ownCloseLot, (lotIdx?_eq_none_iff n).mpr hno]), ?_⟩
    rintro i l hlaw hl rfl
    have hown := ownCloseLot_of_lotAt hlaw hl
    refine ⟨fun hst => request_of_refuse (owner := ownCloseLot) _ q hs (by simp [hown, hst]), fun hst hatt hq hj => ?_⟩
    intro kind
    have hdone : exec c s = answeredDone c q (closeLotAt i s) :=
      request_of_done (f := closeLotAt i) (owner := ownCloseLot) (a := l.number) _ q hs (by simp [hown, hst])
    let l1 : Lot := { l with state := .closing, closeKind := some kind, outturnFullReported := false }
    have hput : (s.putLot i (some l1)).lotAt i = some l1 := by simp
    have hw : l1.waits := ⟨rfl, hatt⟩
    have hclose : closeLotAt i s = completionTest i (s.putLot i (some l1)) := by
      simp only [closeLotAt, hl, hatt, if_true]
      show forEach _ (forEach _ (removeRequestsOf l.number (completionTest i (s.putLot i (some l1))))) = _
      rw [removeRequestsOf_eq_self (by simpa using hq),
        forEach_eq_self (f := closeStream l.number) fun j => closeStream_of_ne (by simpa using (hj j).1),
        forEach_eq_self fun j => freeHeldFor_of_ne (by simpa using (hj j).2)]
    rw [hdone, hclose]
    refine ⟨fun hroom => ?_, fun hfull => ?_⟩
    · rw [completionTest_of_room hput hw hroom]
      simp [State.putOutturn, State.putLot, Lot.outturnRecord, l1]
    · rw [completionTest_of_full hput hw hfull, if_neg (by simp [l1]), State.putLot_putLot]
  · intro c kind closed entered cleared
    subst hn
    have hown := ownCloseLot_of_lotAt hlaw hl
    have hdone : exec c s = answeredDone c q (closeLotAt i s) :=
      request_of_done (f := closeLotAt i) (owner := ownCloseLot) (a := l.number) _ q hs (by simp [hown, hst])
    refine ⟨?_, fun j u => ⟨closeStream_of_ne, fun hcur => ⟨fun hx => ?_, fun hx => ?_, fun hx => ?_⟩⟩,
      fun j u => ⟨freeHeldFor_of_ne, fun h => if_pos h⟩⟩
    · have hqueue : entered.alloc.queue = s.alloc.queue := by
        simp only [entered, closed]
        split <;> simp
      have hclose : closeLotAt i s = forEach (freeHeldFor l.number) (forEach (closeStream l.number)
          (removeRequestsOf l.number entered)) := by
        simp only [closeLotAt, hl]
        rfl
      have hcleared : removeRequestsOf l.number entered = cleared := by
        simp only [removeRequestsOf, requestsOf, hqueue, cleared]
        congr 1
      rw [hdone, hclose, hcleared]
      rfl
    · simp only [closeStream, hcur, hx, if_true]
    · simp only [closeStream, hcur, hx, if_true]
    · simp only [closeStream, hcur, hx, if_true]

end Sys2Proof.Machine
end

section
/-! The event records, the alert output and its NOTICE, and the signal lamps (R171 to R177). -/

namespace Sys2Proof.Machine

variable {s : State}

/-! ## The event summary (R174) -/

theorem getLsbD_foldl_bits {f : Fin 18 → Bool} (l : List (Fin 18)) (acc : BitVec 24) (k : Nat) :
    (l.foldl (fun acc j => if f j then acc ||| (1#24 <<< j.val) else acc) acc).getLsbD k = true ↔
      acc.getLsbD k = true ∨ ∃ j ∈ l, j.val = k ∧ f j = true := by
  induction l generalizing acc with
  | nil => simp
  | cons j l ih =>
    have hbit : (1#24 <<< j.val).getLsbD k = true ↔ j.val = k := by
      rw [← BitVec.twoPow_eq, BitVec.getLsbD_twoPow, Bool.and_eq_true, decide_eq_true_eq, decide_eq_true_eq]
      exact ⟨And.right, fun h => ⟨by omega, h⟩⟩
    rw [List.foldl_cons, ih]
    cases hf : f j with
    | false => simp [hf]
    | true =>
      rw [if_pos rfl, BitVec.getLsbD_or, Bool.or_eq_true, hbit]
      simp [hf, or_assoc]

theorem getLsbD_eventSummary (e : Tbl EventRecord 18) (k : Nat) : (eventSummary e).getLsbD k = true ↔
    ∃ j : Fin 18, j.val = k ∧ (e.get j).flag = true ∧ (e.get j).mask = true := by
  rw [eventSummary, getLsbD_foldl_bits]
  simp [EventRecord.live]

/-! ## The judgement of the alert (R174) -/

/-- What goes to the Loop when events become `e`: one NOTICE to the last MANAGE source when the alert becomes active. -/
def NoticeSent (s : State) (e : Tbl EventRecord 18) (active : Bool) (loop : Loop) : Prop :=
  (active = true → s.ind.alert = false → ∀ a, s.mgmt.lastSource = some a → ∃ summary : BitVec 24,
    loop = ((s.loop.enqueue (.notice a summary)).choose) ∧
    ∀ k : Fin 24, (summary.getLsbD k.val = true ↔
      ∃ j : Fin 18, j.val = k.val ∧ (e.get j).flag = true ∧ (e.get j).mask = true)) ∧
  (active = false ∨ s.ind.alert = true ∨ s.mgmt.lastSource = none → loop = s.loop)

/-- New event records, the alert judged: the alert follows them, a NOTICE is sent as it becomes active, and nothing else
changes. -/
theorem judgeAlert_putEvents (e : Tbl EventRecord 18) (s : State) :
    (judgeAlert (s.putEvents e)).ind.events = e ∧
    ((judgeAlert (s.putEvents e)).ind.alert = true ↔ ∃ k, (e.get k).flag = true ∧ (e.get k).mask = true) ∧
    NoticeSent s e (judgeAlert (s.putEvents e)).ind.alert (judgeAlert (s.putEvents e)).loop ∧
    judgeAlert (s.putEvents e) = { s with
      ind := { s.ind with events := e, alert := (judgeAlert (s.putEvents e)).ind.alert }
      loop := (judgeAlert (s.putEvents e)).loop } := by
  have halert : (judgeAlert (s.putEvents e)).ind.alert = anyLive e := judgeAlert_alert _
  refine ⟨judgeAlert_events _, by rw [halert, anyLive_iff], ?_, ?_⟩
  · rw [halert]
    refine ⟨fun hact hold a ha => ⟨eventSummary e, ?_, fun k => getLsbD_eventSummary e k.val⟩, fun h => ?_⟩
    · simp [judgeAlert, State.putEvents, hact, hold, ha, State.place]
    · have hquiet : ¬(anyLive e = true ∧ s.ind.alert = false ∧ ∃ a, s.mgmt.lastSource = some a) := by
        rintro ⟨hact, hold, a, ha⟩
        obtain h | h | h := h
        · rw [hact] at h; cases h
        · rw [hold] at h; cases h
        · rw [ha] at h; cases h
      unfold judgeAlert
      dsimp only
      split
      next hact =>
        split
        next a ha =>
          rw [Bool.and_eq_true, Bool.not_eq_true'] at hact
          exact absurd ⟨hact.1, hact.2, a, ha⟩ hquiet
        · rfl
      · rfl
  · rw [halert]
    obtain he | ⟨f, he⟩ := judgeAlert_cases (s.putEvents e) <;> rw [he] <;> rfl

/-! ## Raises, masks and clearing (R171 to R173) -/

/-- Settles O58. -/
theorem eventsMasksAndAlert : Obligations.EventsMasksAndAlert := by
  refine ⟨fun s kind source => ?_, fun q p s hs => ⟨?_, ?_⟩⟩
  · intro r e t
    obtain ⟨hev, halert, ⟨hsent, hquiet⟩, hframe⟩ := judgeAlert_putEvents e s
    exact ⟨hev, halert, hsent, hquiet, hframe⟩
  · let e : Tbl EventRecord 18 := Tbl.ofIndex 18 fun k => { s.ind.events.get k with mask := p.getLsbD k.val }
    have hget : ∀ k, e.get k = { s.ind.events.get k with mask := p.getLsbD k.val } := fun k => Tbl.get_ofIndex _ _
    obtain ⟨hev, halert, ⟨hsent, hquiet⟩, hframe⟩ := judgeAlert_putEvents e s
    refine ⟨judgeAlert (s.putEvents e), request_of_done (f := setMasks p) (owner := fun p _ => .done (setMasks p))
      _ q hs rfl, fun k => ?_, ?_, ⟨?_, hquiet⟩, ?_⟩
    · rw [hev, hget]
    · rw [halert]
      simp only [hget]
    · rw [hev]; exact hsent
    · rw [hev]; exact hframe
  · let e : Tbl EventRecord 18 := Tbl.ofIndex 18 fun k =>
      if p.getLsbD k.val then s.ind.events.get k else { s.ind.events.get k with flag := false, count := 0 }
    have hget : ∀ k, e.get k = if p.getLsbD k.val then s.ind.events.get k
        else { s.ind.events.get k with flag := false, count := 0 } := fun k => Tbl.get_ofIndex _ _
    obtain ⟨hev, halert, ⟨hsent, hquiet⟩, hframe⟩ := judgeAlert_putEvents e s
    refine ⟨judgeAlert (s.putEvents e), request_of_done (f := clearEventRecords p)
      (owner := fun p _ => .done (clearEventRecords p)) _ q hs rfl,
      fun k hk => ?_, fun k hk => ?_, ?_, ⟨?_, hquiet⟩, ?_⟩
    · rw [hev, hget, if_pos hk]
    · rw [hev, hget, if_neg (by simp [hk])]
    · rw [halert]
      refine exists_congr fun k => ?_
      rw [hget]
      cases p.getLsbD k.val <;> simp
    · rw [hev]; exact hsent
    · rw [hev]; exact hframe

/-! ## Lamps (R167, R176, R177) -/

theorem idx?_val {n : Nat} (i : Fin n) : idx? n i.val = some i := by simp [idx?]

theorem idx?_of_le {n k : Nat} (h : n ≤ k) : idx? n k = none := by simp [idx?, Nat.not_lt.mpr h]

theorem lampMode?_of_gt {k : Nat} (h : 3 < k) : lampMode? k = none := by
  match k, h with
  | k + 4, _ => rfl

theorem ownLampMode_of_mode {n : LampIdx} {m : LampMode} {a : LampArgs} (hn : n.val = a.target)
    (hm : lampMode? a.setting = some m) (s : State) : ownLampMode a s =
    match a.stream with
    | none => .done (setLamp n m none)
    | some k =>
      match idx? 8 k with
      | some i => .done (setLamp n m (some i))
      | none => if m = .stream then .refuse .badRecord else .done (setLamp n m none) := by
  simp only [ownLampMode, ← hn, idx?_val, hm] <;> rfl

/-- In a mode other than STREAM a stream given, or out of range, is disregarded (log 14). -/
theorem ownLampMode_of_not_stream {n : LampIdx} {m : LampMode} {a : LampArgs} (hn : n.val = a.target)
    (hm : lampMode? a.setting = some m) (hne : m ≠ .stream) (s : State) :
    ∃ o, ownLampMode a s = .done (setLamp n m o) := by
  rw [ownLampMode_of_mode hn hm]
  split
  · exact ⟨none, rfl⟩
  · split
    next i _ => exact ⟨some i, rfl⟩
    · exact ⟨none, if_neg hne⟩

theorem setLamp_of_not_stream {m : LampMode} (hne : m ≠ .stream) (n : LampIdx) (o : Option StreamIdx) (s : State) :
    setLamp n m o s = { s with ind := { s.ind with
      lamps := s.ind.lamps.set n ⟨m, (s.ind.lamps.get n).assigned, (s.ind.lamps.get n).shown⟩ } } := by
  simp only [setLamp, modLamp, if_neg hne]
  rfl

theorem lit_iff (sh : Shown) : sh.lit = true ↔ sh.pattern ≠ .off ∧ (sh.pattern = .steady ∨ sh.phase % 2 = 0) := by
  unfold Shown.lit
  cases sh.pattern <;> simp

theorem lampOutput_iff (s : State) (n : LampIdx) : s.lampOutput n = true ↔ s.ind.forceOn = true ∨
    (s.ind.forceOff = false ∧ ((s.ind.lamps.get n).mode = .on ∨
      ((s.ind.lamps.get n).mode = .alert ∧ s.ind.alert = true) ∨
      ((s.ind.lamps.get n).mode = .stream ∧ ∃ sh, (s.ind.lamps.get n).shown = some sh ∧ sh.pattern ≠ .off ∧
        (sh.pattern = .steady ∨ sh.phase % 2 = 0)))) := by
  have hmode : (match (s.ind.lamps.get n).mode with
      | .on => true
      | .off => false
      | .alert => s.ind.alert
      | .stream => match (s.ind.lamps.get n).shown with | some sh => sh.lit | none => false) = true ↔
      ((s.ind.lamps.get n).mode = .on ∨ ((s.ind.lamps.get n).mode = .alert ∧ s.ind.alert = true) ∨
        ((s.ind.lamps.get n).mode = .stream ∧ ∃ sh, (s.ind.lamps.get n).shown = some sh ∧ sh.pattern ≠ .off ∧
          (sh.pattern = .steady ∨ sh.phase % 2 = 0))) := by
    cases (s.ind.lamps.get n).mode with
    | stream => cases (s.ind.lamps.get n).shown <;> simp [lit_iff]
    | _ => simp
  unfold State.lampOutput
  dsimp only
  rw [← hmode]
  cases s.ind.forceOn <;> cases s.ind.forceOff <;> simp <;> rfl

theorem nextPhase_of_none {l : Lamp} (h : l.shown = none) (n : LampIdx) : l.nextPhase n = l := by
  simp only [Lamp.nextPhase, h]

theorem nextPhase_of_constant {l : Lamp} {sh : Shown} (h : l.shown = some sh) (hp : sh.pattern.phases = 0)
    (n : LampIdx) : l.nextPhase n = l := by
  simp only [Lamp.nextPhase, h, hp, if_true]

theorem nextPhase_of_phases {l : Lamp} {sh : Shown} (h : l.shown = some sh) (hp : sh.pattern.phases ≠ 0)
    (n : LampIdx) : l.nextPhase n = { l with shown := some ⟨sh.pattern, (sh.phase + 1) % sh.pattern.phases,
      phaseLength n sh.pattern ((sh.phase + 1) % sh.pattern.phases)⟩ } := by
  simp only [Lamp.nextPhase, h, if_neg hp]

theorem exec_lampPhaseEnd_of_same {n : LampIdx} (h : (s.ind.lamps.get n).nextPhase n = s.ind.lamps.get n) :
    exec (.lampPhaseEnd n) s = .next s := by
  show Host.Outcome.next (s.putInd { s.ind with lamps := s.ind.lamps.set n ((s.ind.lamps.get n).nextPhase n) }) = _
  rw [h, Tbl.set_get_self]
  rfl

/-- The phases of a pattern that changes: four for the double flash, else two. -/
theorem phases_of_changing {p : LampPattern} (hoff : p ≠ .off) (hst : p ≠ .steady) :
    p.phases = if p = .doubleFlash then 4 else 2 := by
  cases p with
  | off => exact absurd rfl hoff
  | steady => exact absurd rfl hst
  | doubleFlash => rfl
  | _ => simp [LampPattern.phases]

theorem phaseLength_doubleFlash (n : LampIdx) {ph : Nat} (h : ph < 4) :
    phaseLength n .doubleFlash ph = [100, 150, 100, 1650].getD ph 0 := by
  interval_cases ph <;> rfl

theorem phaseLength_flashSlow (n : LampIdx) {ph : Nat} (h : ph < 2) :
    phaseLength n .flashSlow ph = [100, 900].getD ph 0 := by
  interval_cases ph <;> rfl

theorem phaseLength_flashFast (n : LampIdx) {ph : Nat} (h : ph < 2) :
    phaseLength n .flashFast ph = [100, 150].getD ph 0 := by
  interval_cases ph <;> rfl

/-- Half a period of 3 Hz is 166 or 167 ms (log 15). -/
theorem phaseLength_blink3 (n : LampIdx) (ph : Nat) :
    phaseLength n (.blink 3) ph = 166 ∨ phaseLength n (.blink 3) ph = 167 := by
  have hlt := (Config.blink3HalfExtra n.val ph).isLt
  simp only [phaseLength, if_true]
  omega

theorem get_refreshLamps (s : State) (n : LampIdx) :
    (refreshLamps s).ind.lamps.get n = refreshLamp s n (s.ind.lamps.get n) := Tbl.get_ofIndex _ _

/-- What lamp `l'` shows when its pattern, chosen anew from `l`, is `p` (R177). -/
def Lamp.ShowsAnew (l l' : Lamp) (p : LampPattern) : Prop :=
  (∃ sh, l'.shown = some sh ∧ sh.pattern = p ∧ ((∀ o, l.shown = some o → o.pattern ≠ p) → sh.phase = 0)) ∧
    (∀ o, l.shown = some o → o.pattern = p → l' = l)

theorem refreshLamp_of_stream {l : Lamp} {p : LampPattern} (h : l.mode = .stream) (hp : patternFor s l.assigned = p)
    (n : LampIdx) : l.ShowsAnew (refreshLamp s n l) p := by
  subst hp
  cases hs : l.shown with
  | none =>
    simp only [refreshLamp, h, hs]
    exact ⟨⟨_, rfl, rfl, fun _ => rfl⟩, fun o ho => by rw [hs] at ho; cases ho⟩
  | some o =>
    simp only [refreshLamp, h, hs]
    split
    next hsame => exact ⟨⟨o, hs, hsame, fun hno => absurd hsame (hno o hs)⟩, fun _ _ _ => rfl⟩
    next hdiff =>
      refine ⟨⟨_, rfl, rfl, fun _ => rfl⟩, fun o' ho' hsame => ?_⟩
      rw [hs] at ho'
      cases ho'
      exact absurd hsame hdiff

/-- Settles O59. -/
theorem lampCommandsAndPatterns : Obligations.LampCommandsAndPatterns := by
  refine ⟨⟨fun q a s hs => ?_, fun q target setting s hs => ?_, fun s n => ?_⟩, fun s n => ?_⟩
  · intro c
    refine ⟨fun h => ?_, fun n hn => ?_⟩
    · refine request_of_refuse (owner := ownLampMode) (a := a) _ q hs ?_
      have h8 : 8 ≤ a.target := by omega
      simp only [ownLampMode, idx?_of_le h8]
    · intro l shows
      have hrefuse : ∀ {o}, ownLampMode a s = .refuse o → exec c s = answeredWith c q o s :=
        request_of_refuse (owner := ownLampMode) _ q hs
      have hdone : ∀ {f}, ownLampMode a s = .done f → exec c s = answeredDone c q (f s) :=
        request_of_done (owner := ownLampMode) _ q hs
      have hother : ∀ m, m ≠ .stream → lampMode? a.setting = some m → shows m l.assigned := fun m hne hm => by
        obtain ⟨o, ho⟩ := ownLampMode_of_not_stream hn hm hne s
        exact (hdone ho).trans (by rw [setLamp_of_not_stream hne])
      refine ⟨fun h => hrefuse ?_, fun h => ⟨fun k hk hgt => hrefuse ?_, fun i hi => ?_, fun hi => ?_⟩,
        fun h => hother .alert nofun (by rw [h]; rfl), fun h => hother .on nofun (by rw [h]; rfl),
        fun h => hother .off nofun (by rw [h]; rfl)⟩
      · simp only [ownLampMode, ← hn, idx?_val, lampMode?_of_gt h]
      · have hm : lampMode? a.setting = some .stream := by rw [h]; rfl
        simp only [ownLampMode_of_mode hn hm, hk, idx?_of_le hgt, if_true]
      · have hm : lampMode? a.setting = some .stream := by rw [h]; rfl
        refine hdone (f := setLamp n .stream (some i)) ?_
        simp only [ownLampMode_of_mode hn hm, hi, idx?_val]
      · have hm : lampMode? a.setting = some .stream := by rw [h]; rfl
        refine hdone (f := setLamp n .stream none) ?_
        simp only [ownLampMode_of_mode hn hm, hi]
  · intro c
    have hdone : ∀ {f}, ownLampForce ⟨target, setting⟩ s = .done f → exec c s = answeredDone c q (f s) :=
      request_of_done (owner := ownLampForce) (a := ⟨target, setting⟩) _ q hs
    refine ⟨fun h => ?_, fun h => ?_⟩
    · refine request_of_refuse (owner := ownLampForce) (a := ⟨target, setting⟩) _ q hs ?_
      simp only [ownLampForce]
      rw [if_neg (by omega), if_neg (by omega)]
    · obtain rfl | rfl : setting = 0 ∨ setting = 1 := by omega
      · exact hdone (f := setForce target false) rfl
      · exact hdone (f := setForce target true) rfl
  · intro l
    refine ⟨lampOutput_iff s n, fun h => exec_lampPhaseEnd_of_same (nextPhase_of_none h n), fun sh h hp => ?_,
      fun sh h hoff hst => ⟨phaseLength n sh.pattern ((sh.phase + 1) % if sh.pattern = .doubleFlash then 4 else 2),
        ?_, fun hp => ?_, fun hp => ?_, fun hp => ?_, fun hz hp hne => ?_, fun hp => ?_⟩⟩
    · refine exec_lampPhaseEnd_of_same (nextPhase_of_constant h ?_ n)
      obtain hp | hp := hp <;> rw [hp] <;> rfl
    · have hph := phases_of_changing hoff hst
      have hnz : sh.pattern.phases ≠ 0 := by rw [hph]; split <;> decide
      rw [← hph]
      show Host.Outcome.next (s.putInd { s.ind with lamps := s.ind.lamps.set n (l.nextPhase n) }) = _
      rw [nextPhase_of_phases h hnz]
      rfl
    · rw [hp]
      exact phaseLength_doubleFlash n (Nat.mod_lt _ (by decide))
    · rw [hp]
      exact phaseLength_flashSlow n (Nat.mod_lt _ (by decide))
    · rw [hp]
      exact phaseLength_flashFast n (Nat.mod_lt _ (by decide))
    · rw [hp]
      exact if_neg hne
    · rw [hp]
      exact phaseLength_blink3 n _
  · intro l l' x shows
    have hl' : l' = refreshLamp s n l := get_refreshLamps s n
    obtain ⟨hmode, hass⟩ := refreshLamp_mode s n l
    have hshows : ∀ {p}, l.mode = .stream → patternFor s l.assigned = p → shows p := fun hm hp => by
      have h := refreshLamp_of_stream hm hp n
      rw [← hl'] at h
      exact h
    refine ⟨hl' ▸ hmode, hl' ▸ hass, fun hm => ⟨fun hx => hshows hm ?_, fun hx => hshows hm ?_, fun hx => hshows hm ?_,
      fun hx => hshows hm ?_, fun r y j k hx hr hy hj hk => ⟨fun hlt => hshows hm ?_, fun hle => hshows hm ?_⟩⟩⟩
    · simp only [patternFor, show (s.stream l.assigned).state = _ from hx]
    · simp only [patternFor, show (s.stream l.assigned).state = _ from hx]
    · simp only [patternFor, show (s.stream l.assigned).state = _ from hx]
    · simp only [patternFor, show (s.stream l.assigned).state = _ from hx]
    · have hlev : routeBinLevels s l.assigned = some (j, k.preStage) := by
        simp only [routeBinLevels, show (s.stream l.assigned).activeRoute = _ from hr, hy, hj, hk]
      simp only [patternFor, show (s.stream l.assigned).state = _ from hx, hlev, if_pos hlt]
    · have hlev : routeBinLevels s l.assigned = some (j, k.preStage) := by
        simp only [routeBinLevels, show (s.stream l.assigned).activeRoute = _ from hr, hy, hj, hk]
      simp only [patternFor, show (s.stream l.assigned).state = _ from hx, hlev, if_neg (Nat.not_lt.mpr hle)]
      rfl

end Sys2Proof.Machine
end

section
/-! RESTART and the end of its interval (R15, R42, R49, R104, R128, R144, R168, R169). -/

namespace Sys2Proof.Machine

variable {s t u : State} {g j : SegIdx} {b : BinIdx} {x : Segment}

/-! ## A walk over all the records of a table -/

/-- A walk that changes each record from that record alone leaves every record changed once. -/
theorem forEach_get {n : Nat} {α : Type} {f : Fin n → State → State} {get : State → Fin n → α} {F : Fin n → α → α}
    (hself : ∀ i s, get (f i s) i = F i (get s i)) (hne : ∀ i j s, j ≠ i → get (f i s) j = get s j) (s : State)
    (i : Fin n) : get (forEach f s) i = F i (get s i) := by
  have hwalk : ∀ (l : List (Fin n)), l.Nodup → ∀ s, get (l.foldl (fun s i => f i s) s) i =
      if i ∈ l then F i (get s i) else get s i := by
    intro l hl
    induction l with
    | nil => intro s; simp
    | cons a l ih =>
      intro s
      obtain ⟨ha, hl⟩ := List.nodup_cons.mp hl
      rw [List.foldl_cons, ih hl]
      by_cases hia : i = a
      · subst hia; simp [ha, hself]
      · simp [hia, hne a i s hia]
  rw [forEach, hwalk _ (List.nodup_finRange n), if_pos (List.mem_finRange i)]

/-- What no stage of a walk changes, the walk does not change. -/
theorem forEach_same {n : Nat} {α : Type} {f : Fin n → State → State} {get : State → α}
    (h : ∀ i s, get (f i s) = get s) (s : State) : get (forEach f s) = get s :=
  Kept.forEach (P := fun u => get u = get s) f (fun i u hu => (h i u).trans hu) s rfl

/-! ## A flush begun, as its segment sees it (R98, R99) -/

/-- The record of a segment in its full flush (R98). -/
def Segment.flushing (x : Segment) : Segment :=
  { x.unreserved with state := .flushing, unflushed := true, flush := some x.flushMs }

/-- The record of a segment that has become FREE (R91, R99). -/
def Segment.freed (x : Segment) : Segment :=
  { x.unreserved with state := .free, owner := none, unflushed := false, flush := none, travel := none }

/-- The record of a GATE that has begun to close (R101). -/
def Segment.closed (x : Segment) : Segment :=
  { x.unreserved with state := .closing, commanded := some 0, flush := none, travel := some x.travelMs }

/-- The record of a segment whose flush has begun, one of 0 ms having ended (R98, R99). -/
def Segment.flushed (x : Segment) : Segment :=
  if x.flushMs = 0 then (if x.gateBin = none then x.flushing.freed else x.flushing.closed) else x.flushing

theorem seg_freeSeg (g j : SegIdx) (s : State) : (freeSeg g s).seg j = if g = j then (s.seg g).freed else s.seg j := by
  exact seg_changeSeg g j _ s

theorem seg_beginClosing (g j : SegIdx) (s : State) :
    (beginClosing g s).seg j = if g = j then (s.seg g).closed else s.seg j := by
  unfold beginClosing
  rw [(BinsMoved.sendSet _ _ _).seg, seg_changeSeg]
  rfl

theorem seg_endFlush (g j : SegIdx) (s : State) : (endFlush g s).seg j =
    if g = j then (if (s.seg g).gateBin = none then (s.seg g).freed else (s.seg g).closed) else s.seg j := by
  unfold endFlush
  dsimp only
  cases hb : (s.seg g).gateBin with
  | none => exact (seg_freeSeg g j (s.emit (.endOfFlush g))).trans (by simp)
  | some b => exact (seg_beginClosing g j (s.emit (.endOfFlush g))).trans (by simp)

theorem seg_beginFlush (g j : SegIdx) (s : State) :
    (beginFlush g s).seg j = if g = j then (s.seg g).flushed else s.seg j := by
  have hflushing : ∀ j, (changeSeg g (s.seg g).flushing s).seg j = if g = j then (s.seg g).flushing else s.seg j :=
    fun j => seg_changeSeg g j _ s
  have hgate : (s.seg g).flushing.gateBin = (s.seg g).gateBin := rfl
  have hdef : beginFlush g s = if (s.seg g).flushMs = 0 then endFlush g (changeSeg g (s.seg g).flushing s)
      else changeSeg g (s.seg g).flushing s := rfl
  rw [hdef]
  unfold Segment.flushed
  split
  · rw [seg_endFlush, hflushing, if_pos rfl, hgate, hflushing]
    split <;> rfl
  · exact hflushing j

theorem seg_restartSeg (g j : SegIdx) (s : State) : (restartSeg g s).seg j = if g = j then
    (if (s.seg g).state = .free then s.seg g else ({ s.seg g with travel := none } : Segment).flushed)
    else s.seg j := by
  unfold restartSeg
  dsimp only
  split
  · split
    next h => rw [h]
    · rfl
  · rw [seg_beginFlush, State.seg_putSeg, if_pos rfl]
    split
    · rfl
    next h => rw [State.seg_putSeg, if_neg h]

theorem SegsMoved.restartSeg (g : SegIdx) (s : State) : SegsMoved s (restartSeg g s) := by
  unfold Machine.restartSeg
  dsimp only
  split
  · exact refl s
  · exact (putSeg _ _ _).trans (beginFlush _ _)

/-! ## A bin whose polls began again, through the flush of its gate (R132, R144) -/

/-- `x` is `x₀` with its polls begun again at once, and otherwise as it stood but for state, levels and gate marks. -/
structure Bin.PolledAfresh (x₀ x : Bin) : Prop where
  misses : x.misses = 0
  outstanding : x.pollOutstanding = false
  reply : x.replyTimer = none
  config : x.config = x₀.config
  gaugeState : x.gaugeState = x₀.gaugeState
  gaugeLevel : x.gaugeLevel = x₀.gaugeLevel
  fill : x.fill = x₀.fill
  cls : x.cls = x₀.cls
  service : x.state = .outOfService ↔ x₀.state = .outOfService
  timer : x.Polled → x.pollTimer = some 0

theorem Bin.PolledAfresh.polled_iff {x₀ x : Bin} (h : x₀.PolledAfresh x) : x.Polled ↔ x₀.Polled := by
  unfold Bin.Polled
  rw [h.config, ne_eq, h.service]

/-- Another state in or out of service as before, other levels and other gate marks leave a bin polled afresh. -/
theorem Bin.PolledAfresh.changed {x₀ x y : Bin} (h : x₀.PolledAfresh x)
    (hy : y = { x with state := y.state, estimate := y.estimate, judged := y.judged, nearFull := y.nearFull
                       gateCarrying := y.gateCarrying, gateReserved := y.gateReserved })
    (hst : y.state = .outOfService ↔ x.state = .outOfService) : x₀.PolledAfresh y := by
  generalize y.state = st, y.estimate = e, y.judged = lv, y.nearFull = nf, y.gateCarrying = c,
    y.gateReserved = r at hy hst
  subst hy
  exact ⟨h.misses, h.outstanding, h.reply, h.config, h.gaugeState, h.gaugeLevel, h.fill, h.cls, hst.trans h.service,
    fun hp => h.timer ⟨hp.1, fun hx => hp.2 (hst.mpr hx)⟩⟩

/-- The period that follows such a change leaves the poll timer at 0. -/
theorem Bin.PolledAfresh.repoll {x₀ x y : Bin} (hx : x₀.PolledAfresh x) (hy : x₀.PolledAfresh y) :
    x₀.PolledAfresh (Bin.repoll x.period y) := by
  by_cases hp : x₀.Polled
  · obtain ⟨p, hold⟩ := period_isSome_iff.mpr (hx.polled_iff.mpr hp)
    obtain ⟨p', hnew⟩ := period_isSome_iff.mpr (hy.polled_iff.mpr hp)
    simp only [Bin.repoll, hold, hnew]
    split
    · exact hy
    · refine ⟨hy.misses, hy.outstanding, hy.reply, hy.config, hy.gaugeState, hy.gaugeLevel, hy.fill, hy.cls, hy.service,
        fun hq => ?_⟩
      rw [hy.timer (hy.polled_iff.mpr hp)]
      rfl
  · have hold := period_of_not_polled (mt hx.polled_iff.mp hp)
    have hnew := period_of_not_polled (mt hy.polled_iff.mp hp)
    simpa only [Bin.repoll, hold, hnew] using hy

theorem Bin.PolledAfresh.withState {x₀ x : Bin} (h : x₀.PolledAfresh x) {st : BinState}
    (hst : st = .outOfService ↔ x.state = .outOfService) : x₀.PolledAfresh (x.withState st) :=
  h.repoll (h.changed rfl hst)

theorem Bin.PolledAfresh.formLevels {x₀ x : Bin} (h : x₀.PolledAfresh x) (k : BinConfig) :
    x₀.PolledAfresh (x.formLevels k) := h.repoll (h.changed rfl Iff.rfl)

theorem judgedState_outOfService (x : Bin) (k : BinConfig) :
    x.judgedState k = .outOfService ↔ x.state = .outOfService := by
  unfold Bin.judgedState
  dsimp only
  cases x.state with
  | available => simp only []; split <;> simp
  | filling => simp only []; split <;> simp
  | full => simp only []; split <;> (try split) <;> simp
  | outOfService => simp

theorem Bin.PolledAfresh.afterJudgement {x₀ x : Bin} (h : x₀.PolledAfresh x) (k : BinConfig) :
    x₀.PolledAfresh (x.afterJudgement k) := by
  unfold Bin.afterJudgement
  split
  · exact h.formLevels k
  · exact (h.formLevels k).withState (by rw [judgedState_outOfService, formLevels_state])

/-- Every bin of `s` is as in `s₀` with its polls begun again. -/
def BinsPolledAfresh (s₀ s : State) : Prop := ∀ b, (s₀.bin b).PolledAfresh (s.bin b)

namespace BinsPolledAfresh

variable {s₀ : State}

theorem putBin (h : BinsPolledAfresh s₀ s) {x : Bin} (hx : (s₀.bin b).PolledAfresh x) :
    BinsPolledAfresh s₀ (s.putBin b x) := fun c => by
  rw [State.bin_putBin]
  split
  next hb => exact hb ▸ hx
  · exact h c

theorem judgeBin (h : BinsPolledAfresh s₀ s) (b : BinIdx) : BinsPolledAfresh s₀ (judgeBin b s) := fun c => by
  cases hk : (s.bin b).config with
  | none => rw [judgeBin_of_not_config hk]; exact h c
  | some k =>
    by_cases hc : c = b
    · subst hc; rw [bin_judgeBin_self hk]; exact (h c).afterJudgement k
    · rw [bin_judgeBin_other hc]; exact h c

/-- A gate that changes to another state than FREE leaves fills and classes, since no emptiness test follows. -/
theorem gateChanged (h : BinsPolledAfresh s₀ s) (b : BinIdx) {st : SegState} (hst : st ≠ .free) :
    BinsPolledAfresh s₀ (gateChanged b st s) := by
  have hmarks : (s₀.bin b).PolledAfresh ((s.bin b).withGate st) := (h b).changed rfl Iff.rfl
  have hto : ∀ {st'}, st' ≠ .outOfService → (s.bin b).state ≠ .outOfService →
      (s₀.bin b).PolledAfresh (((s.bin b).withGate st).withState st') :=
    fun hne hin => hmarks.withState ⟨fun he => absurd he hne, fun he => absurd he hin⟩
  unfold Machine.gateChanged
  dsimp only
  rw [if_neg hst]
  split
  next hc =>
    have havail : (s.bin b).state = .available := by simpa using (Bool.and_eq_true_iff.mp hc).2
    exact h.putBin (hto nofun (by rw [havail]; nofun))
  · split
    next hc =>
      have hfill : (s.bin b).state = .filling := by simpa using (Bool.and_eq_true_iff.mp hc).2
      have hput := h.putBin (hto (st' := .available) nofun (by rw [hfill]; nofun))
      exact BinsPolledAfresh.judgeBin (s := State.emit _ _) hput b
    · exact h.putBin hmarks

theorem changeSeg (h : BinsPolledAfresh s₀ s) (g : SegIdx) (hx : x.gateBin = none ∨ x.state ≠ .free) :
    BinsPolledAfresh s₀ (changeSeg g x s) := by
  unfold Machine.changeSeg
  dsimp only
  split
  next b hb =>
    split
    · exact h
    · obtain hx | hx := hx
      · rw [hb] at hx; cases hx
      · exact BinsPolledAfresh.gateChanged (s := s.putSeg g x) h b hx
  · exact h

theorem beginClosing (h : BinsPolledAfresh s₀ s) (g : SegIdx) : BinsPolledAfresh s₀ (beginClosing g s) := by
  have hc := h.changeSeg (x := (s.seg g).closed) g (Or.inr nofun)
  unfold Machine.beginClosing Machine.sendSet
  dsimp only
  split
  · exact hc
  · exact hc

theorem beginFlush (h : BinsPolledAfresh s₀ s) (g : SegIdx) : BinsPolledAfresh s₀ (beginFlush g s) := by
  have hf := h.changeSeg (x := (s.seg g).flushing) g (Or.inr nofun)
  unfold Machine.beginFlush
  dsimp only
  split
  · unfold Machine.endFlush
    dsimp only
    split
    · exact BinsPolledAfresh.beginClosing (s := State.emit _ _) hf g
    next hb => exact BinsPolledAfresh.changeSeg (s := State.emit _ _) hf g (Or.inl hb)
  · exact hf

theorem restartSeg (h : BinsPolledAfresh s₀ s) (g : SegIdx) : BinsPolledAfresh s₀ (restartSeg g s) := by
  unfold Machine.restartSeg
  dsimp only
  split
  · exact h
  · exact BinsPolledAfresh.beginFlush (s := s.putSeg g _) h g

end BinsPolledAfresh

theorem bin_restartBin (b c : BinIdx) (s : State) : (restartBin b s).bin c = if b = c then
    { s.bin b with pollOutstanding := false, replyTimer := none, misses := 0
                   pollTimer := (s.bin b).period.map fun _ => 0 } else s.bin c := State.bin_putBin ..

theorem binsPolledAfresh_restartBin (s : State) : BinsPolledAfresh s (forEach restartBin s) := fun b => by
  have hget := forEach_get (f := restartBin) (get := State.bin) (F := fun _ x => { x with
    pollOutstanding := false, replyTimer := none, misses := 0, pollTimer := x.period.map fun _ => 0 })
    (fun i s => (bin_restartBin i i s).trans (if_pos rfl))
    (fun i j s hj => (bin_restartBin i j s).trans (if_neg hj.symm)) s b
  rw [hget]
  exact ⟨rfl, rfl, rfl, rfl, rfl, rfl, rfl, rfl, Iff.rfl, fun hp => by
    rw [period_of_polled (x := s.bin b) hp]; rfl⟩

/-! ## The streams at the end of the interval (R49) -/

/-- A stream's record at rest after the interval: configuration and accounts kept (R49). -/
def Stream.rested (x : Stream) : Stream :=
  { x with
    state := .idle, reasons := HoldSet.none, fromIdle := false, noBinLot := none, faulted := IdxSet.empty 64
    currentLot := none, activeRoute := none, last := none, fedAtLast := false, lastLookup := none, demand := false
    silence := none, permit := none, drain := none, suspect := none }

theorem restartStream_eq (i : StreamIdx) (s : State) : restartStream i s = refreshLamps
    ((if (s.stream i).state = .feeding then sendPermit i false s else s).putStream i (s.stream i).rested) := by
  unfold restartStream State.modStream
  split
  · rw [(sendPermit_moved i false s).segsMoved.stream]; rfl
  · rfl

theorem stream_restartStream (i j : StreamIdx) (s : State) :
    (restartStream i s).stream j = if i = j then (s.stream i).rested else s.stream j := by
  rw [restartStream_eq, stream_refreshLamps, State.stream_putStream]
  split
  · rfl
  · split
    · exact (sendPermit_moved i false s).segsMoved.stream j
    · rfl

/-- Beside the record, the end of the interval for a stream changes the Loop and the lamps only. -/
theorem restartStream_frame (i : StreamIdx) (s : State) : restartStream i s = { s with
    loop := (restartStream i s).loop, streams := (restartStream i s).streams
    ind := { s.ind with lamps := (restartStream i s).ind.lamps } } := by
  rw [restartStream_eq]
  split
  · unfold sendPermit
    split <;> rfl
  · rfl

/-! ## The lots at the end of the interval (R15) -/

section Lots

variable {k : LotIdx} {l : Lot}

/-- Whether the lot at `k` is CLOSING. -/
def closingAt (s : State) (k : LotIdx) : Bool :=
  match s.lotAt k with
  | some m => decide (m.state = .closing)
  | none => false

/-- The CLOSING lots below table index `m`. -/
def closingBelow (s : State) (m : Nat) : List LotIdx :=
  (List.finRange 32).filter fun j => decide (j.val < m) && closingAt s j

theorem length_filter_eq_sum {α : Type} (p : α → Bool) (l : List α) :
    (l.filter p).length = (l.map fun a => (p a).toNat).sum := by
  induction l with
  | nil => rfl
  | cons a l ih => cases h : p a <;> simp [h, ih, Nat.add_comm]

theorem length_closingBelow_succ (s : State) (k : LotIdx) :
    (closingBelow s (k.val + 1)).length = (closingBelow s k.val).length + (closingAt s k).toNat := by
  rw [closingBelow, closingBelow, length_filter_eq_sum, length_filter_eq_sum]
  refine sum_finRange_add k ?_ fun j hj => ?_
  · simp
  · have hne : j.val ≠ k.val := Fin.val_ne_of_ne hj
    have hlt : decide (j.val < k.val + 1) = decide (j.val < k.val) := decide_eq_decide.mpr (by omega)
    rw [hlt]

/-- What the end of the interval makes of the lot at `k` that was `l`, `slot` slots being taken before it (R15). -/
def LotRested (u : State) (slot : Nat) (k : LotIdx) (l : Lot) : Prop :=
  (l.state = .planned ∨ l.state = .opened → u.lotAt k = some l) ∧
  (l.state = .discharging → u.lotAt k = some { l with state := .opened, attached := IdxSet.empty 8 }) ∧
  (l.state = .closing →
    (slot < 16 → u.lotAt k = none ∧ u.lot.outturn[slot]? = some ⟨l.number, l.cls, l.declared, l.certified,
      l.uncertified, l.used, l.bins, l.closeKind.getD .requested⟩) ∧
    (16 ≤ slot → u.lotAt k = some { l with attached := IdxSet.empty 8, outturnFullReported := true }))

/-- The lots below index `m` have taken the end of the interval, in table order, and the others have not. -/
structure LotsRestedBelow (s : State) (m : Nat) (u : State) : Prop where
  rest : ∀ k : LotIdx, m ≤ k.val → u.lotAt k = s.lotAt k
  outturn : ∃ more, u.lot.outturn = s.lot.outturn ++ more ∧
    more.length = min (16 - s.lot.outturn.length) (closingBelow s m).length
  done : ∀ k l, k.val < m → s.lotAt k = some l →
    LotRested u (s.lot.outturn.length + (closingBelow s k.val).length) k l

theorem LotRested.congr {v : State} {slot : Nat} (h : LotRested u slot k l) (hk : v.lotAt k = u.lotAt k)
    (ho : u.lot.outturn <+: v.lot.outturn) : LotRested v slot k l := by
  obtain ⟨hopen, hdis, hclose⟩ := h
  refine ⟨fun hst => hk.trans (hopen hst), fun hst => hk.trans (hdis hst), fun hst => ⟨fun hs => ?_, fun hs => ?_⟩⟩
  · obtain ⟨hnone, hsome⟩ := (hclose hst).1 hs
    refine ⟨hk.trans hnone, ?_⟩
    obtain ⟨more, ho⟩ := ho
    rw [← ho, List.getElem?_append_left (List.getElem?_eq_some_iff.mp hsome).1, hsome]
  · exact hk.trans ((hclose hst).2 hs)

theorem restartLot_frame (k : LotIdx) (s : State) : restartLot k s = { s with
    loop := (restartLot k s).loop, lot := (restartLot k s).lot, ind := (restartLot k s).ind } := by
  unfold restartLot
  split
  · rfl
  · split
    · rfl
    · rw [completionTest_frame]; rfl
    · rfl
    · rfl

theorem restartLot_of_none (h : s.lotAt k = none) : restartLot k s = s := by
  simp only [restartLot, h]

theorem restartLot_of_kept (hl : s.lotAt k = some l) (hst : l.state = .planned ∨ l.state = .opened) :
    restartLot k s = s := by
  obtain hst | hst := hst <;> simp only [restartLot, hl, hst]

theorem restartLot_of_discharging (hl : s.lotAt k = some l) (hst : l.state = .discharging) :
    restartLot k s = s.putLot k (some { l with state := .opened, attached := IdxSet.empty 8 }) := by
  simp only [restartLot, hl, hst]

theorem restartLot_of_closing (hl : s.lotAt k = some l) (hst : l.state = .closing) :
    restartLot k s = completionTest k (s.putLot k (some { l with attached := IdxSet.empty 8 })) := by
  simp only [restartLot, hl, hst]

theorem lotAt_completionTest_other {j : LotIdx} (hj : j ≠ k) (s : State) :
    (completionTest k s).lotAt j = s.lotAt j := by
  have hput : ∀ (v : State) y, (v.putLot k y).lotAt j = v.lotAt j := fun v y => by
    rw [State.lotAt_putLot, if_neg hj.symm]
  unfold completionTest
  split
  · rfl
  · split
    · split
      · rw [lotAt_raise, hput]; rfl
      · split
        · rfl
        · rw [lotAt_raise, hput]
    · rfl

theorem lotAt_restartLot_other {j : LotIdx} (hj : j ≠ k) (s : State) : (restartLot k s).lotAt j = s.lotAt j := by
  have hput : ∀ y, (s.putLot k y).lotAt j = s.lotAt j := fun y => by
    rw [State.lotAt_putLot, if_neg hj.symm]
  unfold restartLot
  split
  · rfl
  · split
    · exact hput _
    · rw [lotAt_completionTest_other hj, hput]
    · rfl
    · rfl

/-- One lot takes the end of the interval: its record, and the out-turn slot it takes. -/
theorem restartLot_rested {slot : Nat} (hl : u.lotAt k = some l) (hslot : slot < 16 → u.lot.outturn.length = slot)
    (hfull : 16 ≤ slot → 16 ≤ u.lot.outturn.length) : LotRested (restartLot k u) slot k l ∧
      ∃ more, (restartLot k u).lot.outturn = u.lot.outturn ++ more ∧
        more.length = if l.state = .closing ∧ u.lot.outturn.length < 16 then 1 else 0 := by
  have hkept : ∀ hst : l.state = .planned ∨ l.state = .opened, LotRested (restartLot k u) slot k l ∧
      ∃ more, (restartLot k u).lot.outturn = u.lot.outturn ++ more ∧
        more.length = if l.state = .closing ∧ u.lot.outturn.length < 16 then 1 else 0 := fun hst => by
    rw [restartLot_of_kept hl hst]
    refine ⟨⟨fun _ => hl, fun h => ?_, fun h => ?_⟩, [], by simp, ?_⟩
    · obtain hst | hst := hst <;> rw [hst] at h <;> cases h
    · obtain hst | hst := hst <;> rw [hst] at h <;> cases h
    · obtain hst | hst := hst <;> simp [hst]
  cases hst : l.state with
  | planned => rw [← hst]; exact hkept (Or.inl hst)
  | opened => rw [← hst]; exact hkept (Or.inr hst)
  | discharging =>
    rw [restartLot_of_discharging hl hst]
    refine ⟨⟨fun h => ?_, fun _ => by simp, fun h => by rw [hst] at h; cases h⟩, [], by simp, by simp⟩
    obtain h | h := h <;> rw [hst] at h <;> cases h
  | closing =>
    rw [restartLot_of_closing hl hst]
    have hput : (u.putLot k (some { l with attached := IdxSet.empty 8 })).lotAt k =
        some { l with attached := IdxSet.empty 8 } := by simp
    have hw : ({ l with attached := IdxSet.empty 8 } : Lot).waits := ⟨hst, IdxSet.isEmpty_empty 8⟩
    have hnot : ¬(l.state = .planned ∨ l.state = .opened) := by rw [hst]; rintro (h | h) <;> cases h
    have hdis : l.state ≠ .discharging := by rw [hst]; nofun
    by_cases hroom : u.lot.outturn.length < 16
    · rw [completionTest_of_room hput hw hroom]
      refine ⟨⟨fun h => absurd h hnot, fun h => absurd h hdis, fun _ => ⟨fun hs => ⟨by simp, ?_⟩, fun hs => ?_⟩⟩,
        [l.outturnRecord], ?_, ?_⟩
      · have hlen := hslot hs
        simp only [raise_lot, State.putLot, State.putOutturn]
        rw [List.getElem?_append_right (Nat.le_of_eq hlen), hlen, Nat.sub_self]
        rfl
      · exact absurd (hfull hs) (Nat.not_le.mpr hroom)
      · simp only [raise_lot, State.putLot, State.putOutturn]
        rfl
      · rw [if_pos ⟨rfl, hroom⟩]; rfl
    · have hfull' := Nat.not_lt.mp hroom
      have hlot : (completionTest k (u.putLot k (some { l with attached := IdxSet.empty 8 }))).lotAt k =
          some { l with attached := IdxSet.empty 8, outturnFullReported := true } ∧
          (completionTest k (u.putLot k (some { l with attached := IdxSet.empty 8 }))).lot.outturn =
            u.lot.outturn := by
        rw [completionTest_of_full hput hw hfull']
        split
        next h => exact ⟨by rw [hput]; exact congrArg some (by rw [← h]), rfl⟩
        · exact ⟨by simp, by simp [State.putLot]⟩
      refine ⟨⟨fun h => absurd h hnot, fun h => absurd h hdis, fun _ => ⟨fun hs => ?_, fun _ => hlot.1⟩⟩,
        [], by simp [hlot.2], ?_⟩
      · exact absurd (hslot hs ▸ hs) hroom
      · rw [if_neg fun h => hroom h.2]; rfl

theorem LotsRestedBelow.step (h : LotsRestedBelow s k.val u) : LotsRestedBelow s (k.val + 1) (restartLot k u) := by
  obtain ⟨more, ho, hmore⟩ := h.outturn
  have hlen : u.lot.outturn.length = s.lot.outturn.length +
      min (16 - s.lot.outturn.length) (closingBelow s k.val).length := by rw [ho, List.length_append, hmore]
  have hk : u.lotAt k = s.lotAt k := h.rest k le_rfl
  have hrest : ∀ j : LotIdx, k.val + 1 ≤ j.val → (restartLot k u).lotAt j = s.lotAt j := fun j hj => by
    rw [lotAt_restartLot_other (by rintro rfl; omega), h.rest j (by omega)]
  have hsucc := length_closingBelow_succ s k
  have hbelow : ∀ (j : LotIdx) l, j.val < k.val → s.lotAt j = some l → u.lot.outturn <+: (restartLot k u).lot.outturn →
      LotRested (restartLot k u) (s.lot.outturn.length + (closingBelow s j.val).length) j l := fun j l hj hl hpre =>
    (h.done j l hj hl).congr (lotAt_restartLot_other (by rintro rfl; omega) u) hpre
  cases hl : s.lotAt k with
  | none =>
    have hsame : restartLot k u = u := restartLot_of_none (hk.trans hl)
    have hno : (closingAt s k).toNat = 0 := by simp [closingAt, hl]
    refine ⟨hrest, ⟨more, by rw [hsame]; exact ho, by rw [hsucc, hno]; exact hmore⟩, fun j l hj hjl => ?_⟩
    have hne : j.val ≠ k.val := fun he => by
      rw [Fin.ext he, hl] at hjl; cases hjl
    exact hbelow j l (by omega) hjl (by rw [hsame])
  | some l =>
    obtain ⟨hrested, more', ho', hmore'⟩ := restartLot_rested (k := k)
      (slot := s.lot.outturn.length + (closingBelow s k.val).length) (hk.trans hl) (by omega) (by omega)
    have hyes : (closingAt s k).toNat = if l.state = .closing then 1 else 0 := by
      by_cases hst : l.state = .closing <;> simp [closingAt, hl, hst]
    refine ⟨hrest, ⟨more ++ more', by rw [ho', ho, List.append_assoc], ?_⟩, fun j l' hj hjl => ?_⟩
    · rw [List.length_append, hmore, hmore', hsucc, hyes]
      by_cases hst : l.state = .closing
      · simp only [hst, true_and, if_true]
        split <;> omega
      · simp only [hst, false_and, if_false]
        omega
    · by_cases he : j = k
      · subst he
        rw [hl] at hjl
        cases hjl
        exact hrested
      · have hne := Fin.val_ne_of_ne he
        exact hbelow j l' (by omega) hjl ⟨more', ho'.symm⟩

theorem lotsRestedBelow_forEach (s : State) : LotsRestedBelow s 32 (forEach restartLot s) := by
  have hwalk : ∀ m ≤ 32, LotsRestedBelow s m (((List.finRange 32).take m).foldl (fun v k => restartLot k v) s) := by
    intro m
    induction m with
    | zero =>
      intro _
      refine ⟨fun _ _ => rfl, ⟨[], by simp, ?_⟩, fun k l hk => absurd hk (Nat.not_lt_zero _)⟩
      simp [closingBelow]
    | succ m ih =>
      intro hm
      rw [List.take_add_one, List.foldl_append]
      have hget : (List.finRange 32)[m]? = some ⟨m, hm⟩ := by simp [show m < 32 from hm]
      rw [hget]
      exact LotsRestedBelow.step (k := ⟨m, hm⟩) (ih (by omega))
  have h := hwalk 32 le_rfl
  rwa [List.take_of_length_le (by simp)] at h

end Lots

/-! ## The whole end of the interval (R169) -/

theorem endUnlock_mgmt (c : AbortCause) (s : State) : (endUnlock c s).mgmt = { s.mgmt with unlock := none } := by
  have hcap : ∀ o, (endCapture o s).mgmt = s.mgmt ∨
      (endCapture o s).mgmt = { s.mgmt with unlock := none } := fun o => by
    cases h : s.tally.capture with
    | none => exact Or.inl (by simp only [endCapture, h])
    | some c => exact Or.inr (endCapture_unlock h o)
  unfold endUnlock
  split
  next h => rw [← h]
  · split
    · obtain h | h := hcap (.aborted c) <;> simp [State.putUnlock, h]
    · rfl

/-- The masks of the events are changed by nothing but SET_MASK (R172). -/
theorem kept_masks (m : Fin 18 → Bool) : Kept fun u => ∀ k, (u.ind.events.get k).mask = m k where
  reports _ _ _ := id
  stream _ _ _ _ := id
  report _ _ _ := id
  capture _ := id
  unlock _ := id
  lot _ _ _ _ _ _ := id
  complete _ _ _ _ _ _ := id
  seg _ _ _ _ := id
  bin _ _ _ _ := id
  queue _ _ := id
  staging _ _ _ := id
  place _ _ := id
  raise s e n h k := by
    rw [raise_events, Tbl.get_set]
    split
    next he => subst he; exact h _
    · exact h k
  lamps _ := id

/-- The tally accounts are changed by no end of a capture. -/
theorem kept_tallyAccounts (a : StreamIdx → TallyAccount) : Kept fun u => ∀ i, (u.tallyOf i).account = a i where
  reports _ _ _ := id
  stream _ _ _ _ := id
  report s j r h i := by
    rw [State.tallyOf_putTally]
    split
    next he => subst he; exact h _
    · exact h i
  capture _ := id
  unlock _ := id
  lot _ _ _ _ _ _ := id
  complete _ _ _ _ _ _ := id
  seg _ _ _ _ := id
  bin _ _ _ _ := id
  queue _ _ := id
  staging _ _ _ := id
  place _ _ := id
  raise s e n h i := by rw [tallyOf_raise]; exact h i
  lamps _ := id

theorem kept_holdMap (m : Tbl (Option HoldEntry) 48) : Kept fun u => u.lot.holdMap = m where
  reports _ _ _ := id
  stream _ _ _ _ := id
  report _ _ _ := id
  capture _ := id
  unlock _ := id
  lot _ _ _ _ _ _ := id
  complete _ _ _ _ _ _ := id
  seg _ _ _ _ := id
  bin _ _ _ _ := id
  queue _ _ := id
  staging _ _ _ := id
  place _ _ := id
  raise s e n h := by rw [raise_lot]; exact h
  lamps _ := id

/-- The lots, and then the allocator, at the end of the interval: everything but lots, queue, staging and what the lots'
completion raises stands. -/
theorem restartLots_frame (s : State) : forEach restartLot s = { s with
    loop := (forEach restartLot s).loop, lot := (forEach restartLot s).lot, ind := (forEach restartLot s).ind } :=
  Kept.forEach (P := fun u => u = { s with loop := u.loop, lot := u.lot, ind := u.ind }) restartLot
    (fun k u hu => by rw [restartLot_frame k u, hu]) s rfl

theorem restartStreams_frame (s : State) : forEach restartStream s = { s with
    loop := (forEach restartStream s).loop, streams := (forEach restartStream s).streams
    ind := { s.ind with lamps := (forEach restartStream s).ind.lamps } } :=
  Kept.forEach (P := fun u => u = { s with
      loop := u.loop, streams := u.streams, ind := { s.ind with lamps := u.ind.lamps } })
    restartStream (fun i u hu => by rw [restartStream_frame i u, hu]) s rfl

theorem restartBins_frame (s : State) : forEach restartBin s = { s with bins := (forEach restartBin s).bins } :=
  Kept.forEach (P := fun u => u = { s with bins := u.bins }) restartBin (fun b u hu => by
    show u.putBin _ _ = _
    rw [hu]; rfl) s rfl

theorem SegsMoved.restartSegs (s : State) : SegsMoved s (forEach Machine.restartSeg s) :=
  Kept.forEach (P := SegsMoved s) Machine.restartSeg (fun g _ hu => hu.trans (restartSeg g _)) s (refl s)

theorem lotAt_congr {k : LotIdx} (h : s.lot = t.lot) : s.lotAt k = t.lotAt k := by unfold State.lotAt; rw [h]

theorem bin_congr (h : s.bins = t.bins) : s.bin b = t.bin b := by unfold State.bin; rw [h]

theorem seg_congr (h : s.segs = t.segs) : s.seg g = t.seg g := by unfold State.seg; rw [h]

/-! ### Block by block -/

section Stages

variable {e st lo ak bn : State}

/-- The states the blocks leave one after the other at the end of the interval of `s`, `u` being the last (log 30). -/
structure RestartStages (s e st lo ak bn u : State) : Prop where
  ended : e = endUnlock .restart { s with mgmt := { s.mgmt with restartLeft := none } }
  streams : st = forEach restartStream e
  lots : lo = forEach restartLot st
  asked : ak = restartAllocator lo
  bins : bn = forEach restartBin ak
  segs : u = raise .restarted 0 (forEach restartSeg bn)

variable (h : RestartStages s e st lo ak bn u)

include h

namespace RestartStages

theorem ended_frame : e = { s with loop := e.loop, tally := e.tally
                                   mgmt := { s.mgmt with restartLeft := none, unlock := none }
                                   ind := e.ind } := by
  have hframe := endUnlock_frame (s := { s with mgmt := { s.mgmt with restartLeft := none } }) .restart
  have hmgmt := endUnlock_mgmt .restart { s with mgmt := { s.mgmt with restartLeft := none } }
  rw [← h.ended] at hframe hmgmt
  rw [hmgmt] at hframe
  exact hframe

theorem streams_frame : st = { e with
    loop := st.loop, streams := st.streams, ind := { e.ind with lamps := st.ind.lamps } } := by
  have hframe := restartStreams_frame e
  rwa [← h.streams] at hframe

theorem lots_frame : lo = { st with loop := lo.loop, lot := lo.lot, ind := lo.ind } := by
  have hframe := restartLots_frame st
  rwa [← h.lots] at hframe

theorem bins_frame : bn = { ak with bins := bn.bins } := by
  have hframe := restartBins_frame ak
  rwa [← h.bins] at hframe

theorem segsMoved : SegsMoved bn u := by
  rw [h.segs]
  exact (SegsMoved.restartSegs bn).trans (BinsMoved.raise .restarted 0 _).segsMoved

theorem mgmt : u.mgmt = { s.mgmt with restartLeft := none, unlock := none } := by
  rw [h.segsMoved.mgmt, h.bins_frame, h.asked]
  show lo.mgmt = _
  rw [h.lots_frame, h.streams_frame, h.ended_frame]

theorem tally : u.tally = e.tally := by
  rw [h.segsMoved.tally, h.bins_frame, h.asked]
  show lo.tally = _
  rw [h.lots_frame, h.streams_frame]

theorem lot : u.lot = lo.lot := by
  rw [h.segsMoved.lot, h.bins_frame, h.asked]
  rfl

theorem alloc : u.alloc = { s.alloc with queue := [], staging := Tbl.fill 8 none } := by
  rw [h.segsMoved.alloc, h.bins_frame, h.asked]
  show { lo.alloc with queue := [], staging := Tbl.fill 8 none } = _
  rw [h.lots_frame, h.streams_frame, h.ended_frame]

theorem stream (i : StreamIdx) : u.stream i = (s.stream i).rested := by
  have hrest : st.stream i = (e.stream i).rested := by
    rw [h.streams]
    exact forEach_get (f := restartStream) (get := State.stream) (F := fun _ => Stream.rested)
      (fun i s => (stream_restartStream i i s).trans (if_pos rfl))
      (fun i j s hj => (stream_restartStream i j s).trans (if_neg hj.symm)) e i
  have hlots : lo.stream i = st.stream i := by rw [h.lots_frame]; rfl
  rw [h.segsMoved.stream, h.bins_frame, h.asked]
  show lo.stream i = _
  rw [hlots, hrest, h.ended_frame]
  rfl

theorem seg (g : SegIdx) : u.seg g =
    if (s.seg g).state = .free then s.seg g else ({ s.seg g with travel := none } : Segment).flushed := by
  have hwalk := forEach_get (f := restartSeg) (get := State.seg)
    (F := fun _ x => if x.state = .free then x else ({ x with travel := none } : Segment).flushed)
    (fun i s => (seg_restartSeg i i s).trans (if_pos rfl))
    (fun i j s hj => (seg_restartSeg i j s).trans (if_neg hj.symm)) bn g
  have hseg : bn.seg g = s.seg g := by
    rw [h.bins_frame, h.asked]
    show lo.seg g = _
    rw [h.lots_frame, h.streams_frame, h.ended_frame]
    rfl
  rw [h.segs, seg_raise, hwalk, hseg]

theorem bin (b : BinIdx) : (s.bin b).PolledAfresh (u.bin b) := by
  have hasked : ∀ b, ak.bin b = s.bin b := fun b => by
    rw [h.asked]
    show lo.bin b = _
    rw [h.lots_frame, h.streams_frame, h.ended_frame]
    rfl
  have hpolled : BinsPolledAfresh s bn := fun b => by
    have hb := binsPolledAfresh_restartBin ak b
    rwa [hasked, ← h.bins] at hb
  have hwalk : BinsPolledAfresh s (forEach restartSeg bn) :=
    Kept.forEach (P := BinsPolledAfresh s) restartSeg (fun g _ hu => hu.restartSeg g) bn hpolled
  rw [h.segs, bin_raise]
  exact hwalk b

theorem lots_rested : LotsRestedBelow s 32 u := by
  have hst : st.lot = s.lot := by rw [h.streams_frame, h.ended_frame]
  have hat : ∀ k, st.lotAt k = s.lotAt k := fun k => lotAt_congr hst
  have hu : ∀ k, u.lotAt k = lo.lotAt k := fun k => lotAt_congr h.lot
  have hclosing : ∀ m, closingBelow st m = closingBelow s m := fun m => by
    unfold closingBelow closingAt
    simp only [hat]
  have hr := lotsRestedBelow_forEach st
  rw [← h.lots] at hr
  refine ⟨fun k hk => absurd k.isLt (Nat.not_lt.mpr hk), ?_, fun k l hk hl => ?_⟩
  · obtain ⟨more, ho, hlen⟩ := hr.outturn
    rw [hst, hclosing] at hlen
    exact ⟨more, by rw [h.lot, ho, hst], hlen⟩
  · have hk' := hr.done k l hk ((hat k).trans hl)
    rw [hst, hclosing] at hk'
    exact hk'.congr (hu k) (by rw [h.lot])

theorem restartBlocks_eq : restartBlocks s = u := by
  rw [h.segs, h.bins, h.asked, h.lots, h.streams, h.ended]
  rfl

/-- A property that reports keep, and that speaks of no stream, bin timer, queue or staging record, outlasts the end. -/
theorem kept {P : State → Prop} (hk : Kept P) (hstream : ∀ s i x, P s → P (s.putStream i x))
    (hbin : ∀ s b x, P s → P (s.putBin b x)) (halloc : ∀ s, P s → P (restartAllocator s))
    (hs : P { s with mgmt := { s.mgmt with restartLeft := none } }) : P u := by
  have he : P e := by
    rw [h.ended]
    exact hk.endUnlock _ _ hs
  have hst : P st := by
    rw [h.streams]
    refine Kept.forEach restartStream (fun i v hv => ?_) e he
    rw [restartStream_eq]
    refine hk.lamps _ (hstream _ _ _ ?_)
    split
    · unfold sendPermit
      split
      · exact hk.place _ _ hv
      · exact hv
    · exact hv
  have hlo : P lo := by
    rw [h.lots]
    refine Kept.forEach restartLot (fun k v hv => ?_) st hst
    cases hl : v.lotAt k with
    | none => rwa [restartLot_of_none hl]
    | some l =>
      cases hst : l.state with
      | planned => rwa [restartLot_of_kept hl (Or.inl hst)]
      | opened => rwa [restartLot_of_kept hl (Or.inr hst)]
      | discharging =>
        rw [restartLot_of_discharging hl hst]
        exact hk.lot v k l _ hl (by simp [Lot.account, hst]) hv
      | closing =>
        rw [restartLot_of_closing hl hst]
        exact hk.completionTest k _ (hk.lot v k l _ hl rfl hv)
  have hbn : P bn := by
    rw [h.bins]
    refine Kept.forEach restartBin (fun b v hv => hbin v b _ hv) ak ?_
    rw [h.asked]
    exact halloc lo hlo
  rw [h.segs]
  refine hk.raise _ _ _ (Kept.forEach restartSeg (fun g v hv => ?_) bn hbn)
  unfold restartSeg
  dsimp only
  split
  · exact hv
  · exact hk.beginFlush g _ (hk.seg v g _ rfl hv)

theorem masks : ∀ k, (u.ind.events.get k).mask = (s.ind.events.get k).mask :=
  h.kept (kept_masks _) (fun _ _ _ => id) (fun _ _ _ => id) (fun _ => id) fun _ => rfl

theorem tallyAccounts : ∀ i, (u.tallyOf i).account = (s.tallyOf i).account :=
  h.kept (kept_tallyAccounts _) (fun _ _ _ => id) (fun _ _ _ => id) (fun _ => id) fun _ => rfl

theorem holdMap : u.lot.holdMap = s.lot.holdMap :=
  h.kept (kept_holdMap _) (fun _ _ _ => id) (fun _ _ _ => id) (fun _ => id) rfl

end RestartStages

end Stages

/-- RESTART: the REPLY, then the interval (R168). -/
theorem exec_restart (q : Requester) (hs : s.mgmt.restartLeft = none) : exec (.restart q (some ())) s =
    .next (finishRequest (.restart q (some ())) (beginRestart (s.placeReply q .done []))) := by
  show execRestart q (some ()) s = _
  simp [execRestart, State.restarting, hs]

/-- Settles O60: each block's walk of its table changes each record once, and what later blocks leave alone is kept. -/
theorem restartAndItsEnd : Obligations.RestartAndItsEnd := by
  refine ⟨fun q s hs => ?_, fun s hs => ?_, fun s i => ?_, fun s hs => ?_⟩
  · intro c m begun
    have hrestart := exec_restart q hs
    refine ⟨fun h => ?_, fun h => ?_⟩
    · rw [hrestart, finishRequest_of_inHand (s := beginRestart (s.placeReply q .done [])) h]
      rfl
    · rw [hrestart, finishRequest_of_other (s := beginRestart (s.placeReply q .done [])) h]
      rfl
  · show Host.Outcome.next (if s.restarting then event restartBlocks s else s) = _
    simp [State.restarting, hs]
  · intro x rest
    refine ⟨fun hx => ?_, fun a r y n hx ha hr hy hn => ?_⟩
    · rw [restartStream_eq, if_neg hx]; rfl
    · have hbin : s.activeBin i = some y.bin := by
        simp [State.activeBin, State.routeBin, show (s.stream i).activeRoute = some r from hr, hy]
      have hsend : sendPermit i false s = s.place (.permit a i false y.bin n) := by
        simp only [sendPermit, show (s.stream i).config.unloader = some a from ha, hbin,
          show (s.stream i).currentLot = some n from hn]
      rw [restartStream_eq, if_pos hx, hsend]; rfl
  · intro ended
    have hended : ended = endUnlock .restart { s with mgmt := { s.mgmt with restartLeft := none } } := rfl
    clear_value ended
    intro streams
    have hstreams : streams = forEach restartStream ended := rfl
    clear_value streams
    intro lots
    have hlots : lots = forEach restartLot streams := rfl
    clear_value lots
    intro asked
    have hasked : asked = restartAllocator lots := rfl
    clear_value asked
    intro bins
    have hbins : bins = forEach restartBin asked := rfl
    clear_value bins
    have h : RestartStages s ended streams lots asked bins (raise .restarted 0 (forEach restartSeg bins)) :=
      ⟨hended, hstreams, hlots, hasked, hbins, rfl⟩
    have hexec : exec .restartIntervalEnd s = happens (raise .restarted 0 (forEach restartSeg bins)) := by
      show Host.Outcome.next (if s.restarting then event restartBlocks s else s) = _
      have hyes : s.restarting = true := by simpa [State.restarting, Option.isSome_iff_ne_none] using hs
      rw [if_pos hyes, event, h.restartBlocks_eq]
    have hmark : ((raise .restarted 0 (forEach restartSeg bins)).ind.events.get 1).flag = true :=
      congrArg EventRecord.flag (raise_get_self .restarted 0 (forEach restartSeg bins))
    refine ⟨_, hexec, rfl, ?_⟩
    generalize raise .restarted 0 (forEach restartSeg bins) = u at h hmark
    refine ⟨by rw [h.mgmt], by rw [h.mgmt], h.stream, by rw [h.alloc], fun i => ?_, by rw [h.alloc], fun g hg => ?_,
      fun g k hg hk hms => ?_, fun g k hg hk hms => ?_, fun k l hl => h.lots_rested.done k l k.isLt hl, ?_,
      fun c w hc hw hheld => ?_, fun b => ?_, h.tallyAccounts, h.holdMap, h.masks, hmark,
      by rw [h.mgmt], by rw [h.mgmt]⟩
    · show u.alloc.staging.get i = none
      rw [h.alloc]
      exact Tbl.get_fill none i
    · rw [h.seg, if_pos hg]
    · have hflush : ({ s.seg g with travel := none } : Segment).flushMs = k.flushTime * 100 := by
        simp only [Segment.flushMs, hk]
      rw [h.seg, if_neg hg, Segment.flushed, if_neg (by rw [hflush]; omega), Segment.flushing, hflush]
      rfl
    · have hflush : ({ s.seg g with travel := none } : Segment).flushMs = 0 := by
        simp only [Segment.flushMs, hk, hms]
      have hgate : ({ s.seg g with travel := none } : Segment).gateBin = (s.seg g).gateBin := rfl
      rw [h.seg, if_neg hg, Segment.flushed, if_pos hflush, hgate]
      split <;> rfl
    · obtain ⟨more, ho, -⟩ := h.lots_rested.outturn
      exact ⟨more, ho.symm⟩
    · have he : ended = endCapture (.aborted .restart) { s with mgmt := { s.mgmt with restartLeft := none } } :=
        hended.trans (endUnlock_of_held
          (s := { s with mgmt := { s.mgmt with restartLeft := none } }) hw hheld hc .restart)
      have htally : ∀ i, u.tallyOf i = ended.tallyOf i := fun i => by unfold State.tallyOf; rw [h.tally]
      refine ⟨?_, ?_⟩
      · rw [h.tally, he]
        exact endCapture_capture (s := { s with mgmt := { s.mgmt with restartLeft := none } }) hc _
      · rw [htally, he]
        exact endCapture_tallyOf_self (s := { s with mgmt := { s.mgmt with restartLeft := none } }) hc _
    · have hb := h.bin b
      refine ⟨hb.misses, hb.outstanding, hb.reply, hb.config, hb.gaugeState, hb.gaugeLevel, hb.fill, hb.cls,
        fun k hk hgauge hst => hb.timer (hb.polled_iff.mpr (polled_iff.mpr ⟨⟨k, hk, hgauge⟩, hst⟩))⟩

end Sys2Proof.Machine
end

section
/-! The segments' timers, the clearing of a fault, and the reports of faults, READY segments, ended flushes and
clearings (R38, R94 to R101, R117, R119). -/

namespace Sys2Proof.Machine

variable {s t u : State} {g : SegIdx} {i j : StreamIdx} {x : Segment}

/-! ## Travel and flush timers (R94, R99, R101) -/

theorem changeSeg_of_no_gate (h : x.gateBin = none) (g : SegIdx) (s : State) : changeSeg g x s = s.putSeg g x := by
  simp only [changeSeg, h]

/-- A record put first with the state it had makes no difference to the change that follows. -/
theorem changeSeg_putSeg {y : Segment} (h : y.state = (s.seg g).state) (x : Segment) :
    changeSeg g x (s.putSeg g y) = changeSeg g x s := by
  unfold changeSeg
  simp only [State.seg_putSeg, if_true, h, State.putSeg_putSeg]

theorem travelExpired_of_none (h : (s.seg g).travel = none) : travelExpired g s = s := by
  simp only [travelExpired, h]

theorem travelExpired_of_armed (h : (s.seg g).travel ≠ none)
    (hst : (s.seg g).state = .setting ∨ (s.seg g).state = .flushing ∨ (s.seg g).state = .closing) :
    travelExpired g s = faultSeg g s := by
  obtain ⟨ms, hms⟩ := Option.ne_none_iff_exists'.mp h
  obtain hst | hst | hst := hst <;> simp only [travelExpired, hms, hst]

theorem flushExpired_of_none (h : (s.seg g).flush = none) : flushExpired g s = s := by
  simp only [flushExpired, h]

theorem flushExpired_of_armed (h : (s.seg g).flush ≠ none) (hst : (s.seg g).state = .flushing) :
    flushExpired g s = endFlush g s := by
  obtain ⟨ms, hms⟩ := Option.ne_none_iff_exists'.mp h
  simp only [flushExpired, hms, hst, if_true]

theorem endFlush_of_no_gate (h : (s.seg g).gateBin = none) :
    endFlush g s = ((s.emit (.endOfFlush g)).putSeg g (s.seg g).freed).occasion := by
  have hfreed : (s.seg g).freed.gateBin = none := h
  have hend : endFlush g s = freeSeg g (s.emit (.endOfFlush g)) := by simp only [endFlush, h]
  rw [hend]
  exact congrArg State.occasion (changeSeg_of_no_gate hfreed g (s.emit (.endOfFlush g)))

theorem endFlush_of_gate {b : BinIdx} (h : (s.seg g).gateBin = some b) :
    endFlush g s = beginClosing g (s.emit (.endOfFlush g)) := by
  simp only [endFlush, h]

/-! ## The clearing of a fault (R97) -/

theorem exec_clearSegmentFault (q : Requester) (n : Option Nat) (s : State) :
    exec (.clearSegmentFault q n) s = request (.clearSegmentFault q n) q n ownClearFault s := by rfl

/-- The clearing of a fault: a reported position becomes the commanded one, and the full flush begins (R97, R98). -/
theorem clearFault_eq (g : SegIdx) (s : State) : clearFault g s =
    let y := { s.seg g with
      commanded := if (s.seg g).reported = none then (s.seg g).commanded else (s.seg g).reported }
    let flushing := changeSeg g y.flushing s
    (if (s.seg g).flushMs = 0 then endFlush g flushing else flushing).emit (.cleared g) := by
  have hy : (match (s.seg g).reported with | some p => { s.seg g with commanded := some p } | none => s.seg g) =
      { s.seg g with
        commanded := if (s.seg g).reported = none then (s.seg g).commanded else (s.seg g).reported } := by
    cases (s.seg g).reported <;> rfl
  have hdef : clearFault g s = (beginFlush g (s.putSeg g { s.seg g with
      commanded := if (s.seg g).reported = none then (s.seg g).commanded else (s.seg g).reported })).emit
        (.cleared g) := by rw [← hy]; rfl
  rw [hdef]
  generalize hc : (if (s.seg g).reported = none then (s.seg g).commanded else (s.seg g).reported) = c
  have hms : ({ s.seg g with commanded := c } : Segment).flushMs = (s.seg g).flushMs := rfl
  unfold beginFlush
  simp only [State.seg_putSeg_self]
  rw [hms]
  exact congrArg (fun v => State.emit (if (s.seg g).flushMs = 0 then endFlush g v else v) (.cleared g))
    (changeSeg_putSeg (s := s) (g := g) (y := { s.seg g with commanded := c }) rfl
      ({ s.seg g with commanded := c } : Segment).flushing)

/-! ## Steps on a route -/

theorem stepsOf_of_routeAt {r : RouteIdx} {y : Route} (h : s.routeAt r = some y) : s.stepsOf r = y.steps := by
  simp only [State.stepsOf, h]

theorem routeHas_iff (s : State) (r : RouteIdx) (g : SegIdx) : s.routeHas r g = true ↔
    ∃ y st, s.routeAt r = some y ∧ st ∈ y.steps ∧ st.segment = g := by
  unfold State.routeHas State.stepsOf
  cases s.routeAt r <;> simp

/-- Whether the route an entry names, if any, has a step on `g`. -/
def State.OnRoute (s : State) (g : SegIdx) (r : Option RouteIdx) : Prop :=
  ∃ k y st, r = some k ∧ s.routeAt k = some y ∧ st ∈ y.steps ∧ st.segment = g

theorem onRoute_some_iff {r : RouteIdx} : s.OnRoute g (some r) ↔ s.routeHas r g = true := by
  rw [routeHas_iff]
  constructor
  · rintro ⟨k, y, st, hk, h⟩
    cases hk
    exact ⟨y, st, h⟩
  · rintro ⟨y, st, h⟩
    exact ⟨r, y, st, rfl, h⟩

theorem activeHas_iff (s : State) (i : StreamIdx) (g : SegIdx) :
    s.activeHas i g = true ↔ s.OnRoute g (s.stream i).activeRoute := by
  unfold State.activeHas
  cases (s.stream i).activeRoute with
  | none => simp [State.OnRoute]
  | some r => exact onRoute_some_iff.symm

/-! ## A fault, as streams, requests and staging records take it (R38, R119) -/

theorem faultOnStream_of_on (hst : (s.stream i).state.timed = true) (hon : s.OnRoute g (s.stream i).activeRoute) :
    faultOnStream g i s = addReason i (.segment g)
      (if (s.stream i).state = .draining ∧ (s.stream i).config.intake = some g then
        s.putStream i { s.stream i with drain := none } else s) := by
  simp only [faultOnStream, hst, (activeHas_iff s i g).mpr hon, Bool.and_self, if_true]

theorem faultOnStream_of_off (h : ¬((s.stream i).state.timed = true ∧ s.OnRoute g (s.stream i).activeRoute)) :
    faultOnStream g i s = s := by
  rw [← activeHas_iff, ← Bool.and_eq_true] at h
  simp only [faultOnStream, h]
  rfl

theorem faultOnRequest_of_off {q : Request} (h : ¬(q.granted = true ∧ s.OnRoute g q.route)) :
    faultOnRequest g q s = s := by
  unfold faultOnRequest
  split
  next r hg hr =>
    rw [hr, onRoute_some_iff] at h
    exact if_neg fun hon => h ⟨hg, hon⟩
  · rfl

theorem faultOnRequest_of_on {q : Request} {k : RouteIdx} (hg : q.granted = true) (hr : q.route = some k)
    (hon : s.OnRoute g q.route) : faultOnRequest g q s = addReason q.stream (.segment g)
      ((releaseRoute q.stream k s).modRequest q.stream fun z => { z with granted := false }) := by
  rw [hr, onRoute_some_iff] at hon
  simp only [faultOnRequest, releaseGrant, hg, hr, hon, if_true]

theorem loseStaged_of_none (h : s.stagingOf i = none) (g : SegIdx) : loseStaged i g s = s := by
  simp only [loseStaged, h]

theorem loseStaged_of_some {z : Staging} (h : s.stagingOf i = some z) (g : SegIdx) :
    loseStaged i g s = s.putStaging i (some { z with staged := z.staged.erase g }) := by
  simp only [loseStaged, h]

/-! ## Reports of READY segments and of ended flushes (R38, R117) -/

/-- Routes stand through activations. -/
theorem enterFeeding_alloc (i : StreamIdx) (r : RouteIdx) (s : State) : (enterFeeding i r s).alloc = s.alloc := by
  have hp := (sendPermit_moved i true
    (refreshLamps (s.modStream i fun x => { x with state := .feeding, activeRoute := some r }))).segsMoved.alloc
  unfold enterFeeding permitFeed
  exact hp

theorem activate_routes (i : StreamIdx) (r : RouteIdx) (s : State) :
    (activate i r s).alloc.routes = s.alloc.routes := by
  have hfold : SegsMoved s ((s.stepsOf r).foldl (fun s st => activateSeg i st.segment s) s) :=
    Kept.foldl (P := SegsMoved s) _ (fun u st hu => hu.trans (SegsMoved.activateSeg i st.segment u)) _ s
      (SegsMoved.refl s)
  unfold activate
  have hroutes : ((s.stepsOf r).foldl (fun s st => activateSeg i st.segment s) s).alloc.routes = s.alloc.routes := by
    rw [hfold.alloc]
  rw [enterFeeding_alloc]
  exact hroutes

theorem tryActivate_routes (i : StreamIdx) (s : State) : (tryActivate i s).alloc.routes = s.alloc.routes := by
  unfold tryActivate
  split
  · rfl
  · split
    · split
      · exact activate_routes _ _ s
      · rfl
    · rfl

theorem routeAt_congr {r : RouteIdx} (h : s.alloc.routes = t.alloc.routes) : s.routeAt r = t.routeAt r := by
  unfold State.routeAt; rw [h]

/-- Whether the route an entry names, if any, has a step on `g`, as a test. -/
def State.onRouteTest (s : State) (g : SegIdx) (r : Option RouteIdx) : Bool :=
  match r.bind s.routeAt with
  | some y => y.steps.any fun st => st.segment == g
  | none => false

theorem onRouteTest_some (s : State) (g : SegIdx) (r : RouteIdx) : s.onRouteTest g (some r) = s.routeHas r g := by
  unfold State.onRouteTest State.routeHas State.stepsOf
  show (match s.routeAt r with | some y => y.steps.any fun st => st.segment == g | none => false) = _
  cases s.routeAt r <;> rfl

theorem routeHas_congr {r : RouteIdx} (h : s.alloc.routes = t.alloc.routes) : s.routeHas r g = t.routeHas r g := by
  unfold State.routeHas State.stepsOf
  rw [routeAt_congr h]

/-- The tests of a READY report are those of the state it is taken in, since activations change no route. -/
theorem segmentReady_eq (g : SegIdx) (s : State) : segmentReady g s =
    (s.alloc.queue.filter fun q => s.onRouteTest g q.route).foldl (fun u q => tryActivate q.stream u) s := by
  have hwalk : ∀ (l : List Request) (u : State), u.alloc.routes = s.alloc.routes → l.foldl (fun s q =>
      match q.route with
      | some r => if s.routeHas r g then tryActivate q.stream s else s
      | none => s) u = (l.filter fun q => s.onRouteTest g q.route).foldl (fun u q => tryActivate q.stream u) u := by
    intro l
    induction l with
    | nil => intro u _; rfl
    | cons q l ih =>
      intro u hu
      have hstep : (match q.route with | some r => if u.routeHas r g then tryActivate q.stream u else u | none => u) =
          if s.onRouteTest g q.route then tryActivate q.stream u else u := by
        cases q.route with
        | none => rfl
        | some r => simp only [onRouteTest_some, routeHas_congr hu]
      rw [List.foldl_cons, hstep, List.filter_cons]
      split
      · rw [List.foldl_cons, ih _ ((tryActivate_routes _ u).trans hu)]
      · exact ih u hu
  exact hwalk _ s rfl

/-- Whether stream `i` drains on the intake `g`. -/
abbrev DrainsOn (s : State) (g : SegIdx) (i : StreamIdx) : Prop :=
  (s.stream i).state = .draining ∧ (s.stream i).config.intake = some g

/-- The end of draining of stream `i` of `s`, in the state `u` (R38). -/
def drainedFrom (s : State) (i : StreamIdx) (u : State) : State :=
  exitTest i (u.putStream i { s.stream i with activeRoute := none, drain := none })

/-- Draining ends for each stream that drains on `g` as the report finds it, since the exit test of one leaves the
records of the others alone. -/
theorem flushEnded_eq (g : SegIdx) (s : State) : flushEnded g s =
    (List.finRange 8).foldl (fun u i => if DrainsOn s g i then drainedFrom s i u else u) s := by
  have hwalk : ∀ (l : List StreamIdx), l.Nodup → ∀ u : State, (∀ i ∈ l, u.stream i = s.stream i) →
      l.foldl (fun s i => if (s.stream i).state = .draining ∧ (s.stream i).config.intake = some g
        then endDraining i s else s) u = l.foldl (fun u i => if DrainsOn s g i then drainedFrom s i u else u) u := by
    intro l hl
    induction l with
    | nil => intro u _; rfl
    | cons i l ih =>
      intro u hu
      obtain ⟨hi, hl⟩ := List.nodup_cons.mp hl
      have hself := hu i (List.mem_cons_self ..)
      have hend : endDraining i u = drainedFrom s i u := by
        rw [endDraining, State.modStream, hself]
        rfl
      rw [List.foldl_cons, List.foldl_cons, hself, hend]
      refine ih hl _ fun j hj => ?_
      have hji : j ≠ i := fun h => hi (h ▸ hj)
      have huj := hu j (List.mem_cons_of_mem _ hj)
      split
      · rw [drainedFrom, (Placed.exitTest i _).stream_other hji, State.stream_putStream, if_neg hji.symm, huj]
      · exact huj
  exact hwalk _ (List.nodup_finRange 8) s fun _ _ => rfl

/-- A walk in which one member alone acts is that one act. -/
theorem foldl_of_only {α : Type} {p : α → Prop} [DecidablePred p] {f : State → α → State} {l : List α} (hl : l.Nodup)
    {a : α} (ha : a ∈ l) (hp : p a) (honly : ∀ b, b ≠ a → ¬p b) (s : State) :
    l.foldl (fun u b => if p b then f u b else u) s = f s a := by
  have hnone : ∀ (l : List α) u, a ∉ l → l.foldl (fun u b => if p b then f u b else u) u = u := by
    intro l
    induction l with
    | nil => intro u _; rfl
    | cons b l ih =>
      intro u hb
      rw [List.mem_cons, not_or] at hb
      rw [List.foldl_cons, if_neg (honly b (Ne.symm hb.1)), ih _ hb.2]
  induction l generalizing s with
  | nil => cases ha
  | cons b l ih =>
    obtain ⟨hb, hl⟩ := List.nodup_cons.mp hl
    rw [List.foldl_cons]
    by_cases hba : b = a
    · subst hba
      rw [if_pos hp, hnone l _ hb]
    · rw [if_neg (honly b hba)]
      exact ih hl (List.mem_of_ne_of_mem (Ne.symm hba) ha) s

theorem foldl_of_none {α : Type} {p : α → Prop} [DecidablePred p] {f : State → α → State} (l : List α)
    (h : ∀ b, ¬p b) (s : State) : l.foldl (fun u b => if p b then f u b else u) s = s := by
  induction l generalizing s with
  | nil => rfl
  | cons b l ih => rw [List.foldl_cons, if_neg (h b), ih]

theorem gateBin_of_gate {c : SegConfig} {a : Nat} {b : BinIdx} (hc : x.config = some c) (hk : c.kind = .gate a b) :
    x.gateBin = some b := by simp [Segment.gateBin, Segment.segKind, hc, hk, SegKind.bin]

theorem actuator_of_gate {c : SegConfig} {a : Nat} {b : BinIdx} (hc : x.config = some c) (hk : c.kind = .gate a b) :
    x.actuator = some a := by simp [Segment.actuator, Segment.segKind, hc, hk, SegKind.actuator]

theorem travelMs_of_config {c : SegConfig} (hc : x.config = some c) : x.travelMs = c.travelLimit * 1000 := by
  simp only [Segment.travelMs, hc]

theorem flushMs_of_config {c : SegConfig} (hc : x.config = some c) : x.flushMs = c.flushTime * 100 := by
  simp only [Segment.flushMs, hc]

/-- Settles O50. -/
theorem segmentTimersAndFaultClearing : Obligations.SegmentTimersAndFaultClearing := by
  refine ⟨fun s g => ?_, fun q n s hs => ?_, fun s g => ?_, fun s g i q => ?_, fun s g => ?_⟩
  · intro x bare
    have htravel : ∀ {u}, travelExpired g s = u → exec (.travelTimerExpiry g) s = happens u := fun h =>
      congrArg (fun v => Host.Outcome.next (settled v)) h
    have hflush : ∀ {u}, flushExpired g s = u → exec (.flushTimerExpiry g) s = happens u := fun h =>
      congrArg (fun v => Host.Outcome.next (settled v)) h
    refine ⟨fun ht => htravel (travelExpired_of_none ht), fun ht hst => htravel ?_,
      fun hf => hflush (flushExpired_of_none hf), fun hf hst hgate => hflush ?_, fun a b c hf hst hc hk => hflush ?_⟩
    · rw [travelExpired_of_armed ht hst]; rfl
    · rw [flushExpired_of_armed hf hst, endFlush_of_no_gate hgate]; rfl
    · have hact : ((s.emit (.endOfFlush g)).seg g).actuator = some a := actuator_of_gate (x := x) hc hk
      have hms : ((s.emit (.endOfFlush g)).seg g).travelMs = c.travelLimit * 1000 := travelMs_of_config (x := x) hc
      rw [flushExpired_of_armed hf hst, endFlush_of_gate (gateBin_of_gate hc hk)]
      simp only [beginClosing, sendSet, hact, hms]
      rfl
  · intro c
    refine ⟨fun hn => request_of_refuse (owner := ownClearFault) _ q hs (indexed_of_le _ hn), ?_⟩
    rintro g rfl
    intro x
    have hown : ownClearFault g.val s = if x.state = .fault then .done (clearFault g) else .refuse .badState :=
      indexed_val _ g
    refine ⟨fun hst => request_of_refuse (owner := ownClearFault) (a := g.val) _ q hs (hown.trans (if_neg hst)),
      fun k hst hk => ?_⟩
    intro flushing
    have hdone : exec c s = answeredDone c q (clearFault g s) :=
      request_of_done (f := clearFault g) (owner := ownClearFault) (a := g.val) _ q hs (hown.trans (if_pos hst))
    have hms : (s.seg g).flushMs = k.flushTime * 100 := flushMs_of_config (x := x) hk
    have hflushing : changeSeg g ({ s.seg g with commanded := if (s.seg g).reported = none then (s.seg g).commanded
        else (s.seg g).reported } : Segment).flushing s = flushing := by
      simp only [Segment.flushing, show ({ s.seg g with commanded := if (s.seg g).reported = none
        then (s.seg g).commanded else (s.seg g).reported } : Segment).flushMs = k.flushTime * 100 from hms]
      rfl
    have hclear := clearFault_eq g s
    dsimp only at hclear
    rw [hflushing, hms] at hclear
    refine ⟨fun hpos => ?_, fun hzero => ?_⟩
    · rw [hdone, hclear, if_neg (by omega)]
    · rw [hdone, hclear, if_pos (by omega)]
  · simp only [takeReport, segmentFaulted, forEach]
  · intro x on
    have htimed : ∀ st, x.state = st → st.timed = true → (s.stream i).state.timed = true := fun st h ht => h ▸ ht
    refine ⟨fun hst hon => ?_, fun hst hon => ⟨fun hin => ?_, fun hin => ?_⟩, fun h => ?_, faultOnRequest_of_off,
      fun k y hg hon hr hy => ?_, fun h => loseStaged_of_none h g, fun z h => loseStaged_of_some h g⟩
    · rw [faultOnStream_of_on (htimed _ hst rfl) hon, if_neg]
      rintro ⟨h, -⟩
      rw [show (s.stream i).state = .feeding from hst] at h
      cases h
    · rw [faultOnStream_of_on (htimed _ hst rfl) hon, if_pos ⟨hst, hin⟩]
    · rw [faultOnStream_of_on (htimed _ hst rfl) hon, if_neg fun h => hin h.2]
    · refine faultOnStream_of_off ?_
      rintro ⟨ht, hon⟩
      obtain h | h | h := h
      · rw [show (s.stream i).state = .idle from h] at ht; cases ht
      · rw [show (s.stream i).state = .held from h] at ht; cases ht
      · exact h hon
    · have hsteps : releaseRoute q.stream k s = y.steps.foldl (fun u st => releaseSeg q.stream st.segment u) s := by
        rw [releaseRoute, stepsOf_of_routeAt hy]
      rw [faultOnRequest_of_on hg hr hon, hsteps]
      rfl
  · intro on drains
    have hend : takeReport (.endOfFlush g) s =
        (List.finRange 8).foldl (fun u i => if DrainsOn s g i then drainedFrom s i u else u) s := flushEnded_eq g s
    refine ⟨segmentReady_eq g s, hend, fun hnone => ?_, fun i hi honly => ?_, rfl⟩
    · rw [hend]
      exact foldl_of_none (p := DrainsOn s g) _ hnone s
    · rw [hend]
      exact foldl_of_only (p := DrainsOn s g) (f := fun u i => drainedFrom s i u) (List.nodup_finRange 8)
        (List.mem_finRange i) hi honly s

end Sys2Proof.Machine
end

section
/-! The grant test, reservations, grants, activations, the requests that leave, and the evaluation pass
(R42, R88 to R90, R100, R111, R113 to R117, R128). -/

namespace Sys2Proof.Machine

variable {s t u : State} {g : SegIdx} {i j : StreamIdx} {x : Segment} {q : Request} {r : RouteIdx} {route : Route}

/-! ## The three ways a segment is open (R88, R89, R100, R113) -/

theorem isConveyor_iff (x : Segment) : x.isConveyor = true ↔ x.segKind = some .conveyor := by
  simp [Segment.isConveyor]

theorem commandedTo_iff (x : Segment) (p : Option Nat) :
    x.commandedTo p = true ↔ x.segKind = some .conveyor ∨ x.commanded = p := by
  simp [Segment.commandedTo, isConveyor_iff]

theorem openFree_iff (x : Segment) : x.openFree = true ↔ x.state = .free ∧ x.config ≠ none := by
  simp [Segment.openFree, Option.isSome_iff_ne_none]

/-- A segment that a claim may join (R89). -/
def Segment.Joins (x : Segment) (c : Claim) : Prop :=
  x.owner = some c.lot ∧ x.kind = some .active ∧ (x.state = .ready ∨ x.state = .carrying) ∧ x.underFlow = false ∧
    (x.segKind = some .conveyor ∨ x.commanded = c.position) ∧ x.holders.has c.stream = false ∧
    x.holders.card < x.shareLimit

/-- A segment that a claim may take again from its flush (R100). -/
def Segment.Retakes (x : Segment) (c : Claim) : Prop :=
  x.owner = some c.lot ∧ x.state = .flushing ∧ x.travel = none ∧
    (x.segKind = some .conveyor ∨ x.commanded = c.position)

theorem openJoin_iff (x : Segment) (c : Claim) : x.openJoin c = true ↔ x.Joins c := by
  simp only [Segment.openJoin, Segment.Joins, Bool.and_eq_true, decide_eq_true_eq, Bool.or_eq_true, Bool.not_eq_true',
    commandedTo_iff, and_assoc]

theorem openRetake_iff (x : Segment) (c : Claim) : x.openRetake c = true ↔ x.Retakes c := by
  simp only [Segment.openRetake, Segment.Retakes, Bool.and_eq_true, decide_eq_true_eq, Bool.not_eq_true',
    commandedTo_iff, and_assoc, Segment.travelPending, Bool.and_eq_false_iff, decide_eq_false_iff_not]
  refine and_congr_right fun _ => and_congr_right fun hst => and_congr_left fun _ => ?_
  rw [Option.isSome_eq_false_iff, Option.isNone_iff_eq_none]
  exact ⟨fun h => h.resolve_left (not_not_intro hst), Or.inr⟩

theorem openTo_iff (x : Segment) (c : Claim) :
    x.openTo c = true ↔ (x.state = .free ∧ x.config ≠ none) ∨ x.Joins c ∨ x.Retakes c := by
  rw [Segment.openTo, Bool.or_eq_true, Bool.or_eq_true, openFree_iff, openJoin_iff, openRetake_iff, or_assoc]

theorem Segment.Joins.not_free {c : Claim} (h : x.Joins c) : x.state ≠ .free := by
  obtain ⟨-, -, h | h, -⟩ := h <;> rw [h] <;> nofun

theorem Segment.Retakes.not_free {c : Claim} (h : x.Retakes c) : x.state ≠ .free := by
  rw [h.2.1]; nofun

theorem Segment.Retakes.not_joins {c : Claim} (h : x.Retakes c) : ¬x.Joins c := by
  rintro ⟨-, -, hst | hst, -⟩ <;> rw [h.2.1] at hst <;> cases hst

/-! ## Obstacles (R113) -/

theorem stepOpen_eq_false_iff {blocked : List SegIdx} {st : Step} : stepOpen s blocked q st = false ↔
    st.segment ∈ blocked ∨ (s.seg st.segment).openTo (q.claim st) = false := by
  simp only [stepOpen, Bool.and_eq_false_iff, Bool.not_eq_false', List.contains_iff_mem]

theorem mem_obstacles_iff {blocked : List SegIdx} (hr : s.routeAt r = some route) : g ∈ obstacles s blocked q r ↔
    ∃ st ∈ route.steps, st.segment = g ∧ (g ∈ blocked ∨ (s.seg g).openTo (q.claim st) = false) := by
  simp only [obstacles, stepsOf_of_routeAt hr, List.mem_map, List.mem_filter, Bool.not_eq_true', stepOpen_eq_false_iff]
  constructor
  · rintro ⟨st, ⟨hst, h⟩, rfl⟩
    exact ⟨st, hst, rfl, h⟩
  · rintro ⟨st, hst, rfl, h⟩
    exact ⟨st, ⟨hst, h⟩, rfl⟩

/-! ## The turn of a request (R113, R114) -/

theorem stagedForOther_iff (x : Segment) (n : Nat) :
    x.stagedForOther n = true ↔ x.kind = some .staged ∧ ∃ m, x.owner = some m ∧ m ≠ n := by
  unfold Segment.stagedForOther
  cases x.owner <;> simp

section TryGrant

variable {blocked : List SegIdx} {l : Lot}

theorem tryGrant_of_routed (hr : q.route = some r) (hl : s.findLot q.lot = some l) : tryGrant q blocked s =
    if (s.bin q.bin).usable l.cls then grantOrPreempt q r l blocked s else (s, blocked) := by
  simp only [tryGrant, hr, hl]

theorem tryGrant_of_absent (h : q.route = none ∨ s.findLot q.lot = none) : tryGrant q blocked s = (s, blocked) := by
  unfold tryGrant
  split
  next hr hl =>
    obtain h | h := h
    · rw [hr] at h; cases h
    · rw [hl] at h; cases h
  · rfl

theorem grantOrPreempt_of_clear (h : obstacles s blocked q r = []) :
    grantOrPreempt q r l blocked s = (grant q r l.cls s, blocked) := by
  simp [grantOrPreempt, h]

theorem grantOrPreempt_of_obstacles (h : obstacles s blocked q r ≠ []) : grantOrPreempt q r l blocked s =
    if (obstacles s blocked q r).all fun g => (s.seg g).stagedForOther q.lot then
      ((obstacles s blocked q r).foldl (fun s g => preemptSeg g s) s, blocked ++ obstacles s blocked q r)
    else (s, blocked) := by
  have hne : (obstacles s blocked q r).isEmpty = false := by simpa using h
  simp only [grantOrPreempt, hne]
  rfl

end TryGrant

theorem toList_single (i : StreamIdx) : (IdxSet.single i : IdxSet 8).toList = [i] := by
  revert i
  decide

/-! ## Reservations (R88, R89, R100) -/

section Reserve

variable {k : ResKind} {c : Claim}

theorem reserve_of_free (h : (s.seg g).state = .free) (hc : (s.seg g).config ≠ none) :
    reserve g k c s = reserveFree g k c s := if_pos ((openFree_iff _).mpr ⟨h, hc⟩)

theorem reserve_of_joins (hk : k = .active) (h : (s.seg g).Joins c) :
    reserve g k c s = s.putSeg g { s.seg g with holders := (s.seg g).holders.insert c.stream } := by
  have hfree : ¬(s.seg g).openFree = true := fun hf => h.not_free ((openFree_iff _).mp hf).1
  refine (if_neg hfree).trans (if_pos ?_)
  rw [Bool.and_eq_true, decide_eq_true_eq, openJoin_iff]
  exact ⟨hk, h⟩

theorem reserve_of_retakes (hk : k = .active) (h : (s.seg g).Retakes c) : reserve g k c s =
    reportReady g ((changeSeg g { s.seg g with state := .ready, kind := some .active, holders := IdxSet.single c.stream
                                               flush := none } s).emit (.endOfFlush g)) := by
  have hfree : ¬(s.seg g).openFree = true := fun hf => h.not_free ((openFree_iff _).mp hf).1
  refine (if_neg hfree).trans ((if_neg ?_).trans (if_pos ?_))
  · rw [Bool.and_eq_true, decide_eq_true_eq, openJoin_iff]
    exact fun hj => h.not_joins hj.2
  · rw [Bool.and_eq_true, decide_eq_true_eq, openRetake_iff]
    exact ⟨hk, h⟩

theorem reserve_of_closed (hfree : ¬((s.seg g).state = .free ∧ (s.seg g).config ≠ none))
    (h : ¬(k = .active ∧ ((s.seg g).Joins c ∨ (s.seg g).Retakes c))) : reserve g k c s = s := by
  refine (if_neg (mt (openFree_iff _).mp hfree)).trans ((if_neg ?_).trans (if_neg ?_))
  · rw [Bool.and_eq_true, decide_eq_true_eq, openJoin_iff]
    exact fun hj => h ⟨hj.1, Or.inl hj.2⟩
  · rw [Bool.and_eq_true, decide_eq_true_eq, openRetake_iff]
    exact fun hj => h ⟨hj.1, Or.inr hj.2⟩

/-- The record of a FREE segment that a claim takes, but for state and position (R88). -/
def Segment.claimed (x : Segment) (k : ResKind) (c : Claim) : Segment :=
  { x with owner := some c.lot, kind := some k, holders := IdxSet.single c.stream, feeders := IdxSet.empty 8 }

theorem reserveFree_of_conveyor (h : (s.seg g).segKind = some .conveyor) : reserveFree g k c s =
    reportReady g (s.putSeg g { (s.seg g).claimed k c with state := .ready }) := by
  have hgate : ({ (s.seg g).claimed k c with state := .ready } : Segment).gateBin = none := by
    show (s.seg g).segKind.bind SegKind.bin = none
    rw [h]; rfl
  have hput := changeSeg_of_no_gate hgate g s
  have hconv : (s.seg g).isConveyor = true := (isConveyor_iff _).mpr h
  unfold reserveFree
  dsimp only
  split
  · exact congrArg (reportReady g) hput
  · rw [if_pos hconv]
    exact congrArg (reportReady g) hput

theorem reserveFree_of_actuator {p : Nat} (hconv : (s.seg g).segKind ≠ some .conveyor) (hp : c.position = some p) :
    reserveFree g k c s = if (s.seg g).reported = some p then
      reportReady g (changeSeg g { (s.seg g).claimed k c with state := .ready, commanded := some p } s)
    else sendSet (s.seg g) p (changeSeg g { (s.seg g).claimed k c with
      state := .setting, commanded := some p, travel := some (s.seg g).travelMs } s) := by
  have hno : ¬(s.seg g).isConveyor = true := mt (isConveyor_iff _).mp hconv
  simp only [reserveFree, hp]
  rw [if_neg hno]
  rfl

end Reserve

/-! ## Grants and activations (R90, R116, R117) -/

theorem setClass_eq (b : BinIdx) (cls : Nat) (s : State) : setClass b cls s =
    if (s.bin b).cls = none then (s.putBin b { s.bin b with cls := some cls }).emit (.bin b) else s := by
  unfold setClass
  cases (s.bin b).cls <;> rfl

section Activation

/-- The record of a segment activated for stream `i` (R90). -/
def Segment.activated (x : Segment) (i : StreamIdx) : Segment :=
  { x with kind := some .active, state := .carrying, feeders := x.feeders.insert i }

theorem seg_activateSeg (i : StreamIdx) (g j : SegIdx) (s : State) :
    (activateSeg i g s).seg j = if g = j then (s.seg g).activated i else s.seg j := seg_changeSeg g j _ s

theorem insert_insert_self {n : Nat} (S : IdxSet n) (i : Fin n) : (S.insert i).insert i = S.insert i := by
  unfold IdxSet.insert
  simp

theorem activated_activated (x : Segment) (i : StreamIdx) : (x.activated i).activated i = x.activated i := by
  simp [Segment.activated, insert_insert_self]

/-- Every segment of a list of steps is activated, the others stand. -/
theorem seg_activateSteps (i : StreamIdx) (l : List Step) (j : SegIdx) (s : State) :
    (l.foldl (fun s st => activateSeg i st.segment s) s).seg j =
      if ∃ st ∈ l, st.segment = j then (s.seg j).activated i else s.seg j := by
  induction l generalizing s with
  | nil => simp
  | cons st l ih =>
    rw [List.foldl_cons, ih, seg_activateSeg]
    by_cases hst : st.segment = j
    · subst hst
      simp [activated_activated]
    · simp [hst]

theorem gateChanged_carrying_loop (b : BinIdx) (s : State) : (gateChanged b .carrying s).loop = s.loop := by
  unfold gateChanged
  simp only [Bin.withGate]
  rw [if_neg nofun]
  split
  · rfl
  · split
    next h => simp at h
    · rfl

/-- An activation sends nothing: its gate takes the flow, and no judgement follows. -/
theorem activateSeg_loop (i : StreamIdx) (g : SegIdx) (s : State) : (activateSeg i g s).loop = s.loop := by
  unfold activateSeg changeSeg
  dsimp only
  split
  · split
    · rfl
    · exact gateChanged_carrying_loop _ _
  · rfl

theorem activateSteps_loop (i : StreamIdx) (l : List Step) (s : State) :
    (l.foldl (fun s st => activateSeg i st.segment s) s).loop = s.loop :=
  Kept.foldl (P := fun u => u.loop = s.loop) _ (fun u st hu => (activateSeg_loop i st.segment u).trans hu) l s rfl

theorem canActivate_iff (hr : q.route = some r) (hroute : s.routeAt r = some route) : q.canActivate s = true ↔
    q.granted = true ∧ ∀ st ∈ route.steps, ((s.seg st.segment).state = .ready ∨ (s.seg st.segment).state = .carrying) ∧
      (s.seg st.segment).holders.has q.stream = true := by
  cases hg : q.granted with
  | false => simp [Request.canActivate, hg]
  | true => simp [Request.canActivate, hg, hr, stepsOf_of_routeAt hroute]

theorem tryActivate_of_none (h : s.requestOf i = none) : tryActivate i s = s := by
  simp only [tryActivate, h]

theorem tryActivate_of_request (h : s.requestOf i = some q) (hr : q.route = some r) :
    tryActivate i s = if q.canActivate s then activate i r s else s := by
  simp only [tryActivate, h, hr]

/-- A stream that becomes FEEDING has its record so, and its first PERMIT sent (R35, R42). -/
theorem enterFeeding_spec (i : StreamIdx) (r : RouteIdx) (s : State) :
    ((enterFeeding i r s).stream i = { s.stream i with state := .feeding, activeRoute := some r, permit := some 500 }) ∧
    (∀ j, j ≠ i → (enterFeeding i r s).stream j = s.stream j) ∧
    (enterFeeding i r s).passDue = s.passDue ∧ (∀ g, (enterFeeding i r s).seg g = s.seg g) ∧
    (enterFeeding i r s).lot = s.lot ∧
    (∀ a n, (s.stream i).config.unloader = some a → (s.stream i).currentLot = some n → s.routeAt r = some route →
      (enterFeeding i r s).loop = (s.loop.enqueue (.permit a i true route.bin n)).choose) := by
  set v := refreshLamps (s.modStream i fun x => { x with state := .feeding, activeRoute := some r }) with hv
  have hself : v.stream i = { s.stream i with state := .feeding, activeRoute := some r } := by
    simp [hv, State.modStream]
  have hother : ∀ j, j ≠ i → v.stream j = s.stream j := fun j hj => by
    simp [hv, State.modStream, State.stream_putStream, hj.symm]
  have hmoved := sendPermit_moved i true v
  have hdef : enterFeeding i r s =
      (sendPermit i true v).modStream i fun x => { x with permit := some permitPeriod } := rfl
  refine ⟨?_, fun j hj => ?_, ?_, fun g => ?_, ?_, fun a n ha hn hroute => ?_⟩
  · rw [hdef]
    simp [State.modStream, hmoved.segsMoved.stream, hself, permitPeriod]
  · rw [hdef]
    simp [State.modStream, State.stream_putStream, hj.symm, hmoved.segsMoved.stream, hother j hj]
  · rw [hdef]
    have hpass : (sendPermit i true v).passDue = v.passDue := by
      unfold sendPermit
      split <;> rfl
    exact hpass
  · rw [hdef]
    exact hmoved.seg g
  · rw [hdef]
    exact hmoved.segsMoved.lot
  · have hbin : v.activeBin i = some route.bin := by
      have hr : v.routeAt r = some route := hroute
      simp [State.activeBin, State.routeBin, hself, hr]
    have hsend : sendPermit i true v = v.place (.permit a i true route.bin n) := by
      simp only [sendPermit, hself, ha, hbin, hn]
    rw [hdef, hsend]
    rfl

/-- What an activation leaves and what it sets (R42, R117). -/
theorem activate_spec (i : StreamIdx) (hroute : s.routeAt r = some route) :
    ((activate i r s).stream i = { s.stream i with state := .feeding, activeRoute := some r, permit := some 500 }) ∧
    (∀ j, j ≠ i → (activate i r s).stream j = s.stream j) ∧
    (activate i r s).alloc = { s.alloc with queue := s.alloc.queue.filter fun y => y.stream != i } ∧
    (activate i r s).passDue = true ∧
    (∀ g, (activate i r s).seg g = if ∃ st ∈ route.steps, st.segment = g then (s.seg g).activated i else s.seg g) ∧
    (activate i r s).lot = s.lot ∧
    (∀ a n, (s.stream i).config.unloader = some a → (s.stream i).currentLot = some n →
      (activate i r s).loop = (s.loop.enqueue (.permit a i true route.bin n)).choose) := by
  have hfold : SegsMoved s (route.steps.foldl (fun s st => activateSeg i st.segment s) s) :=
    Kept.foldl (P := SegsMoved s) _ (fun u st hu => hu.trans (SegsMoved.activateSeg i st.segment u)) _ s
      (SegsMoved.refl s)
  have hsegs := fun g => seg_activateSteps i route.steps g s
  have hloop := activateSteps_loop i route.steps s
  have hdef : activate i r s = enterFeeding i r
      (((route.steps.foldl (fun s st => activateSeg i st.segment s) s).dropRequest i).occasion) := by
    rw [activate, stepsOf_of_routeAt hroute]
  generalize route.steps.foldl (fun s st => activateSeg i st.segment s) s = w at hfold hsegs hloop hdef
  obtain ⟨hself, hother, hpass, hseg, hlot, hpermit⟩ :=
    enterFeeding_spec (route := route) i r ((w.dropRequest i).occasion)
  rw [← hdef] at hself hother hpass hseg hlot hpermit
  have hstream : ∀ j, ((w.dropRequest i).occasion).stream j = s.stream j := hfold.stream
  refine ⟨by rw [hself, hstream], fun j hj => by rw [hother j hj, hstream], ?_, hpass,
    fun g => (hseg g).trans (hsegs g),
    hlot.trans hfold.lot, fun a n ha hn => ?_⟩
  · rw [hdef, enterFeeding_alloc]
    show { w.alloc with queue := w.alloc.queue.filter fun y => y.stream != i } = _
    rw [hfold.alloc]
  · have hr : ((w.dropRequest i).occasion).routeAt r = some route := (hfold.routeAt r).trans hroute
    rw [hpermit a n (by rw [hstream]; exact ha) (by rw [hstream]; exact hn) hr]
    show (w.loop.enqueue _).choose = _
    rw [hloop]

end Activation

/-! ## A request that leaves (R111), and the pass (R115, R128) -/

theorem removeRequest_of_none (h : s.requestOf i = none) : removeRequest i s = s := by
  simp only [removeRequest, h]

theorem removeRequest_of_some (h : s.requestOf i = some q) :
    removeRequest i s = ((releaseGrant q s).dropRequest i).occasion := by
  simp only [removeRequest, h]

theorem releaseGrant_of_ungranted (h : q.granted = false ∨ q.route = none) : releaseGrant q s = s := by
  unfold releaseGrant
  split
  next hg hr =>
    obtain h | h := h
    · rw [hg] at h; cases h
    · rw [hr] at h; cases h
  · rfl

theorem releaseGrant_of_granted (hg : q.granted = true) (hr : q.route = some r) (hroute : s.routeAt r = some route) :
    releaseGrant q s = route.steps.foldl (fun u st => releaseSeg q.stream st.segment u) s := by
  simp only [releaseGrant, hg, hr, releaseRoute, stepsOf_of_routeAt hroute]

theorem routed_eq (s : State) (q : Request) :
    q.routed s = { q with route := if q.route = none then s.routeFor q.stream q.bin else q.route } := by
  cases h : q.route with
  | none => simp [Request.routed, h]
  | some r =>
    simp only [Request.routed, h, reduceCtorEq, if_false]
    rw [← h]

theorem evaluateRequest_of_none {blocked : List SegIdx} (h : s.requestOf i = none) :
    evaluateRequest i (s, blocked) = (s, blocked) := by
  simp only [evaluateRequest, h]

theorem evaluateRequest_of_some {blocked : List SegIdx} (h : s.requestOf i = some q) : evaluateRequest i (s, blocked) =
    if q.granted then (s, blocked)
    else tryGrant (q.routed s) blocked (s.modRequest i fun _ => q.routed s) := by
  simp only [evaluateRequest, h]

theorem passUnlessRestarting_eq (s : State) : passUnlessRestarting s =
    if s.mgmt.restartLeft = none then
      (List.finRange 8).foldl (fun u i => stagingCheck i u) (evaluateRequests { s with passDue := false })
    else { s with passDue := false } := by
  by_cases h : s.mgmt.restartLeft = none
  · rw [if_pos h]
    simp only [passUnlessRestarting, State.restarting, h, Option.isSome_none, Bool.false_eq_true, if_false]
    rfl
  · rw [if_neg h]
    simp only [passUnlessRestarting, State.restarting, Option.isSome_iff_ne_none.mpr h, if_true]

/-- Settles O53. -/
theorem grantTestAndReservation : Obligations.GrantTestAndReservation := by
  refine ⟨⟨fun x q st => openTo_iff x (q.claim st), fun s blocked q r route g hr => ⟨mem_obstacles_iff hr, ?_⟩,
    fun s blocked q r l => ⟨tryGrant_of_absent, fun hr hl => ?_⟩, fun s g i hi => ?_⟩, fun s g k c => ?_,
    fun s q r route cls hr => ?_, fun s i => ⟨tryActivate_of_none, fun q r route hq hr hroute => ?_⟩,
    fun s i => ⟨removeRequest_of_none, fun q hq => ?_⟩, fun s => ?_,
    fun s i blocked => ⟨evaluateRequest_of_none, fun q hq => ?_⟩⟩
  · rw [obstacles, stepsOf_of_routeAt hr]
    exact List.filter_sublist.map _
  · intro obs staged open1
    have hopen : open1 ↔ (s.bin q.bin).usable l.cls = true := by
      rw [Bin.usable_iff]
      exact ⟨fun ⟨⟨c, hc⟩, h⟩ => ⟨c, hc, h⟩, fun ⟨c, hc, h⟩ => ⟨⟨c, hc⟩, h⟩⟩
    have hall : (obs.all fun g => (s.seg g).stagedForOther q.lot) = true ↔ ∀ g ∈ obs, staged g := by
      simp only [List.all_eq_true, stagedForOther_iff]
      rfl
    have htry := tryGrant_of_routed (blocked := blocked) hr hl
    refine ⟨fun ho hobs => ?_, fun ho ⟨g, hg, hns⟩ => ?_, fun ho hobs hst => ?_, fun ho => ?_⟩
    · rw [htry, if_pos (hopen.mp ho), grantOrPreempt_of_clear hobs]
    · rw [htry, if_pos (hopen.mp ho), grantOrPreempt_of_obstacles (List.ne_nil_of_mem hg), if_neg]
      exact fun h => hns (hall.mp h g hg)
    · rw [htry, if_pos (hopen.mp ho), grantOrPreempt_of_obstacles hobs, if_pos (hall.mpr hst)]
    · rw [htry, if_neg (mt hopen.mpr ho)]
  · rw [preemptSeg, hi, toList_single]
    rfl
  · intro x held there joins retakes ready
    refine ⟨fun cfg hst hc hk => ?_, fun cfg a p hst hc ha hp => ?_, fun hst hc => ?_,
      fun hk hj => reserve_of_joins hk hj,
      fun hk hr => reserve_of_retakes hk hr, fun hst hno => reserve_of_closed (fun h => hst h.1) hno⟩
    · have hkind : x.segKind = some .conveyor := by simp [Segment.segKind, hc, hk]
      rw [reserve_of_free hst (by rw [hc]; nofun), reserveFree_of_conveyor hkind]
      rfl
    · have hconv : x.segKind ≠ some .conveyor := by
        intro h
        have hk : cfg.kind = .conveyor := by simpa [Segment.segKind, hc] using h
        rw [hk] at ha
        cases ha
      have hact : x.actuator = some a := by simp [Segment.actuator, Segment.segKind, hc, ha]
      have hres := (reserve_of_free (k := k) (c := c) hst (by rw [hc]; nofun)).trans (reserveFree_of_actuator hconv hp)
      refine ⟨fun hrep => ?_, fun hrep => ?_⟩
      · rw [hres, if_pos hrep]
        rfl
      · rw [hres, if_neg hrep]
        have hms : (s.seg g).travelMs = cfg.travelLimit * 1000 := travelMs_of_config (x := x) hc
        simp only [sendSet, show (s.seg g).actuator = some a from hact, hms]
        rfl
    · refine reserve_of_closed (fun h => h.2 hc) ?_
      rintro ⟨-, h | h⟩
      · exact h.not_free hst
      · exact h.not_free hst
  · intro x classed held
    have hclass : setClass q.bin cls s = classed := setClass_eq q.bin cls s
    simp only [grant, hclass, stepsOf_of_routeAt hr]
    rfl
  · intro carries ready
    have hact : q.canActivate s = true ↔ ready := by
      rw [canActivate_iff hr hroute, (requestOf_eq_some hq).1]
    have htry := tryActivate_of_request hq hr
    refine ⟨fun hno => ?_, fun hyes => ?_⟩
    · rw [htry, if_neg (mt hact.mp hno)]
    · rw [htry, if_pos (hact.mpr hyes)]
      obtain ⟨hself, hother, halloc, hpass, hseg, hlot, hloop⟩ := activate_spec i hroute
      refine ⟨hself, hother, halloc, hpass, fun g hg => ?_, fun g hg => ?_, hlot, hloop⟩
      · rw [hseg, if_pos hg]; rfl
      · rw [hseg, if_neg]
        rintro ⟨st, hst, he⟩
        exact hg st hst he
  · intro gone
    have hrem := removeRequest_of_some hq
    refine ⟨fun h => ?_, fun r route hg hr hroute => ?_⟩
    · rw [hrem, releaseGrant_of_ungranted h]; rfl
    · rw [hrem, releaseGrant_of_granted hg hr hroute, (requestOf_eq_some hq).1]; rfl
  · intro pass
    have hpass : passUnlessRestarting s = pass := passUnlessRestarting_eq s
    refine ⟨by rw [← hpass]; rfl, fun h => ?_, fun h => ?_, rfl⟩
    · rw [← hpass]
      simp only [takeReport, h, if_true]
    · simp only [takeReport, h]
      rfl
  · intro routed
    have heval := evaluateRequest_of_some (blocked := blocked) hq
    refine ⟨fun hg => heval.trans (if_pos hg), fun hg => ?_⟩
    have hrouted : q.routed s = routed := by
      simp only [routed_eq, routed, (requestOf_eq_some hq).1]
    rw [heval, if_neg (by simp [hg]), hrouted]
    rfl

end Sys2Proof.Machine
end

section
/-! The STAGED-HIT test, the changeover it decides, the report of a changed current bin, and the staging check
(R102, R103, R112, R120 to R126). -/

namespace Sys2Proof.Machine

variable {s : State} {i : StreamIdx} {r old new : RouteIdx} {r0 r1 : Route}

/-! ## The STAGED-HIT test (R102, R124) -/

/-- A flow-switch diverter that stream `i` alone feeds, and that stands elsewhere than at `p` (R102). -/
def Segment.Movable (x : Segment) (i : StreamIdx) (p : Option Nat) : Prop :=
  (∃ a, x.segKind = some (.diverter a true)) ∧ x.state = .carrying ∧ x.underFlow = false ∧
    x.holders = IdxSet.single i ∧ x.feeders = IdxSet.single i ∧ x.commanded ≠ p

theorem flowSwitch_iff (k : SegKind) : k.flowSwitch = true ↔ ∃ a, k = .diverter a true := by
  cases k <;> simp [SegKind.flowSwitch]

theorem canMoveUnderFlow_iff (x : Segment) (i : StreamIdx) (p : Option Nat) :
    x.canMoveUnderFlow i p = true ↔ x.Movable i p := by
  unfold Segment.canMoveUnderFlow Segment.Movable
  cases h : x.segKind with
  | none => simp
  | some k => simp [flowSwitch_iff, and_assoc]

theorem sameInRoute_iff (h : s.routeAt old = some r0) (st : Step) : sameInRoute s old st = true ↔
    ∃ o ∈ r0.steps, o.segment = st.segment ∧
      ((s.seg st.segment).segKind = some .conveyor ∨ o.position = st.position) := by
  simp [sameInRoute, stepsOf_of_routeAt h, isConveyor_iff]

theorem routeHas_of_routeAt (h : s.routeAt r = some r0) (g : SegIdx) :
    s.routeHas r g = true ↔ ∃ st ∈ r0.steps, st.segment = g := by
  simp [State.routeHas, stepsOf_of_routeAt h]

theorem stagedReady_iff (s : State) (i : StreamIdx) (b : BinIdx) (g : SegIdx) : stagedReady s i b g = true ↔
    ∃ y, s.stagingOf i = some y ∧ y.target = b ∧ y.staged.has g = true ∧ (s.seg g).state = .ready := by
  unfold stagedReady
  cases s.stagingOf i <;> simp [and_assoc]

theorem hitStep_iff (h : s.routeAt old = some r0) (b : BinIdx) (st : Step) : hitStep s i b old st = true ↔
    (∃ o ∈ r0.steps, o.segment = st.segment ∧
      ((s.seg st.segment).segKind = some .conveyor ∨ o.position = st.position)) ∨
    ((∃ o ∈ r0.steps, o.segment = st.segment) ∧ (s.seg st.segment).Movable i st.position) ∨
    ∃ y, s.stagingOf i = some y ∧ y.target = b ∧ y.staged.has st.segment = true ∧
      (s.seg st.segment).state = .ready := by
  simp only [hitStep, Bool.or_eq_true, Bool.and_eq_true, sameInRoute_iff h, routeHas_of_routeAt h,
    canMoveUnderFlow_iff, stagedReady_iff, or_assoc]

theorem stagedHit_iff (s : State) (i : StreamIdx) (b : BinIdx) : stagedHit s i b = some (old, new) ↔
    (s.stream i).activeRoute = some old ∧ s.routeFor i b = some new ∧
      ∀ st ∈ s.stepsOf new, hitStep s i b old st = true := by
  unfold stagedHit
  cases (s.stream i).activeRoute with
  | none => simp
  | some o =>
    cases s.routeFor i b with
    | none => simp
    | some r =>
      simp only [Option.ite_none_right_eq_some, List.all_eq_true, Option.some.injEq, Prod.mk.injEq]
      constructor
      · rintro ⟨hall, rfl, rfl⟩
        exact ⟨rfl, rfl, hall⟩
      · rintro ⟨rfl, rfl, hall⟩
        exact ⟨hall, rfl, rfl⟩

/-! ## The changeover of a hit (R102, R103, R125) -/

theorem sendPermit_of_present {feed : Bool} {a n : Nat} {b : BinIdx} (ha : (s.stream i).config.unloader = some a)
    (hr : (s.stream i).activeRoute = some r) (hroute : s.routeAt r = some r1) (hb : r1.bin = b)
    (hn : (s.stream i).currentLot = some n) : sendPermit i feed s = s.place (.permit a i feed b n) := by
  have hbin : s.activeBin i = some b := by
    simp [State.activeBin, State.routeBin, hr, hroute, hb]
  simp only [sendPermit, ha, hbin, hn]

theorem hitSegment_of_same {st : Step} (h : sameInRoute s old st = true) : hitSegment i old st s = s := by
  simp only [hitSegment, h, if_true]

theorem hitSegment_of_moved {st : Step} (h : ¬sameInRoute s old st = true) (hon : s.routeHas old st.segment = true) :
    hitSegment i old st s = moveUnderFlow i st.segment st.position s := by
  rw [hitSegment, if_neg h, if_pos hon]

theorem hitSegment_of_new {st : Step} (h : ¬sameInRoute s old st = true) (hon : ¬s.routeHas old st.segment = true) :
    hitSegment i old st s = takeStaged i st.segment s := by
  rw [hitSegment, if_neg h, if_neg hon]

theorem moveUnderFlow_of_movable {g : SegIdx} {c : SegConfig} {a p : Nat} (hc : (s.seg g).config = some c)
    (hk : c.kind = .diverter a true) (hm : (s.seg g).Movable i (some p)) :
    moveUnderFlow i g (some p) s = (s.putSeg g { s.seg g with
      commanded := some p, travel := some (c.travelLimit * 1000), state := .setting, underFlow := true }).place
        (.set a p) := by
  have hms : (s.seg g).travelMs = c.travelLimit * 1000 := travelMs_of_config hc
  have hact : (s.seg g).actuator = some a := by simp [Segment.actuator, Segment.segKind, hc, hk, SegKind.actuator]
  have hgate : (s.seg g).gateBin = none := by simp [Segment.gateBin, Segment.segKind, hc, hk, SegKind.bin]
  simp only [moveUnderFlow, (canMoveUnderFlow_iff _ _ _).mpr hm, if_true, sendSet, hact, hms]
  rw [changeSeg_of_no_gate]
  exact hgate

theorem moveUnderFlow_of_not_movable {g : SegIdx} {p : Option Nat} (h : ¬(s.seg g).Movable i p ∨ p = none) :
    moveUnderFlow i g p s = s := by
  cases p with
  | none => rfl
  | some q =>
    have hno : ¬(s.seg g).canMoveUnderFlow i (some q) = true := by
      rw [canMoveUnderFlow_iff]
      exact h.resolve_right nofun
    simp only [moveUnderFlow, if_neg hno]

theorem takeStaged_of_held {g : SegIdx} (h : (s.seg g).holders.has i = true) : takeStaged i g s =
    changeSeg g { s.seg g with
      kind := some .active, feeders := (s.seg g).feeders.insert i, state := .carrying } s := by
  simp only [takeStaged, h, if_true]

theorem takeStaged_of_not_held {g : SegIdx} (h : (s.seg g).holders.has i = false) : takeStaged i g s = s := by
  simp only [takeStaged, h, Bool.false_eq_true, if_false]

/-! ## The report of a changed current bin (R39, R112, R123) -/

theorem changeStream_of_not_feeding {n : Nat} {target : Option BinIdx}
    (h : ¬((s.stream i).state = .feeding ∧ (s.stream i).currentLot = some n)) : changeStream n target i s = s := by
  unfold changeStream
  rw [if_neg h]

theorem changeStream_of_no_bin {n : Nat} (h : (s.stream i).state = .feeding ∧ (s.stream i).currentLot = some n) :
    changeStream n none i s = addReason i (.noBin n) (raise .noBin i.val s) := by
  rw [changeStream, if_pos h]

theorem changeStream_of_hit {n : Nat} {b : BinIdx}
    (h : (s.stream i).state = .feeding ∧ (s.stream i).currentLot = some n)
    (hhit : stagedHit s i b = some (old, new)) : changeStream n (some b) i s = carryHit i old new s := by
  rw [changeStream, if_pos h]
  simp only [hhit]

theorem changeStream_of_miss {n : Nat} {b : BinIdx}
    (h : (s.stream i).state = .feeding ∧ (s.stream i).currentLot = some n)
    (hmiss : stagedHit s i b = none) :
    changeStream n (some b) i s = enterDraining i (raise .stageMiss i.val s) := by
  rw [changeStream, if_pos h]
  simp only [hmiss]

theorem takeReport_currentBin (n : Nat) (new : Option BinIdx) (s : State) :
    takeReport (.currentBin n new) s = currentBinChanged n new s := rfl

/-! ## The staging check (R120 to R122) -/

theorem activeBin_eq_some {b : BinIdx} : s.activeBin i = some b ↔
    ∃ r y, (s.stream i).activeRoute = some r ∧ s.routeAt r = some y ∧ y.bin = b := by
  simp [State.activeBin, State.routeBin, Option.bind_eq_some_iff]

theorem stagingTarget_iff (s : State) (i : StreamIdx) (b : BinIdx) : stagingTarget s i = some b ↔
    (s.stream i).state = .feeding ∧ ∃ n r y l, (s.stream i).currentLot = some n ∧
      (s.stream i).activeRoute = some r ∧ s.routeAt r = some y ∧ s.findLot n = some l ∧
      l.currentBin = some y.bin ∧ (s.bin y.bin).nearFull = true ∧ l.nextBin s = some b := by
  constructor
  · intro h
    simp only [stagingTarget] at h
    split at h
    next c hst hn hb =>
      obtain ⟨r, y, hr, hroute, rfl⟩ := activeBin_eq_some.mp hb
      split at h
      next l hl =>
        obtain ⟨hcond, hnext⟩ := Option.ite_none_right_eq_some.mp h
        obtain ⟨hcur, hfull⟩ := Bool.and_eq_true_iff.mp hcond
        exact ⟨hst, _, r, y, l, hn, hr, hroute, hl, of_decide_eq_true hcur, hfull, hnext⟩
      · cases h
    · cases h
  · rintro ⟨hst, n, r, y, l, hn, hr, hroute, hl, hcur, hfull, hnext⟩
    have hb : s.activeBin i = some y.bin := activeBin_eq_some.mpr ⟨r, y, hr, hroute, rfl⟩
    simp [stagingTarget, hst, hn, hb, hl, hcur, hfull, hnext]

theorem stagingCheck_of_not_feeding (h : (s.stream i).state ≠ .feeding) : stagingCheck i s = s := by
  rw [stagingCheck, if_neg h]

section Feeding
variable (h : (s.stream i).state = .feeding) {z : Staging}
include h

theorem stagingCheck_of_nothing (hz : s.stagingOf i = none) (ht : stagingTarget s i = none) : stagingCheck i s = s := by
  rw [stagingCheck, if_pos h]
  simp only [hz, ht]

theorem stagingCheck_of_new {b : BinIdx} (hz : s.stagingOf i = none) (ht : stagingTarget s i = some b) :
    stagingCheck i s = stageRecord i ⟨b, none, IdxSet.empty 64⟩ s := by
  rw [stagingCheck, if_pos h]
  simp only [hz, ht]

theorem stagingCheck_of_kept (hz : s.stagingOf i = some z) (ht : stagingTarget s i = some z.target) :
    stagingCheck i s = stageRecord i z s := by
  rw [stagingCheck, if_pos h]
  simp only [hz, ht, if_true]

theorem stagingCheck_of_dropped (hz : s.stagingOf i = some z) (ht : stagingTarget s i ≠ some z.target) :
    stagingCheck i s = dropStaging i s := by
  rw [stagingCheck, if_pos h]
  cases hb : stagingTarget s i with
  | none => simp only [hz]
  | some b =>
    have hne : z.target ≠ b := fun he => ht (by rw [hb, he])
    simp only [hz, if_neg hne]

end Feeding

theorem dropStaging_of_none (h : s.stagingOf i = none) : dropStaging i s = s := by
  simp only [dropStaging, h]

theorem dropStaging_of_some {z : Staging} (h : s.stagingOf i = some z) : dropStaging i s =
    ((z.staged.toList.foldl (fun u g => releaseSeg i g u) s).putStaging i none).occasion := by
  simp only [dropStaging, h]

/-- The record that a staging check begins with: an absent route is filled in from the table (R120). -/
def Staging.filled (s : State) (i : StreamIdx) (z : Staging) : Staging :=
  { z with route := if z.route = none then s.routeFor i z.target else z.route }

theorem stageRecord_eq (i : StreamIdx) (z : Staging) (s : State) : stageRecord i z s =
    match (z.filled s i).route, (s.stream i).currentLot with
    | some r, some n =>
      match s.findLot n with
      | some l => (s.stepsOf r).foldl (fun u st => stageStep i n l.cls st u) (s.putStaging i (some (z.filled s i)))
      | none => s.putStaging i (some (z.filled s i))
    | _, _ => s.putStaging i (some (z.filled s i)) := by
  unfold stageRecord Staging.filled
  cases z.route <;> rfl

theorem wantedByOther_iff (s : State) (n : Nat) (g : SegIdx) : wantedByOther s n g = true ↔
    ∃ q ∈ s.alloc.queue, q.lot ≠ n ∧ s.OnRoute g q.route := by
  simp only [wantedByOther, List.any_eq_true, Bool.and_eq_true, decide_eq_true_eq]
  refine exists_congr fun q => and_congr_right fun _ => and_congr_right fun _ => ?_
  cases q.route with
  | none => simp [State.OnRoute]
  | some r => exact onRoute_some_iff.symm

theorem stageable_iff (s : State) (i : StreamIdx) (n : Nat) (z : Staging) (g : SegIdx) : stageable s i n z g = true ↔
    ¬s.OnRoute g (s.stream i).activeRoute ∧ z.staged.has g = false ∧ (s.seg g).state = .free ∧
      (s.seg g).config ≠ none ∧ ∀ q ∈ s.alloc.queue, q.lot ≠ n → ¬s.OnRoute g q.route := by
  have hwant : (!wantedByOther s n g) = true ↔ ∀ q ∈ s.alloc.queue, q.lot ≠ n → ¬s.OnRoute g q.route := by
    rw [Bool.not_eq_true', ← Bool.not_eq_true, wantedByOther_iff]
    simp
  have hactive : (!s.activeHas i g) = true ↔ ¬s.OnRoute g (s.stream i).activeRoute := by
    rw [Bool.not_eq_true', ← Bool.not_eq_true, activeHas_iff]
  simp only [stageable, Bool.and_eq_true, hwant, hactive, openFree_iff, Bool.not_eq_true', and_assoc]

theorem stageStep_of_not_stageable {z : Staging} {n cls : Nat} {st : Step} (hz : s.stagingOf i = some z)
    (h : ¬stageable s i n z st.segment = true) : stageStep i n cls st s = s := by
  simp only [stageStep, hz, if_neg h]

theorem stageStep_of_stageable {z : Staging} {n cls : Nat} {st : Step} (hz : s.stagingOf i = some z)
    (h : stageable s i n z st.segment = true) : stageStep i n cls st s =
      (reserve st.segment .staged ⟨n, i, st.position⟩
        (if (s.seg st.segment).gateBin = none then s else setClass z.target cls s)).putStaging i
          (some { z with staged := z.staged.insert st.segment }) := by
  simp only [stageStep, hz, if_pos h]
  cases (s.seg st.segment).gateBin <;> rfl

/-- Settles O54. -/
theorem stagedHitTest : Obligations.StagedHitTest := by
  refine ⟨fun s i b old new r0 r1 h0 h1 => ?_, fun s i old new r0 r1 h0 h1 => ?_, fun s i g => ?_,
    fun s n new i => ?_, fun s q b => ?_, fun s i => ?_⟩
  · rw [stagedHit_iff, stepsOf_of_routeAt h1]
    simp only [hitStep_iff h0, Segment.Movable]
  · intro on left moved
    refine ⟨?_, fun a n ha hr hn => ?_, fun st => ?_⟩
    · have hleft : (s.stepsOf old).filter (fun o => !s.routeHas new o.segment) = left := by
        simp only [stepsOf_of_routeAt h0, State.routeHas, stepsOf_of_routeAt h1, left]
      simp only [carryHit, hleft, stepsOf_of_routeAt h1]
      rfl
    · simp only [permitFeed, sendPermit_of_present ha hr h1 rfl hn]
      rfl
    · intro x same
      have hsame : sameInRoute s old st = true ↔ same := sameInRoute_iff h0 st
      have hon : s.routeHas old st.segment = true ↔ on r0 st.segment := routeHas_of_routeAt h0 _
      refine ⟨fun h => hitSegment_of_same (hsame.mpr h),
        fun hs h => hitSegment_of_moved (mt hsame.mp hs) (hon.mpr h),
        fun h => hitSegment_of_new (fun hs => ?_) (mt hon.mp h)⟩
      obtain ⟨o, ho, hseg, -⟩ := hsame.mp hs
      exact h ⟨o, ho, hseg⟩
  · exact ⟨fun c a p hc hk h => moveUnderFlow_of_movable hc hk h, fun p h => moveUnderFlow_of_not_movable h,
      takeStaged_of_held, takeStaged_of_not_held⟩
  · intro x feeds changed asked aimed
    refine ⟨changeStream_of_not_feeding, fun h hn => ?_, fun b h hn => ?_, fun hn => ?_, fun hn => ?_, ?_⟩
    · rw [hn]
      exact changeStream_of_no_bin h
    · rw [hn]
      exact ⟨fun old r hhit => changeStream_of_hit h hhit, changeStream_of_miss h⟩
    · obtain ⟨b, rfl⟩ := Option.ne_none_iff_exists'.mp hn
      exact ⟨fun h => if_pos h, fun h => if_neg h⟩
    · rw [hn]
      exact ⟨fun h hl => if_pos ⟨h, hl⟩, fun h => if_neg h⟩
    · have hchanged : forEach (changeStream n new) s = changed := rfl
      have hasked : requestsOf changed n = asked := rfl
      clear_value changed
      have haimed : retargetLot n new changed = aimed := by
        rw [retargetLot, hasked]
        cases new <;> rfl
      clear_value aimed
      rw [takeReport_currentBin, currentBinChanged, hchanged, haimed, forEach]
  · intro aimed
    refine ⟨fun h => ?_, fun r route hg hr hroute => ?_⟩
    · rw [retarget, releaseGrant_of_ungranted h]
      rfl
    · rw [retarget, releaseGrant_of_granted hg hr hroute]
      rfl
  · intro x
    refine ⟨stagingTarget_iff s i, stagingCheck_of_not_feeding, fun h => ⟨stagingCheck_of_nothing h,
      fun b => stagingCheck_of_new h, fun z hz => ⟨stagingCheck_of_kept h hz, stagingCheck_of_dropped h hz⟩⟩,
      dropStaging_of_none, fun z => dropStaging_of_some, fun z => ?_, fun z n cls st hz => ?_⟩
    · intro route recorded
      have hroute : (z.filled s i).route = route := rfl
      refine ⟨fun h => ?_, fun r y n l h hr hn hl => ?_⟩
      · rw [stageRecord_eq, hroute, h]
        rfl
      · rw [stageRecord_eq, hroute, h]
        simp only [show (s.stream i).currentLot = some n from hn, hl, stepsOf_of_routeAt hr]
        rfl
    · intro g on apt classed
      have happ : stageable s i n z g = true ↔ apt := stageable_iff s i n z g
      exact ⟨fun h => stageStep_of_not_stageable hz (mt happ.mp h),
        fun h => stageStep_of_stageable hz (happ.mpr h)⟩

end Sys2Proof.Machine
end

section
/-! The examination of samples: priming and accepted ones, the steps of each state, and the IDLE rule
(R10, R30 to R36, R39, R41, R74, R81, R118). -/

namespace Sys2Proof.Machine

variable {s : State} {i : StreamIdx}

/-! ## Captures that a sample ends (R81) -/

theorem captureCause_of_running {c : AbortCause} {z : Capture} (hz : s.tally.capture = some z) (hi : z.stream = i) :
    captureCause i (some c) s = endCapture (.aborted c) s := by
  simp only [captureCause, (capturing_iff i).mpr ⟨z, hz, hi⟩, if_true]

theorem captureCause_of_free {cause : Option AbortCause}
    (h : cause = none ∨ ∀ z, s.tally.capture = some z → z.stream ≠ i) : captureCause i cause s = s := by
  cases cause with
  | none => rfl
  | some c =>
    have hno : ¬s.capturing i = true := by
      rw [capturing_iff]
      rintro ⟨z, hz, hi⟩
      exact h.resolve_left nofun z hz hi
    simp only [captureCause, if_neg hno]

/-! ## The silence timer (R41) -/

theorem restartSilence_of_timed (h : (s.stream i).state = .waiting ∨ (s.stream i).state = .feeding ∨
    (s.stream i).state = .draining) : restartSilence i s =
      s.putStream i { s.stream i with silence := some (s.stream i).config.silenceTime } := by
  rw [restartSilence, if_pos ((timed_iff _).mpr h)]
  rfl

theorem restartSilence_of_untimed (h : (s.stream i).state = .idle ∨ (s.stream i).state = .held) :
    restartSilence i s = s := by
  rw [restartSilence, if_neg]
  rcases h with h | h <;> simp [h, StreamState.timed]

/-! ## The IDLE rule (R34) -/

section Lots
variable {n : Nat} {k : LotIdx} {l : Lot}

theorem findLot_eq_some (h : s.findLot n = some l) : ∃ k, s.lotIdx? n = some k ∧ s.lotAt k = some l := by
  unfold State.findLot at h
  split at h
  next k hk => exact ⟨k, hk, h⟩
  · cases h

/-- A lot's number stands through a change of the rest of its record, and so does its place in the table. -/
theorem lotIdx?_putLot {m : Lot} (hl : s.lotAt k = some l) (hm : m.number = l.number) (n : Nat) :
    (s.putLot k (some m)).lotIdx? n = s.lotIdx? n := by
  unfold State.lotIdx? Tbl.findIdx?
  congr 1
  funext j
  show (match (s.putLot k (some m)).lotAt j with | some l => l.number == n | none => false) =
    match s.lotAt j with | some l => l.number == n | none => false
  rw [State.lotAt_putLot]
  by_cases hj : k = j
  · subst hj
    simp only [if_true, hl, hm] <;> rfl
  · rw [if_neg hj]

/-- No lot completes when a stream is detached from a DISCHARGING one. -/
theorem detach_ind_of_discharging (hn : s.lotIdx? n = some k) (hl : s.lotAt k = some l) (hst : l.state = .discharging)
    (i : StreamIdx) : (detach n i s).ind = s.ind := by
  rw [detach_of_lotAt hn hl]
  simp only [hst]
  split
  · split <;> rfl
  · rfl

theorem lot_of_standing {st : LotState} (h : s.standing n = some (.inTable st)) :
    ∃ k l, s.lotIdx? n = some k ∧ s.lotAt k = some l ∧ l.state = st := by
  unfold State.standing at h
  split at h
  next l hl =>
    obtain ⟨k, hk, hat⟩ := findLot_eq_some hl
    exact ⟨k, l, hk, hat, by simpa using h⟩
  · split at h <;> cases h

theorem running_of_qualifies (h : s.qualifies n = true) :
    ∃ k l, s.lotIdx? n = some k ∧ s.lotAt k = some l ∧ l.running = true := by
  rcases (qualifies_iff s n).mp h with h | h
  all_goals
    obtain ⟨k, l, hk, hl, hst⟩ := lot_of_standing h
    exact ⟨k, l, hk, hl, (running_iff l).mpr (by simp [hst])⟩

theorem standing_congr {t : State} (h : s.lot = t.lot) (n : Nat) : s.standing n = t.standing n := by
  unfold State.standing State.findLot State.lotIdx? State.lotAt State.inOutturn
  rw [h]

theorem lookup_congr {t : State} (h : s.lot = t.lot) (hold layer : Nat) :
    s.lookup hold layer = t.lookup hold layer := by
  unfold State.lookup State.holdEntry
  simp only [standing_congr h, h]

end Lots

theorem idleRule_of_no_demand (h : (s.stream i).demand = false) (prev : Option Lookup) : idleRule i prev s = s := by
  simp only [idleRule, h, Bool.false_eq_true, if_false]

/-- With demand 1 the IDLE rule asks whether the stream wants a lot that qualifies. -/
theorem idleRule_of_lot {n : Nat} (h : (s.stream i).demand = true) (hl : (s.stream i).lastLookup = some (.lot n))
    (hq : s.qualifies n = true) (prev : Option Lookup) :
    idleRule i prev s = if s.calibrated i then startStream i n s else s := by
  simp only [idleRule, h, if_true, hl, hq]

theorem idleRule_of_no_lot (h : (s.stream i).demand = true)
    (hno : ∀ n, ¬((s.stream i).lastLookup = some (.lot n) ∧ s.qualifies n = true)) (prev : Option Lookup) :
    idleRule i prev s = noLot i prev s := by
  unfold idleRule
  simp only [h, if_true]
  split
  next n hl => rw [if_neg fun hq => hno n ⟨hl, hq⟩]
  · rfl

section Start
variable {n : Nat}

theorem currentBinOf_leaveIdle (i : StreamIdx) (n : Nat) (s : State) :
    (leaveIdle i s).currentBinOf n = s.currentBinOf n := by
  unfold State.currentBinOf State.findLot State.lotIdx? State.lotAt
  rw [leaveIdle_lot]

theorem startStream_of_bin {b : BinIdx} (h : s.currentBinOf n = some b) (i : StreamIdx) :
    startStream i n s = becomeWaiting i n b (leaveIdle i s) := by
  simp only [startStream, h]

theorem startStream_of_no_bin (h : s.currentBinOf n = none) (i : StreamIdx) : startStream i n s =
    holdNoBin i n ((attach n i (leaveIdle i s)).modStream i fun x => { x with currentLot := some n }) := by
  simp only [startStream, h]

theorem routeFor_congr {t : State} (h : s.alloc.routes = t.alloc.routes) (i : StreamIdx) (b : BinIdx) :
    s.routeFor i b = t.routeFor i b := by
  unfold State.routeFor
  rw [h]

theorem becomeWaiting_passDue (i : StreamIdx) (n : Nat) (b : BinIdx) (s : State) :
    (becomeWaiting i n b s).passDue = true := rfl

theorem becomeWaiting_events (h : (s.stream i).currentLot = none) (n : Nat) (b : BinIdx) :
    (becomeWaiting i n b s).ind.events = s.ind.events := by
  have hd : detachStream i s = s := by simp only [detachStream, h]
  simp [becomeWaiting, queueRequest, h, hd, State.modStream]

theorem startStream_stream_other {j : StreamIdx} (hj : j ≠ i) (n : Nat) (s : State) :
    (startStream i n s).stream j = s.stream j := by
  cases h : s.currentBinOf n with
  | some b =>
    rw [startStream_of_bin h, (Placed.becomeWaiting i n b _).stream_other hj]
    simp
  | none =>
    rw [startStream_of_no_bin h, (Placed.holdNoBin i n _).stream_other hj]
    simp [State.modStream, State.stream_putStream, hj.symm]

/-- What the start of a stream attached to no lot leaves, for a lot with a current bin. -/
theorem startStream_bin_spec {b : BinIdx} (hb : s.currentBinOf n = some b) (hnone : (s.stream i).currentLot = none) :
    (startStream i n s).stream i = { s.stream i with
      state := .waiting, currentLot := some n, activeRoute := none, fromIdle := false
      silence := some (s.stream i).config.silenceTime } ∧
    (startStream i n s).alloc = { s.alloc with queue := s.alloc.queue ++ [⟨i, n, b, s.routeFor i b, false⟩] } ∧
    (startStream i n s).passDue = true ∧ (startStream i n s).lot = (attach n i s).lot ∧
    (startStream i n s).mgmt = (leaveIdle i s).mgmt ∧ (startStream i n s).tally = (leaveIdle i s).tally ∧
    (startStream i n s).ind.events = (leaveIdle i s).ind.events := by
  have hnone' : ((leaveIdle i s).stream i).currentLot = none := by simpa using hnone
  have hplaced := Placed.becomeWaiting i n b (leaveIdle i s)
  rw [startStream_of_bin hb]
  refine ⟨?_, ?_, becomeWaiting_passDue i n b _, ?_, hplaced.mgmt, hplaced.tally, becomeWaiting_events hnone' n b⟩
  · simp [stream_becomeWaiting_self]
  · rw [becomeWaiting_alloc, routeFor_congr (t := s) (by simp)]
    simp
  · have hparted : (leaveIdle i s).parted i = leaveIdle i s := by simp only [State.parted, hnone']
    rw [becomeWaiting_lot, hnone', if_neg nofun, hparted]
    exact attach_lot_congr (by simp) n i

/-- What the start of a stream attached to no lot leaves, for a running lot without a current bin. -/
theorem startStream_no_bin_spec (hb : s.currentBinOf n = none) (hq : s.qualifies n = true) :
    (startStream i n s).stream i = { s.stream i with
      state := .held, reasons := { (s.stream i).reasons with noBin := true }, noBinLot := some n
      currentLot := none, activeRoute := none, fromIdle := false, silence := none } ∧
    (startStream i n s).alloc = s.alloc ∧ (startStream i n s).lot = (detach n i (attach n i s)).lot ∧
    (startStream i n s).mgmt = (leaveIdle i s).mgmt ∧ (startStream i n s).tally = (leaveIdle i s).tally ∧
    (startStream i n s).ind.events = (leaveIdle i s).ind.events := by
  rw [startStream_of_no_bin hb]
  set t := leaveIdle i s with ht
  set u := (attach n i t).modStream i fun x => { x with currentLot := some n } with hu
  have hself : u.stream i = { s.stream i with currentLot := some n } := by simp [hu, ht, State.modStream]
  have hplaced := Placed.holdNoBin i n u
  have hlot : u.lot = (attach n i s).lot := by
    rw [← attach_lot_congr (s := t) (by simp [ht]) n i]
    simp [hu, State.modStream]
  refine ⟨?_, ?_, ?_, ?_, ?_, ?_⟩
  · rw [stream_holdNoBin_self, hself]
  · rw [holdNoBin_alloc]
    simp [hu, ht, State.modStream]
  · have hparted : u.parted i = detach n i u := by simp only [State.parted, hself]
    rw [holdNoBin_lot, hparted]
    exact detach_lot_congr hlot n i
  · rw [hplaced.mgmt]
    simp [hu, State.modStream]
  · rw [hplaced.tally]
    simp [hu, State.modStream]
  · obtain ⟨k, l, hk, hl, hrun⟩ := running_of_qualifies hq
    set m : Lot := { l with attached := l.attached.insert i, used := l.used.insert i, state := .discharging } with hm
    have hlots : (attach n i s).lot = (s.putLot k (some m)).lot := by rw [attach_of_lotAt hk hl, if_pos hrun]
    have hidx : u.lotIdx? n = some k := by
      rw [← hk, ← lotIdx?_putLot (m := m) hl rfl n]
      unfold State.lotIdx?
      rw [hlot, hlots]
    have hat : u.lotAt k = some m := by
      unfold State.lotAt
      rw [hlot, hlots]
      simp [State.putLot]
    have hind := detach_ind_of_discharging hidx hat rfl i
    have hd : detachStream i u = (detach n i u).modStream i fun x => { x with currentLot := none } := by
      simp only [detachStream, hself]
    simp only [holdNoBin, becomeHeld, hd, State.modStream, State.putStream_ind, refreshLamps_events, hind]
    simp [hu, State.modStream]

end Start

/-! ## The steps of an examined sample (R32, R34 to R36, R39) -/

/-- The record that takes lookup, demand and the reasons a sample clears. -/
def Stream.examined (x : Stream) (found : Lookup) (demand : Bool) : Stream :=
  ({ x with lastLookup := some found, demand := demand } : Stream).clearBySample

section Examined
variable {x : Stream} {found : Lookup} {demand : Bool}

theorem examined_of_no_lot (h : x.noBinLot = none) : x.examined found demand = { x with
    lastLookup := some found, demand := demand, reasons := { x.reasons with silent := false } } := by
  simp only [Stream.examined, Stream.clearBySample, Stream.withoutReason, h]

theorem examined_of_same {n : Nat} (h : x.noBinLot = some n) (hd : demand = true) (hf : found = .lot n) :
    x.examined found demand = { x with
      lastLookup := some found, demand := demand, reasons := { x.reasons with silent := false } } := by
  simp [Stream.examined, Stream.clearBySample, Stream.withoutReason, h, hd, hf]

theorem examined_of_other {n : Nat} (h : x.noBinLot = some n) (hno : ¬(demand = true ∧ found = .lot n)) :
    x.examined found demand = { x with
      lastLookup := some found, demand := demand
      reasons := { x.reasons with silent := false, noBin := false }, noBinLot := none } := by
  have hcond : ¬(demand && decide (some found = some (Lookup.lot n))) = true := by simpa using hno
  simp only [Stream.examined, Stream.clearBySample, Stream.withoutReason, h, if_neg hcond]

/-- A stream free of reasons only takes lookup and demand. -/
theorem examined_of_free (hr : x.reasons = HoldSet.none) (h : x.noBinLot = none) :
    x.examined found demand = { x with lastLookup := some found, demand := demand } := by
  have hsame : ({ x.reasons with silent := false } : HoldSet) = x.reasons := by rw [hr]; rfl
  rw [examined_of_no_lot h, hsame]

theorem examined_frame : x.examined found demand = { x with
    lastLookup := some found, demand := demand
    reasons := (x.examined found demand).reasons, noBinLot := (x.examined found demand).noBinLot } := by
  cases h : x.noBinLot with
  | none => rw [examined_of_no_lot h]
  | some n =>
    by_cases hs : demand = true ∧ found = .lot n
    · rw [examined_of_same h hs.1 hs.2]
    · rw [examined_of_other h hs]

end Examined

/-- The lookup a sample gives. -/
def State.found (s : State) (f : SampleFields) : Lookup := s.lookup f.hold.toNat f.layer.toNat

theorem examineSteps_eq (i : StreamIdx) (f : SampleFields) (s : State) : examineSteps i f s =
    restartSilence i (transitions i (s.stream i).lastLookup
      (decide ((s.stream i).reasons ≠ HoldSet.none) &&
        decide (((s.stream i).examined (s.found f) (f.flags.getLsbD 0)).reasons = HoldSet.none))
      (restartSilence i (s.putStream i ((s.stream i).examined (s.found f) (f.flags.getLsbD 0))))) := rfl

/-- A record whose silence timer starts afresh (R41). -/
def Stream.restarted (y : Stream) : Stream := { y with silence := some y.config.silenceTime }

theorem restarted_sameLot {y : Stream} : ((s.putStream i y.restarted).stream i).sameLot = y.sameLot := by
  rw [State.stream_putStream_self]
  rfl

section Transitions
variable {prev : Option Lookup} {emptied : Bool}

theorem transitions_of_draining (h : (s.stream i).state = .draining) : transitions i prev emptied s = s := by
  simp only [transitions, h]

theorem transitions_of_feeding (h : (s.stream i).state = .feeding) : transitions i prev emptied s =
    if (s.stream i).demand = true ∧ (s.stream i).sameLot = true then s else enterDraining i s := by
  simp only [transitions, h, Bool.and_eq_true]

theorem transitions_of_waiting_demand (h : (s.stream i).state = .waiting) (hd : (s.stream i).demand = true) :
    transitions i prev emptied s =
      if (s.stream i).sameLot = true then s else idleRule i prev (becomeIdle i (removeRequest i s)) := by
  simp only [transitions, h, hd, if_true]

theorem transitions_of_waiting_off (h : (s.stream i).state = .waiting) (hd : (s.stream i).demand = false) :
    transitions i prev emptied s = becomeIdle i (removeRequest i s) := by
  simp only [transitions, h, hd, Bool.false_eq_true, if_false]

end Transitions

section Steps

variable {f : SampleFields} {y : Stream}
  (hy : (s.stream i).examined (s.found f) (f.flags.getLsbD 0) = y)
include hy

theorem examined_state : y.state = (s.stream i).state := by rw [← hy, examined_frame]
theorem examined_config : y.config = (s.stream i).config := by rw [← hy, examined_frame]
theorem examined_demand : y.demand = f.flags.getLsbD 0 := by rw [← hy, examined_frame]
theorem examined_fromIdle : y.fromIdle = (s.stream i).fromIdle := by rw [← hy, examined_frame]
theorem examined_sameLot : y.sameLot = true ↔ ∃ n, (s.stream i).currentLot = some n ∧ s.found f = .lot n := by
  rw [← hy, examined_frame, Stream.sameLot]
  cases (s.stream i).currentLot <;> simp

theorem examineSteps_of_idle (h : (s.stream i).state = .idle) : examineSteps i f s =
    restartSilence i (idleRule i (s.stream i).lastLookup (s.putStream i y)) := by
  have hst : ((s.putStream i y).stream i).state = .idle := by simp [examined_state hy, h]
  rw [examineSteps_eq, hy, restartSilence_of_untimed (.inl hst)]
  simp only [transitions, hst]

/-- In a state in which the silence timer runs, it starts afresh before the transitions are made (R32, R41). -/
theorem examineSteps_of_timed (h : (s.stream i).state = .waiting ∨ (s.stream i).state = .feeding ∨
    (s.stream i).state = .draining) : ∃ emptied, examineSteps i f s =
      restartSilence i (transitions i (s.stream i).lastLookup emptied (s.putStream i y.restarted)) := by
  have hst : ((s.putStream i y).stream i).state = (s.stream i).state := by simp [examined_state hy]
  rw [examineSteps_eq, hy, restartSilence_of_timed (s := s.putStream i y) (by rwa [hst])]
  simp only [State.stream_putStream_self, State.putStream_putStream]
  exact ⟨_, rfl⟩

theorem restarted_state : ((s.putStream i y.restarted).stream i).state = (s.stream i).state := by
  simp [Stream.restarted, examined_state hy]

theorem restarted_demand : ((s.putStream i y.restarted).stream i).demand = f.flags.getLsbD 0 := by
  simp [Stream.restarted, examined_demand hy]

theorem restartSilence_restarted (h : (s.stream i).state = .waiting ∨ (s.stream i).state = .feeding ∨
    (s.stream i).state = .draining) :
    restartSilence i (s.putStream i y.restarted) = s.putStream i y.restarted := by
  rw [restartSilence_of_timed (by rwa [restarted_state hy])]
  simp [Stream.restarted]

theorem examineSteps_of_draining (h : (s.stream i).state = .draining) :
    examineSteps i f s = s.putStream i y.restarted := by
  obtain ⟨emptied, heq⟩ := examineSteps_of_timed hy (.inr (.inr h))
  rw [heq, transitions_of_draining (by rw [restarted_state hy, h]), restartSilence_restarted hy (.inr (.inr h))]

theorem examineSteps_of_feeding_own (h : (s.stream i).state = .feeding) (hd : f.flags.getLsbD 0 = true)
    (hs : y.sameLot = true) : examineSteps i f s = s.putStream i y.restarted := by
  obtain ⟨emptied, heq⟩ := examineSteps_of_timed hy (.inr (.inl h))
  rw [heq, transitions_of_feeding (by rw [restarted_state hy, h]), restarted_demand hy, restarted_sameLot,
    if_pos ⟨hd, hs⟩, restartSilence_restarted hy (.inr (.inl h))]

theorem examineSteps_of_feeding_other (h : (s.stream i).state = .feeding)
    (hno : ¬(f.flags.getLsbD 0 = true ∧ y.sameLot = true)) :
    examineSteps i f s = restartSilence i (enterDraining i (s.putStream i y.restarted)) := by
  obtain ⟨emptied, heq⟩ := examineSteps_of_timed hy (.inr (.inl h))
  rw [heq, transitions_of_feeding (by rw [restarted_state hy, h]), restarted_demand hy, restarted_sameLot,
    if_neg hno]

theorem examineSteps_of_waiting_own (h : (s.stream i).state = .waiting) (hd : f.flags.getLsbD 0 = true)
    (hs : y.sameLot = true) : examineSteps i f s = s.putStream i y.restarted := by
  obtain ⟨emptied, heq⟩ := examineSteps_of_timed hy (.inl h)
  rw [heq, transitions_of_waiting_demand (by rw [restarted_state hy, h]) (by rw [restarted_demand hy, hd]),
    restarted_sameLot, if_pos hs, restartSilence_restarted hy (.inl h)]

theorem examineSteps_of_waiting_other (h : (s.stream i).state = .waiting) (hd : f.flags.getLsbD 0 = true)
    (hs : ¬y.sameLot = true) : examineSteps i f s =
      restartSilence i (idleRule i (s.stream i).lastLookup
        (becomeIdle i (removeRequest i (s.putStream i y.restarted)))) := by
  obtain ⟨emptied, heq⟩ := examineSteps_of_timed hy (.inl h)
  rw [heq, transitions_of_waiting_demand (by rw [restarted_state hy, h]) (by rw [restarted_demand hy, hd]),
    restarted_sameLot, if_neg hs]

theorem examineSteps_of_waiting_off (h : (s.stream i).state = .waiting) (hd : f.flags.getLsbD 0 = false) :
    examineSteps i f s = becomeIdle i (removeRequest i (s.putStream i y.restarted)) := by
  obtain ⟨emptied, heq⟩ := examineSteps_of_timed hy (.inl h)
  rw [heq, transitions_of_waiting_off (by rw [restarted_state hy, h]) (by rw [restarted_demand hy, hd])]
  exact restartSilence_of_untimed (.inl (by rw [stream_becomeIdle_self]))

theorem examineSteps_of_held (h : (s.stream i).state = .held) : examineSteps i f s =
    restartSilence i (if (s.stream i).reasons ≠ HoldSet.none ∧ y.reasons = HoldSet.none
      then leaveHeld i (s.putStream i y) else s.putStream i y) := by
  have hst : ((s.putStream i y).stream i).state = .held := by simp [examined_state hy, h]
  rw [examineSteps_eq, hy, restartSilence_of_untimed (.inr hst)]
  simp only [transitions, hst, Bool.and_eq_true, decide_eq_true_eq]

theorem examineSteps_of_held_staying (h : (s.stream i).state = .held)
    (hno : (s.stream i).reasons = HoldSet.none ∨ y.reasons ≠ HoldSet.none) :
    examineSteps i f s = s.putStream i y := by
  rw [examineSteps_of_held hy h, if_neg (by tauto)]
  exact restartSilence_of_untimed (.inr (by simp [examined_state hy, h]))

theorem examineSteps_of_held_from_idle (h : (s.stream i).state = .held) (hr : (s.stream i).reasons ≠ HoldSet.none)
    (hy0 : y.reasons = HoldSet.none) (hm : (s.stream i).fromIdle = true) :
    examineSteps i f s = becomeIdle i (s.putStream i y) := by
  rw [examineSteps_of_held hy h, if_pos ⟨hr, hy0⟩, leaveHeld, if_pos (by simpa [examined_fromIdle hy] using hm)]
  exact restartSilence_of_untimed (.inl (by rw [stream_becomeIdle_self]))

theorem examineSteps_of_held_leaving (h : (s.stream i).state = .held) (hr : (s.stream i).reasons ≠ HoldSet.none)
    (hy0 : y.reasons = HoldSet.none) (hm : (s.stream i).fromIdle = false) :
    examineSteps i f s = restartSilence i (exitTest i (s.putStream i y)) := by
  rw [examineSteps_of_held hy h, if_pos ⟨hr, hy0⟩, leaveHeld, if_neg (by simp [examined_fromIdle hy, hm])]

end Steps

/-! ## Priming and accepted samples (R30 to R32) -/

section Taken
variable {src : Byte} {f : SampleFields} {l : LastSample}

theorem countUp_steps (h : 1 ≤ ((f.seq.toNat : Int) - l.seq) % 256) (n : Nat) :
    countUp n ((measure l f).steps - 1) = min 255 (n + (((f.seq.toNat : Int) - l.seq) % 256).toNat - 1) := by
  have hcast := measure_steps_cast l f
  unfold countUp
  omega

theorem measure_rate_cast (l : LastSample) (f : SampleFields) : (measure l f).rate =
    (((f.count.toNat : Int) - l.count) % 16777216 * 1000 / (((f.time.toNat : Int) - l.time) % 65536)).toNat := by
  rw [← measure_counts_cast, ← measure_time_cast, measure_rate]
  norm_cast

theorem sampleCause_congr {t : State} (hs : s.stream i = t.stream i) (ht : s.tallyOf i = t.tallyOf i)
    (f : SampleFields) (m : Measured) : sampleCause s i f m = sampleCause t i f m := by
  unfold sampleCause
  rw [hs, ht]

variable (hother : src.toNat ≠ s.loop.address) (hrun : s.mgmt.restartLeft = none)
  (hm : (s.stream i).config.meter = some src.toNat) (hu : ∀ j, (s.stream j).config.meter = some src.toNat → j = i)
include hother hrun hm hu

theorem exec_priming (hp : (s.stream i).last = none ∨ f.flags.getLsbD 2 = true) :
    exec (.sample src f) s = happens (examineSteps i f
      ((captureCause i (some .meterRestart) (s.forward (sampleFrame src f))).modStream i fun x =>
        { x with last := some ⟨f.seq.toNat, f.time.toNat, f.count.toNat, 0⟩, fedAtLast := false })) := by
  rw [exec_sample_of_meter hother hrun hm hu, streamSample_of_priming (by simpa using hp)]
  rfl

theorem exec_accepted (hl : (s.stream i).last = some l) (hf : f.flags.getLsbD 2 = false)
    (h1 : 1 ≤ ((f.seq.toNat : Int) - l.seq) % 256) (h2 : ((f.seq.toNat : Int) - l.seq) % 256 ≤ 128)
    (h3 : ((f.time.toNat : Int) - l.time) % 65536 ≠ 0) :
    exec (.sample src f) s = happens (noteFed i (tallyStep i f (measure l f) (examineSteps i f
      (captureCause i (sampleCause s i f (measure l f)) ((s.forward (sampleFrame src f)).putStream i { s.stream i with
        missed := min 255 ((s.stream i).missed + (((f.seq.toNat : Int) - l.seq) % 256).toNat - 1) }))))) := by
  rw [exec_sample_of_meter hother hrun hm hu,
    streamSample_of_accepted (by simpa using hl) hf (accepted_iff.mpr ⟨h1, h2, h3⟩), acceptSample,
    sampleCause_congr (t := s) (by simp) (by simp), ← countUp_steps h1]
  simp only [State.modStream, stream_forward]

end Taken

end Sys2Proof.Machine
end

section
/-! The obligations about samples of an IDLE stream and of the others (R30 to R36, R39, R41, R81, R118). -/

namespace Sys2Proof.Machine

variable {s : State} {i : StreamIdx}

/-- A stream free of reasons has no NO-BIN lot (R28). -/
theorem Stream.Law.noBinLot_of_free {x : Stream} (h : x.Law) (hr : x.reasons = HoldSet.none) : x.noBinLot = none := by
  have := h.noBin
  rw [hr] at this
  simpa [HoldSet.none] using this

/-- An IDLE stream takes lookup and demand 0 and stays as it is. -/
theorem examineSteps_of_idle_off {f : SampleFields} (hst : (s.stream i).state = .idle)
    (hr : (s.stream i).reasons = HoldSet.none) (hn : (s.stream i).noBinLot = none) (hd : f.flags.getLsbD 0 = false) :
    examineSteps i f s =
      s.putStream i { s.stream i with lastLookup := some (s.found f), demand := false } := by
  have hy : (s.stream i).examined (s.found f) (f.flags.getLsbD 0) =
      { s.stream i with lastLookup := some (s.found f), demand := false } := by
    rw [examined_of_free hr hn, hd]
  rw [examineSteps_of_idle hy hst, idleRule_of_no_demand (by simp)]
  exact restartSilence_of_untimed (.inl (by simp [hst]))

theorem tallyStep_of_no_cal (h : (s.tallyOf i).cal = none) (f : SampleFields) (m : Measured) : tallyStep i f m s =
    s.putStream i { s.stream i with last := some ⟨f.seq.toNat, f.time.toNat, f.count.toNat, m.rate⟩ } := by
  simp only [tallyStep, h]
  rfl

/-- Settles O22. -/
theorem idleSamplePrimesOrAdvances : Obligations.IdleSamplePrimesOrAdvances := by
  refine ⟨fun s src f i hother hrun hm hu hst hlaw hcap hd => ?_, fun s i before => ?_⟩
  · intro s1 x
    have hr := hlaw.free (.inl hst)
    have hn := hlaw.noBinLot_of_free hr
    have hfree : ∀ cause, ∀ t : State, t.tally = s.tally → captureCause i cause t = t := fun cause t ht =>
      captureCause_of_free (.inr (by rw [ht]; exact hcap))
    have hlook : ∀ t : State, t.lot = s.lot → t.found f = s.found f := fun t ht => lookup_congr ht _ _
    have hfed : decide ((s.stream i).state = .feeding) = false := by rw [hst]; rfl
    refine ⟨fun hp => ?_, fun l hl hf hcal => ?_⟩
    · rw [exec_priming hother hrun hm hu hp, hfree _ _ (by simp)]
      rw [examineSteps_of_idle_off (by simpa [State.modStream] using hst) (by simpa [State.modStream] using hr)
        (by simpa [State.modStream] using hn) hd, hlook _ (by simp [State.modStream])]
      simp only [State.modStream, stream_forward, State.stream_putStream_self, State.putStream_putStream]
      rfl
    · intro d dt dc h1 h2 h3
      rw [exec_accepted hother hrun hm hu hl hf h1 h2 h3, hfree _ _ (by simp),
        examineSteps_of_idle_off (by simpa using hst) (by simpa using hr) (by simpa using hn) hd,
        hlook _ (by simp), tallyStep_of_no_cal (by simpa using hcal), noteFed]
      simp only [State.modStream, State.stream_putStream_self, State.putStream_putStream, measure_rate_cast, hfed]
      rfl
  · intro x v asks
    have hasks : ∀ n, asks n ↔ x.demand = true ∧ x.lastLookup = some (.lot n) ∧ s.qualifies n = true := fun n => by
      rw [qualifies_iff]
    refine ⟨fun h => idleRule_of_no_demand h before, fun h hno => ?_, fun n hn hcal => ?_, fun n hn hcal hlot => ?_⟩
    · have hv : v = noLot i before s := idleRule_of_no_lot h (fun n hn => hno n ((hasks n).mpr ⟨h, hn⟩)) before
      exact ⟨fun he => by rw [hv, noLot, if_pos he], fun he => by rw [hv, noLot, if_neg he]⟩
    · obtain ⟨hd, hl, hq⟩ := (hasks n).mp hn
      exact (idleRule_of_lot hd hl hq before).trans (if_neg (by rw [calibrated_iff]; exact not_not.mpr hcal))
    · obtain ⟨hd, hl, hq⟩ := (hasks n).mp hn
      have hv : v = startStream i n s := (idleRule_of_lot hd hl hq before).trans (if_pos (calibrated_iff.mpr hcal))
      have hleft : v.mgmt = (leaveIdle i s).mgmt ∧ v.tally = (leaveIdle i s).tally ∧
          v.ind.events = (leaveIdle i s).ind.events := by
        rw [hv]
        cases hb : s.currentBinOf n with
        | some b =>
          obtain ⟨-, -, -, -, h⟩ := startStream_bin_spec hb hlot
          exact h
        | none =>
          obtain ⟨-, -, -, h⟩ := startStream_no_bin_spec (i := i) hb hq
          exact h
      clear_value v
      subst hv
      refine ⟨fun j hj => ?_, fun b hb => ?_, fun hb => ?_, fun hno => ?_,
        fun u hu hi hh => ?_, fun u c hu hi hh hc => ?_⟩
      · exact startStream_stream_other hj n s
      · obtain ⟨h1, h2, h3, h4, -⟩ := startStream_bin_spec hb hlot
        exact ⟨h1, h2, h3, h4⟩
      · obtain ⟨h1, h2, h3, -⟩ := startStream_no_bin_spec (i := i) hb hq
        exact ⟨h1, h2, h3⟩
      · rwa [leaveIdle_of_not_unlocked (by simpa [unlockedFor_iff] using hno)] at hleft
      · have hl : leaveIdle i s = s.putUnlock none := by
          rw [leaveIdle, if_pos ((unlockedFor_iff i).mpr ⟨u, hu, hi⟩), endUnlock_of_free hu hh]
        rwa [hl] at hleft
      · have hl : leaveIdle i s = endCapture (.aborted .leftIdle) s := by
          rw [leaveIdle, if_pos ((unlockedFor_iff i).mpr ⟨u, hu, hi⟩), endUnlock_of_held hu hh hc]
        rwa [hl] at hleft

/-- Settles O23. -/
theorem feedingSampleIsTallied : Obligations.FeedingSampleIsTallied := by
  refine ⟨fun s src f i l n hother hrun hm hu hst hlaw hcap hl hd hf hlot hfound => ?_,
    fun s src f i hother hrun hm hu => ?_, fun u i cause => ⟨?_, captureCause_of_free⟩, fun u i f => ?_, fun u i => ?_⟩
  · intro d h1 h2 h3 s1 s2
    have hr := hlaw.free (.inr (.inr hst))
    have hn := hlaw.noBinLot_of_free hr
    rw [exec_accepted hother hrun hm hu hl hf h1 h2 h3, captureCause_of_free (.inr (by simpa using hcap))]
    set t := (s.forward (sampleFrame src f)).putStream i { s.stream i with
        missed := min 255 ((s.stream i).missed + (((f.seq.toNat : Int) - l.seq) % 256).toNat - 1) } with ht
    have hfoundt : t.found f = .lot n := (lookup_congr (t := s) (by simp [ht]) _ _).trans hfound
    have hself : t.stream i = { s.stream i with
        missed := min 255 ((s.stream i).missed + (((f.seq.toNat : Int) - l.seq) % 256).toNat - 1) } := by simp [ht]
    have hy := examined_of_free (x := t.stream i) (found := t.found f) (demand := f.flags.getLsbD 0)
      (by rw [hself]; exact hr) (by rw [hself]; exact hn)
    have hs1 : examineSteps i f t = s1 := by
      rw [examineSteps_of_feeding_own hy (by rw [hself]; exact hst) hd (by simp [Stream.sameLot, hself, hlot, hfoundt]),
        hfoundt, hself, hd, ht, State.putStream_putStream]
      rfl
    rw [hs1]
    rfl
  · intro s0
    refine ⟨fun hp => exec_priming hother hrun hm hu hp, fun l hl hf => ?_⟩
    intro d h1 h2 h3
    exact exec_accepted hother hrun hm hu hl hf h1 h2 h3
  · rintro c z rfl hz hi
    exact captureCause_of_running hz hi
  · intro x demand found own y hother hsame w timed
    have hy : x.examined found demand = y := by
      cases hx : x.noBinLot with
      | none => rw [examined_of_no_lot hx, hsame (.inl hx)]
      | some n =>
        by_cases hs : demand = true ∧ found = .lot n
        · rw [examined_of_same hx hs.1 hs.2, hsame (.inr ⟨n, hx, hs⟩)]
        · rw [examined_of_other hx hs, hother n hx hs]
    have hown : own ↔ demand = true ∧ y.sameLot = true := and_congr_right fun _ => (examined_sameLot hy).symm
    have htimed : timed = u.putStream i y.restarted := by
      have hc : y.config = x.config := examined_config hy
      simp only [timed, ← hc]
      rfl
    rw [htimed]
    refine ⟨examineSteps_of_idle hy, fun h => ⟨fun ho => ?_, fun hd => examineSteps_of_waiting_off hy h hd,
      fun hd hno => examineSteps_of_waiting_other hy h hd fun hs => hno (hown.mpr ⟨hd, hs⟩)⟩,
      fun h => ⟨fun ho => ?_, fun hno => examineSteps_of_feeding_other hy h (mt hown.mpr hno)⟩,
      examineSteps_of_draining hy, fun h => ⟨examineSteps_of_held_from_idle hy h, examineSteps_of_held_leaving hy h,
      examineSteps_of_held_staying hy h⟩⟩
    · obtain ⟨hd, hs⟩ := hown.mp ho
      exact examineSteps_of_waiting_own hy h hd hs
    · obtain ⟨hd, hs⟩ := hown.mp ho
      exact examineSteps_of_feeding_own hy h hd hs
  · intro x v
    refine ⟨restartSilence_of_timed, restartSilence_of_untimed,
      ⟨?_, fun j hj => (Placed.becomeIdle i u).stream_other hj, becomeIdle_alloc i u, fun n hn => ?_, fun hn => ?_⟩,
      fun r route a n hr hroute ha hn => ?_⟩
    · rw [stream_becomeIdle_self]
    · rw [becomeIdle_lot, State.parted, show (u.stream i).currentLot = some n from hn]
    · rw [becomeIdle_lot, State.parted, show (u.stream i).currentLot = none from hn]
    · intro y stopped
      set t := refreshLamps (u.putStream i y) with ht
      have hself : t.stream i = y := by simp [ht]
      have hsend : sendPermit i false t = t.place (.permit a i false route.bin n) :=
        sendPermit_of_present (r := r) (r1 := route) (by rw [hself]; exact ha) (by rw [hself]; exact hr)
          (by simpa [ht] using hroute) rfl (by rw [hself]; exact hn)
      have hstop : permitStop i t = stopped := by
        rw [permitStop, hsend, State.modStream]
        simp only [stream_place, hself]
        rfl
      have hsteps : stopped.stepsOf r = route.steps := stepsOf_of_routeAt (by
        rw [← hstop, permitStop, hsend]
        simpa [ht, State.modStream] using hroute)
      have hmod : t = refreshLamps (u.modStream i fun x => { x with state := .draining }) := rfl
      clear_value stopped t
      simp only [enterDraining, ← hmod, hstop, show (u.stream i).activeRoute = some r from hr, releaseRoute, hsteps]

end Sys2Proof.Machine
end

section
/-! MANAGE frames taken, and what a step does with no command waiting (R160, R161; log 4). -/

namespace Sys2Proof.Machine

variable {s : State}

/-! ## The input buffer (R160) -/

theorem manageReceived_of_busy {f : MFrame} (h : s.mgmt.input.length < 4) (hh : s.mgmt.inHand ≠ none) :
    manageReceived f s = { s with mgmt := { s.mgmt with
      lastSource := some f.source, input := s.mgmt.input ++ [f] } } := by
  obtain ⟨g, hg⟩ := Option.ne_none_iff_exists'.mp hh
  have hroom : s.mgmt.input.length < inputRoom := h
  simp only [manageReceived, hroom, if_true, hg]
  rw [← hg]
  rfl

theorem manageReceived_of_free {f : MFrame} (h : s.mgmt.input = []) (hh : s.mgmt.inHand = none) :
    manageReceived f s = { s with mgmt := { s.mgmt with lastSource := some f.source, inHand := some f } } := by
  have hroom : s.mgmt.input.length < inputRoom := by rw [h]; decide
  simp only [manageReceived]
  rw [if_pos hroom]
  simp only [hh, takeFrame_eq, h, List.nil_append, List.head?_cons, List.tail_cons]
  rw [← h]
  rfl

theorem manageReceived_of_full {f : MFrame} (h : 4 ≤ s.mgmt.input.length) : manageReceived f s = { s with
    mgmt := { s.mgmt with lastSource := some f.source }
    loop := { s.loop with mgmtDrop := min 255 (s.loop.mgmtDrop + 1) } } := by
  have hroom : ¬s.mgmt.input.length < inputRoom := Nat.not_lt.mpr h
  rw [manageReceived, if_neg hroom]
  rfl

/-! ## What time has brought about (log 4) -/

/-- Whether time has brought command `c` about. -/
def State.Due (s : State) : Instr → Prop
  | .transmitEnd => s.loop.tx ≠ none ∧ s.loop.txLeft = 0
  | .restartIntervalEnd => s.mgmt.restartLeft = some 0
  | .unlockExpiry => ∃ u, s.mgmt.unlock = some u ∧ u.left = 0
  | .silenceTimerExpiry i => (s.stream i).silence = some 0
  | .permitTimerExpiry i => (s.stream i).permit = some 0
  | .drainTimerExpiry i => (s.stream i).drain = some 0
  | .travelTimerExpiry g => (s.seg g).travel = some 0
  | .flushTimerExpiry g => (s.seg g).flush = some 0
  | .pollTimerExpiry b => (s.bin b).pollTimer = some 0
  | .replyTimerExpiry b => (s.bin b).replyTimer = some 0
  | .lampPhaseEnd n => ∃ sh, (s.ind.lamps.get n).shown = some sh ∧ sh.pattern ≠ .off ∧ sh.pattern ≠ .steady ∧
      sh.left = 0
  | _ => False

/-- The place of a command in the order in which the block attends to what time has brought about. -/
def dueRank : Instr → Nat
  | .transmitEnd => 0
  | .restartIntervalEnd => 1
  | .unlockExpiry => 2
  | .silenceTimerExpiry i => 3 + 3 * i.val
  | .permitTimerExpiry i => 4 + 3 * i.val
  | .drainTimerExpiry i => 5 + 3 * i.val
  | .travelTimerExpiry g => 27 + 2 * g.val
  | .flushTimerExpiry g => 28 + 2 * g.val
  | .pollTimerExpiry b => 155 + 2 * b.val
  | .replyTimerExpiry b => 156 + 2 * b.val
  | .lampPhaseEnd n => 235 + n.val
  | _ => 243

/-- The commands of time. -/
inductive Timed : Instr → Prop
  | transmitEnd : Timed .transmitEnd
  | restartIntervalEnd : Timed .restartIntervalEnd
  | unlockExpiry : Timed .unlockExpiry
  | silence (i) : Timed (.silenceTimerExpiry i)
  | permit (i) : Timed (.permitTimerExpiry i)
  | drain (i) : Timed (.drainTimerExpiry i)
  | travel (g) : Timed (.travelTimerExpiry g)
  | flush (g) : Timed (.flushTimerExpiry g)
  | poll (b) : Timed (.pollTimerExpiry b)
  | reply (b) : Timed (.replyTimerExpiry b)
  | lamp (n) : Timed (.lampPhaseEnd n)

theorem timed_of_due {c : Instr} (h : s.Due c) : Timed c := by
  cases c <;> first | exact h.elim | constructor

/-- No two commands of time have the same place. -/
theorem dueRank_injective {c d : Instr} (hc : Timed c) (hd : Timed d) (h : dueRank c = dueRank d) : c = d := by
  cases hc <;> cases hd <;> simp only [dueRank] at h <;>
    simp only [Instr.silenceTimerExpiry.injEq, Instr.permitTimerExpiry.injEq, Instr.drainTimerExpiry.injEq,
      Instr.travelTimerExpiry.injEq, Instr.flushTimerExpiry.injEq, Instr.pollTimerExpiry.injEq,
      Instr.replyTimerExpiry.injEq, Instr.lampPhaseEnd.injEq, reduceCtorEq, Fin.ext_iff] <;> omega

theorem dueRank_lt {c : Instr} (h : Timed c) : dueRank c < 243 := by
  cases h <;> simp only [dueRank] <;> omega

/-- `o` is the first due command with a place in `[lo, hi)`, if there is one. -/
structure FirstDue (s : State) (lo hi : Nat) (o : Option Instr) : Prop where
  first : ∀ c, o = some c → s.Due c ∧ dueRank c < hi ∧ ∀ d, s.Due d → lo ≤ dueRank d → dueRank c ≤ dueRank d
  nothing : o = none → ∀ d, s.Due d → lo ≤ dueRank d → hi ≤ dueRank d

namespace FirstDue

variable {lo mid hi : Nat} {o p : Option Instr}

theorem or (ho : FirstDue s lo mid o) (hp : FirstDue s mid hi p) (hle : mid ≤ hi) : FirstDue s lo hi (o.or p) := by
  cases o with
  | some c =>
    obtain ⟨hc, hlt, hmin⟩ := ho.first c rfl
    refine ⟨fun d hd => ?_, nofun⟩
    cases hd
    exact ⟨hc, hlt.trans_le hle, hmin⟩
  | none =>
    have hno := ho.nothing rfl
    refine ⟨fun c hc => ?_, fun hn d hd hlo => hp.nothing hn d hd (hno d hd hlo)⟩
    obtain ⟨hc, hlt, hmin⟩ := hp.first c hc
    exact ⟨hc, hlt, fun d hd hlo => hmin d hd (hno d hd hlo)⟩

/-- One command, offered exactly when it is due. -/
theorem single {c : Instr} {q : Prop} [Decidable q] (hq : q ↔ s.Due c) (ht : Timed c) (hr : dueRank c = lo) :
    FirstDue s lo (lo + 1) (if q then some c else none) := by
  by_cases h : q
  · rw [if_pos h]
    refine ⟨fun d hd => ?_, nofun⟩
    cases hd
    exact ⟨hq.mp h, by omega, fun d _ hlo => hr ▸ hlo⟩
  · rw [if_neg h]
    refine ⟨nofun, fun _ d hd hlo => Nat.lt_of_le_of_ne hlo fun he => h (hq.mpr ?_)⟩
    rwa [dueRank_injective ht (timed_of_due hd) (hr.trans he)]

/-- The commands of the entries of a table, `w` places an entry. -/
theorem table {n w : Nat} {f : Fin n → Option Instr} (lo : Nat)
    (h : ∀ i : Fin n, FirstDue s (lo + w * i.val) (lo + w * (i.val + 1)) (f i)) :
    FirstDue s lo (lo + w * n) ((List.finRange n).findSome? f) := by
  induction n with
  | zero =>
    exact ⟨nofun, fun _ d _ hlo => by simpa using hlo⟩
  | succ n ih =>
    have hfirst := ih (f := fun i => f i.castSucc) fun i => h i.castSucc
    have hlast := h (Fin.last n)
    rw [List.finRange_succ_last, List.findSome?_append, List.findSome?_map]
    have hsingle : List.findSome? f [Fin.last n] = f (Fin.last n) := by
      simp
    rw [hsingle]
    exact hfirst.or hlast (Nat.add_le_add_left (Nat.mul_le_mul_left w (Nat.le_succ n)) lo)

end FirstDue

theorem timerDue_iff (o : Option Nat) : timerDue o = true ↔ o = some 0 := by
  unfold timerDue
  split
  · simp
  next h => simpa using h

theorem firstDue_stream (s : State) (i : StreamIdx) :
    FirstDue s (3 + 3 * i.val) (3 + 3 * (i.val + 1)) (dueOfStream s i) := by
  have hor : dueOfStream s i =
      ((if timerDue (s.stream i).silence then some (Instr.silenceTimerExpiry i) else none).or
      (if timerDue (s.stream i).permit then some (.permitTimerExpiry i) else none)).or
      (if timerDue (s.stream i).drain then some (.drainTimerExpiry i) else none) := by
    simp only [dueOfStream]
    split <;> split <;> split <;> simp
  rw [hor]
  exact ((FirstDue.single (lo := 3 + 3 * i.val) (timerDue_iff _) (.silence i) rfl).or
    (FirstDue.single (timerDue_iff _) (.permit i) (by simp only [dueRank]; omega)) (by omega)).or
    (FirstDue.single (timerDue_iff _) (.drain i) (by simp only [dueRank]; omega)) (by omega)

theorem firstDue_segment (s : State) (g : SegIdx) :
    FirstDue s (27 + 2 * g.val) (27 + 2 * (g.val + 1)) (dueOfSegment s g) := by
  have hor : dueOfSegment s g =
      (if timerDue (s.seg g).travel then some (Instr.travelTimerExpiry g) else none).or
      (if timerDue (s.seg g).flush then some (.flushTimerExpiry g) else none) := by
    simp only [dueOfSegment]
    split <;> split <;> simp
  rw [hor]
  exact (FirstDue.single (lo := 27 + 2 * g.val) (timerDue_iff _) (.travel g) rfl).or
    (FirstDue.single (timerDue_iff _) (.flush g) (by simp only [dueRank]; omega)) (by omega)

theorem firstDue_bin (s : State) (b : BinIdx) :
    FirstDue s (155 + 2 * b.val) (155 + 2 * (b.val + 1)) (dueOfBin s b) := by
  have hor : dueOfBin s b =
      (if timerDue (s.bin b).pollTimer then some (Instr.pollTimerExpiry b) else none).or
      (if timerDue (s.bin b).replyTimer then some (.replyTimerExpiry b) else none) := by
    simp only [dueOfBin]
    split <;> split <;> simp
  rw [hor]
  exact (FirstDue.single (lo := 155 + 2 * b.val) (timerDue_iff _) (.poll b) rfl).or
    (FirstDue.single (timerDue_iff _) (.reply b) (by simp only [dueRank]; omega)) (by omega)

theorem phases_ne_zero_iff (p : LampPattern) : p.phases ≠ 0 ↔ p ≠ .off ∧ p ≠ .steady := by
  cases p <;> simp [LampPattern.phases]

theorem firstDue_lamp (s : State) (n : LampIdx) :
    FirstDue s (235 + 1 * n.val) (235 + 1 * (n.val + 1)) (dueOfLamp s n) := by
  have hif : ∃ q : Prop, ∃ _ : Decidable q, (q ↔ s.Due (.lampPhaseEnd n)) ∧
      dueOfLamp s n = if q then some (.lampPhaseEnd n) else none := by
    have hdue : s.Due (.lampPhaseEnd n) ↔ ∃ sh, (s.ind.lamps.get n).shown = some sh ∧ sh.pattern ≠ .off ∧
        sh.pattern ≠ .steady ∧ sh.left = 0 := Iff.rfl
    rw [hdue, dueOfLamp]
    cases (s.ind.lamps.get n).shown with
    | none => exact ⟨False, inferInstance, by simp, rfl⟩
    | some sh => exact ⟨_, inferInstance, by simp [phases_ne_zero_iff, and_assoc], rfl⟩
  obtain ⟨q, hdec, hq, heq⟩ := hif
  rw [heq]
  exact FirstDue.single hq (.lamp n) (by simp [dueRank])

theorem firstDue_unlock (s : State) : FirstDue s 2 3 (dueOfUnlock s) := by
  have hif : ∃ q : Prop, ∃ _ : Decidable q, (q ↔ s.Due .unlockExpiry) ∧
      dueOfUnlock s = if q then some .unlockExpiry else none := by
    unfold dueOfUnlock State.Due
    cases s.mgmt.unlock with
    | none => exact ⟨False, inferInstance, by simp, rfl⟩
    | some u => exact ⟨_, inferInstance, by simp, rfl⟩
  obtain ⟨q, hdec, hq, heq⟩ := hif
  rw [heq]
  exact FirstDue.single hq .unlockExpiry rfl

theorem firstOf_cons (o : Option Instr) (l : List (Option Instr)) : firstOf (o :: l) = o.or (firstOf l) := by
  cases o <;> rfl

/-- The block attends to the due command with the first place. -/
theorem firstDue_nextDue (s : State) : FirstDue s 0 243 (nextDue s) := by
  have htx : FirstDue s 0 1 (if s.loop.tx.isSome ∧ s.loop.txLeft = 0 then some .transmitEnd else none) :=
    FirstDue.single (by simp [State.Due, Option.isSome_iff_ne_none]) .transmitEnd rfl
  have hrestart : FirstDue s 1 2 (if timerDue s.mgmt.restartLeft then some .restartIntervalEnd else none) :=
    FirstDue.single (timerDue_iff _) .restartIntervalEnd rfl
  have hstreams := FirstDue.table 3 (firstDue_stream s)
  have hsegs := FirstDue.table 27 (firstDue_segment s)
  have hbins := FirstDue.table 155 (firstDue_bin s)
  have hlamps := FirstDue.table 235 (firstDue_lamp s)
  have hlamps' : FirstDue s 235 243 (((List.finRange 8).findSome? (dueOfLamp s)).or (firstOf [])) := by
    rw [show firstOf [] = none from rfl, Option.or_none]
    exact hlamps
  simp only [nextDue, firstOf_cons]
  exact htx.or (hrestart.or ((firstDue_unlock s).or (hstreams.or (hsegs.or (hbins.or hlamps' (by decide)) (by decide))
    (by decide)) (by decide)) (by decide)) (by decide)

theorem nextDue_of_first {c : Instr} (hc : s.Due c) (hmin : ∀ d, s.Due d → dueRank c ≤ dueRank d) :
    nextDue s = some c := by
  have hfirst := firstDue_nextDue s
  cases h : nextDue s with
  | none =>
    have := hfirst.nothing h c hc (Nat.zero_le _)
    have := dueRank_lt (timed_of_due hc)
    omega
  | some d =>
    obtain ⟨hd, -, hle⟩ := hfirst.first d h
    rw [dueRank_injective (timed_of_due hc) (timed_of_due hd) (Nat.le_antisymm (hmin d hd) (hle c hc (Nat.zero_le _)))]

theorem nextDue_of_none (h : ∀ c, ¬s.Due c) : nextDue s = none := by
  cases hd : nextDue s with
  | none => rfl
  | some d => exact absurd ((firstDue_nextDue s).first d hd).1 (h d)

/-! ## A step with no command waiting (R161; log 4) -/

theorem step_of_empty (h : s.pending = []) : step s = idle s := by
  simp only [step, h]

theorem idle_of_reports (h : s.agenda ≠ []) : idle s = .next (refreshLamps (settle reportBound s)) := by
  rw [idle, if_neg (by simpa using h)]

theorem idle_of_inHand {f : MFrame} (h : s.agenda = []) (hf : s.mgmt.inHand = some f) :
    idle s = exec (decodeRequest f) s := by
  rw [idle, if_pos (by simp [h]), hf]

theorem idle_of_due {c : Instr} (h : s.agenda = []) (hf : s.mgmt.inHand = none) (hc : nextDue s = some c) :
    idle s = exec c s := by
  rw [idle, if_pos (by simp [h])]
  simp only [hf, hc]

theorem idle_of_quiet (h : s.agenda = []) (hf : s.mgmt.inHand = none) (hc : nextDue s = none) :
    idle s = .next (tickChar s) := by
  rw [idle, if_pos (by simp [h])]
  simp only [hf, hc]

theorem tickTimer_eq (o : Option Nat) : tickTimer o = o.map (· - 1) := by cases o <;> rfl

/-- Settles O35. -/
theorem manageFramesTaken : Obligations.ManageFramesTaken := by
  refine ⟨fun src tag code args s => ⟨fun hown => ?_, fun hother => ?_⟩, fun s hp => ?_⟩
  · show happens (if ownSource s src then s else _) = _
    rw [if_pos (by simp [ownSource, hown])]
  · rw [exec_manage_of_other hother]
    exact ⟨fun h hh => congrArg happens (manageReceived_of_busy h hh),
      fun h hh => congrArg happens (manageReceived_of_free h hh), fun h => congrArg happens (manageReceived_of_full h)⟩
  · intro due rank sent less
    have hdue : ∀ c, due c ↔ s.Due c := fun c => by cases c <;> exact Iff.rfl
    have hrank : ∀ c, rank c = dueRank c := fun c => by cases c <;> rfl
    clear_value due rank
    rw [step_of_empty hp]
    refine ⟨idle_of_reports, fun f => idle_of_inHand, fun ha hh => ⟨fun c hc hmin => ?_, fun hno hlt => ?_,
      fun hno hge => ⟨tickChar s, ?_, ?_⟩⟩⟩
    · refine idle_of_due ha hh (nextDue_of_first ((hdue c).mp hc) fun d hd => ?_)
      rw [← hrank, ← hrank]
      exact hmin d ((hdue d).mpr hd)
    · rw [idle_of_quiet ha hh (nextDue_of_none fun c hc => hno c ((hdue c).mpr hc))]
      simp only [tickChar]
      rw [if_pos (by simpa using hlt)]
      rfl
    · exact idle_of_quiet ha hh (nextDue_of_none fun c hc => hno c ((hdue c).mpr hc))
    · have htick : tickChar s = tickMs (s.putLoop sent) := by
        simp only [tickChar]
        rw [if_neg (by simpa using hge)]
      rw [htick]
      refine ⟨fun i => ?_, fun g => ?_, fun b => ?_, fun n => Tbl.get_map _ _ _, ?_⟩
      · simp only [stream_tickMs, Stream.tick, tickTimer_eq, State.stream_putLoop]
        rfl
      · simp only [seg_tickMs, Segment.tick, tickTimer_eq, State.seg_putLoop]
        rfl
      · simp only [bin_tickMs, Bin.tick, tickTimer_eq, State.bin_putLoop]
        rfl
      · simp only [tickMs, Management.tick, tickTimer_eq]
        rfl

end Sys2Proof.Machine
end

section
/-! The bytes of fields: numbers, optional fields, lists and sets (R158, R164), and the answers to READs
(R163 to R165). -/

namespace Sys2Proof.Machine

variable {s : State}

/-! ## Numbers -/

theorem foldl_natOfBytes (l : List Byte) (a : Nat) :
    l.foldl (fun acc b => acc * 256 + b.toNat) a = a * 256 ^ l.length + natOfBytes l := by
  induction l generalizing a with
  | nil => simp [natOfBytes]
  | cons b l ih =>
    rw [natOfBytes, List.foldl_cons, ih, List.foldl_cons, ih, List.length_cons, Nat.pow_succ']
    ring

theorem natOfBytes_cons (b : Byte) (l : List Byte) :
    natOfBytes (b :: l) = b.toNat * 256 ^ l.length + natOfBytes l := by
  rw [natOfBytes, List.foldl_cons, foldl_natOfBytes, Nat.zero_mul, Nat.zero_add]

theorem natOfBytes_bytesOf (k n : Nat) : natOfBytes (bytesOf k n) = n % 256 ^ k := by
  induction k with
  | zero => simp [bytesOf, natOfBytes, Nat.mod_one]
  | succ k ih =>
    rw [bytesOf, natOfBytes_cons, length_bytesOf, ih, Nat.mod_pow_succ, BitVec.toNat_ofNat, Nat.mul_comm, Nat.add_comm]

theorem bytesOf_two (n : Nat) : bytesOf 2 n = [BitVec.ofNat 8 (n / 256), BitVec.ofNat 8 n] := by
  simp [bytesOf]

theorem trimBytes_eq (t : Int) : trimBytes t = bytesOf 2 (t % 65536).toNat := by
  rw [trimBytes, BitVec.toNat_ofInt]
  norm_num

theorem listBytes_eq {α : Type} (enc : α → List Byte) (l : List α) :
    listBytes enc l = BitVec.ofNat 8 l.length :: (l.map enc).flatten := by
  rw [listBytes, bytesOf_one, List.flatMap_def]
  rfl

/-! ## Sets -/

/-- The bits of a sum of powers of 2 with ascending exponents, all beyond what is added to. -/
theorem testBit_foldl_pow {n : Nat} (l : List (Fin n)) (hl : l.Pairwise (· < ·)) (a : Nat) (ha : ∀ i ∈ l, a < 2 ^ i.val)
    (j : Nat) : (l.foldl (fun acc i => acc + 2 ^ i.val) a).testBit j =
      (a.testBit j || l.any fun i => decide (i.val = j)) := by
  induction l generalizing a with
  | nil => simp
  | cons i l ih =>
    obtain ⟨hi, hl⟩ := List.pairwise_cons.mp hl
    have hai := ha i (List.mem_cons_self ..)
    have hnext : ∀ k ∈ l, a + 2 ^ i.val < 2 ^ k.val := fun k hk =>
      calc a + 2 ^ i.val < 2 ^ (i.val + 1) := by rw [Nat.pow_succ]; omega
        _ ≤ 2 ^ k.val := Nat.pow_le_pow_right (by decide) (hi k hk)
    have hor : a + 2 ^ i.val = 2 ^ i.val ||| a := by
      rw [Nat.add_comm]
      simpa using Nat.two_pow_add_eq_or_of_lt hai 1
    rw [List.foldl_cons, ih hl _ hnext, hor, Nat.testBit_or, Nat.testBit_two_pow, List.any_cons,
      Bool.or_comm (decide (i.val = j)), Bool.or_assoc]

theorem testBit_setValue {n : Nat} (S : IdxSet n) (i : Fin n) : (setValue S).testBit i.val = S.has i := by
  have hasc : S.toList.Pairwise (· < ·) := (List.pairwise_lt_finRange n).filter _
  rw [setValue, testBit_foldl_pow S.toList hasc 0 (fun i _ => Nat.two_pow_pos _)]
  rw [Bool.eq_iff_iff]
  simp [IdxSet.toList, Fin.val_inj]

/-- Byte `j` of a number, counted from the least significant one. -/
theorem getElem?_reverse_bytesOf {k j : Nat} (hj : j < k) (n : Nat) :
    (bytesOf k n).reverse[j]? = some (BitVec.ofNat 8 (n / 256 ^ j)) := by
  induction k with
  | zero => omega
  | succ k ih =>
    rw [bytesOf, List.reverse_cons]
    by_cases h : j < k
    · rw [List.getElem?_append_left (by simpa using h), ih h]
    · have he : j = k := by omega
      subst he
      simp

theorem getLsbD_byte (n j i : Nat) (hi : i < 8) :
    (BitVec.ofNat 8 (n / 256 ^ j)).getLsbD i = n.testBit (8 * j + i) := by
  rw [BitVec.getLsbD_ofNat, show 256 = 2 ^ 8 from rfl, ← Nat.pow_mul, Nat.testBit_div_two_pow]
  simp [hi, Nat.add_comm]

theorem streamSetByte_bits (S : IdxSet 8) : ∃ b, streamSetByte S = [b] ∧ ∀ i : Fin 8, b.getLsbD i.val = S.has i := by
  refine ⟨_, bytesOf_one _, fun i => ?_⟩
  rw [BitVec.getLsbD_ofNat, testBit_setValue, decide_eq_true i.isLt, Bool.true_and]

theorem segSetBytes_bits (S : IdxSet 64) {j i : Fin 8} {g : Fin 64} (h : g.val = 8 * j.val + i.val) :
    ∃ b, (segSetBytes S)[j.val]? = some b ∧ b.getLsbD i.val = S.has g :=
  ⟨_, getElem?_reverse_bytesOf j.isLt _, by rw [getLsbD_byte _ _ _ i.isLt, ← h, testBit_setValue]⟩

theorem holdSetByte_bits (h : HoldSet) : ∃ b, holdSetByte h = [b] ∧ b.toNat < 32 ∧ b.getLsbD 0 = h.operator ∧
    b.getLsbD 1 = h.silent ∧ b.getLsbD 2 = h.meter ∧ b.getLsbD 3 = h.noBin ∧ b.getLsbD 4 = h.segment := by
  obtain ⟨a, b, c, d, e⟩ := h
  refine ⟨_, bytesOf_one _, ?_⟩
  revert a b c d e
  decide

/-! ## The answers to READs (R163 to R165) -/

theorem length_chunks44 (n : Nat) (l : List Byte) (h : l.length ≤ n) (hne : l ≠ []) :
    (chunks44 n l).length = (l.length + 43) / 44 := by
  have hpos := List.length_pos_iff.mpr hne
  induction n generalizing l with
  | zero => omega
  | succ n ih =>
    by_cases hle : l.length ≤ 44
    · rw [chunks44_of_le hle, List.length_singleton]
      omega
    · have hdrop : (l.drop 44).length = l.length - 44 := List.length_drop
      rw [chunks44_of_lt (Nat.not_le.mp hle), List.length_cons, ih _ (by omega) (List.ne_nil_of_length_pos (by omega))
        (by omega), hdrop]
      omega

theorem length_replyParts (q : Requester) (o : ReplyCode) {data : List Byte} (hne : data ≠ []) :
    (replyParts q o data).length = (data.length + 43) / 44 := by
  rw [replyParts, replyFrames_eq_mapIdx, List.length_mapIdx, length_chunks44 _ _ le_rfl hne]

section Reads

variable {n code : Nat} {entry : State → Fin n → List Byte} {effect : Fin n → State → State} {a : ReadArgs}
  {c : Instr} {q : Requester}

theorem readRequest_of_refused {o : ReplyCode} (h : readAnswer q code entry effect (some a) s = .refuse o) :
    readRequest c q code entry effect (some a) s = answeredWith c q o s := by
  simp only [readRequest, h] <;> rfl

theorem readRequest_of_done {data : List Byte} {eff : State → State}
    (h : readAnswer q code entry effect (some a) s = .done data eff) :
    readRequest c q code entry effect (some a) s = .next (finishRequest c ((eff s).placeReply q .done data)) := by
  simp only [readRequest, h]

theorem readAnswer_running (h : s.mgmt.restartLeft = none) :
    readAnswer q code entry effect (some a) s = readOwner q code entry effect a s := by
  have hno : ¬s.restarting = true := by simp [State.restarting, h]
  simp only [readAnswer, if_neg hno]

theorem readData_eq (hentry : ∀ k : Fin n, tableEntry code s k.val = entry s k) {i : Fin n} (hi : i.val = a.start) :
    readData code entry a (readIndices i a.count) s = readReply code n a s := by
  rw [readData, readReply, readIndices, List.flatMap_map]
  congr 1
  refine List.flatMap_congr fun k _ => ?_
  rw [← hentry]
  simp only [hi]

theorem readEffects_eq (heffect : ∀ (k : Fin n) (s : State), readEffect code k.val s = effect k s) {i : Fin n}
    (hi : i.val = a.start) (s : State) : (readIndices i a.count).foldl (fun s k => effect k s) s =
      (List.range a.count).foldl (fun u k => readEffect code ((a.start + k) % n) u) s := by
  rw [readIndices, List.foldl_map]
  congr 1
  funext u k
  rw [← heffect]
  simp only [hi]

/-- A READ by the tests of its start, its count and the room of its reply. -/
theorem readRequest_answers (hs : s.mgmt.restartLeft = none)
    (hentry : ∀ k : Fin n, tableEntry code s k.val = entry s k)
    (heffect : ∀ (k : Fin n) (s : State), readEffect code k.val s = effect k s) :
    let out := readRequest c q code entry effect (some a) s
    let data := readReply code n a s
    let room := 24 - s.loop.own.length
    (n ≤ a.start → out = answeredWith c q .badIndex s) ∧
    (a.start < n → a.count = 0 ∨ 8 < a.count → out = answeredWith c q .badRecord s) ∧
    (a.start < n → 1 ≤ a.count → a.count ≤ 8 → room < (data.length + 43) / 44 → out = answeredWith c q .full s) ∧
    (a.start < n → 1 ≤ a.count → a.count ≤ 8 → (data.length + 43) / 44 ≤ room →
      out = .next (finishRequest c
        (((List.range a.count).foldl (fun u k => readEffect code ((a.start + k) % n) u) s).placeReply q .done
          data))) := by
  intro out data room
  have hne : data ≠ [] := by simp [data, readReply, bytesOf_one]
  have hlen : (replyParts q .done data).length = (data.length + 43) / 44 := length_replyParts q .done hne
  have hidx : ∀ h : a.start < n, idx? n a.start = some ⟨a.start, h⟩ := fun h => (idx?_eq_some_iff _).mpr rfl
  have hdata : ∀ h : a.start < n, readData code entry a (readIndices ⟨a.start, h⟩ a.count) s = data := fun h =>
    readData_eq hentry rfl
  clear_value data
  refine ⟨fun h => readRequest_of_refused ?_, fun h hbad => readRequest_of_refused ?_,
    fun h h1 h8 hfull => readRequest_of_refused ?_, fun h h1 h8 hroom => ?_⟩
  · rw [readAnswer_running hs, readOwner, idx?_of_le h]
  · rw [readAnswer_running hs, readOwner, hidx h]
    exact if_neg (by omega)
  · have hno : ¬hasRoom q data s = true := by simpa [hasRoom, hlen, ownRoom] using hfull
    rw [readAnswer_running hs, readOwner, hidx h]
    simp only [h1, h8, and_self, if_true, hdata h, if_neg hno]
  · have hyes : hasRoom q data s = true := by simpa [hasRoom, hlen, ownRoom] using hroom
    have hanswer : readAnswer q code entry effect (some a) s =
        .done data fun s => (readIndices ⟨a.start, h⟩ a.count).foldl (fun s k => effect k s) s := by
      rw [readAnswer_running hs, readOwner, hidx h]
      simp only [h1, h8, and_self, if_true, hdata h, hyes]
    refine (readRequest_of_done hanswer).trans ?_
    rw [readEffects_eq (a := a) heffect rfl]

end Reads

end Sys2Proof.Machine
end

section
/-! The entries of the tables, byte by byte, and the obligation about READs (R164, R165 and the owners' rules). -/

namespace Sys2Proof.Machine

variable {s : State}

/-! ## Named values, by their place in the list that names them -/

theorem StreamState.code_eq (x : StreamState) :
    x.code = [StreamState.idle, .waiting, .feeding, .draining, .held].idxOf x := by cases x <;> decide

theorem AbortCause.code_eq (x : AbortCause) : x.code = [AbortCause.meterRestart, .demand, .meterFault, .gap, .gross,
    .leftIdle, .unlockExpired, .unlockReplaced, .enableLow, .restart].idxOf x := by cases x <;> decide

theorem LotState.code_eq (x : LotState) : x.code = [LotState.planned, .opened, .discharging, .closing].idxOf x := by
  cases x <;> decide

theorem CloseKind.code_eq (x : CloseKind) : x.code = [CloseKind.requested, .plannedClose].idxOf x := by
  cases x <;> decide

theorem SegState.code_eq (x : SegState) :
    x.code = [SegState.free, .setting, .ready, .carrying, .flushing, .closing, .fault].idxOf x := by cases x <;> decide

theorem ResKind.code_eq (x : ResKind) : x.code = [ResKind.active, .staged].idxOf x := by cases x <;> decide

theorem BinState.code_eq (x : BinState) : x.code = [BinState.outOfService, .available, .filling, .full].idxOf x := by
  cases x <;> decide

theorem GaugeState.code_eq (x : GaugeState) : x.code = [GaugeState.ok, .lost].idxOf x := by cases x <;> decide

theorem CloseKind.code_funext : CloseKind.code = [CloseKind.requested, .plannedClose].idxOf := funext CloseKind.code_eq

theorem ResKind.code_funext : ResKind.code = [ResKind.active, .staged].idxOf := funext ResKind.code_eq

/-! ## Fields of entries -/

theorem optIdx_eq {n : Nat} (o : Option (Fin n)) : optIdx o = optBytes (bytesOf 1) (o.map (·.val)) := by
  cases o <;> rfl

theorem present_eq (l : List Byte) : present l = [1] ++ l := rfl

theorem reportBytes_eq (r : CaptureReport) : reportBytes r =
    (match r.outcome with
      | .done _ => [0, 0]
      | .aborted c => [1, 1] ++ bytesOf 1 ([AbortCause.meterRestart, .demand, .meterFault, .gap, .gross, .leftIdle,
          .unlockExpired, .unlockReplaced, .enableLow, .restart].idxOf c)) ++
    bytesOf 4 r.window ++ bytesOf 8 r.counts ++ bytesOf 4 r.time ++
    (match r.outcome with | .done z => [1] ++ bytesOf 2 z | .aborted _ => [0]) ++ bytesOf 2 r.serial := by
  unfold reportBytes
  cases r.outcome with
  | done z => rfl
  | aborted c =>
    simp only [AbortCause.code_eq] <;> rfl

section Whether
variable {i : StreamIdx}

theorem unlockBytes_of_some {u : Unlock} (h : s.mgmt.unlock = some u) (hi : u.stream = i) :
    unlockBytes s i = [1] ++ bytesOf 4 u.left ++ flagByte u.held := by
  simp only [unlockBytes, h, hi, if_true]
  rfl

theorem unlockBytes_of_none (h : ∀ u, s.mgmt.unlock = some u → u.stream ≠ i) : unlockBytes s i = [0] := by
  unfold unlockBytes
  split
  next u hu => exact if_neg (h u hu)
  · rfl

theorem captureBytes_of_some {z : Capture} (h : s.tally.capture = some z) (hi : z.stream = i) :
    captureBytes s i = [1] ++ bytesOf 4 z.window ++ bytesOf 8 z.counts ++ bytesOf 4 z.time := by
  simp only [captureBytes, h, hi, if_true]
  rfl

theorem captureBytes_of_none (h : ∀ z, s.tally.capture = some z → z.stream ≠ i) : captureBytes s i = [0] := by
  unfold captureBytes
  split
  next z hz => exact if_neg (h z hz)
  · rfl

theorem activeBytes_of_some {r : RouteIdx} {y : Route} (h : (s.stream i).activeRoute = some r)
    (hr : s.routeAt r = some y) : activeBytes s i = [1] ++ bytesOf 1 r.val ++ bytesOf 1 y.bin.val := by
  have hb : s.activeBin i = some y.bin := activeBin_eq_some.mpr ⟨r, y, h, hr, rfl⟩
  simp only [activeBytes, h, hb]
  rfl

theorem activeBytes_of_none (h : ∀ r, (s.stream i).activeRoute = some r → s.routeAt r = none) :
    activeBytes s i = [0] := by
  unfold activeBytes
  split
  next r b hr hb =>
    obtain ⟨r', y, hr', hy, -⟩ := activeBin_eq_some.mp hb
    rw [h r' hr'] at hy
    cases hy
  · rfl

end Whether

section Current
variable {l : Lot}

theorem currentBytes_of_some {p : Nat} {d : Delivery} (h : l.current = some p) (hd : l.bins[p]? = some d) :
    currentBytes l = [1] ++ bytesOf 1 p ++ bytesOf 1 d.bin.val := by
  have hb : l.currentBin = some d.bin := by simp only [Lot.currentBin, h, hd, Option.map_some]
  simp only [currentBytes, h, hb]
  rfl

theorem currentBytes_of_none (h : ∀ p, l.current = some p → l.bins[p]? = none) : currentBytes l = [0] := by
  unfold currentBytes
  split
  next p b hp hb =>
    simp only [Lot.currentBin, hp, h p hp, Option.map_none, reduceCtorEq] at hb
  · rfl

end Current

section Referring
variable {k : RouteIdx}

theorem requestRefBytes_of_first {before after : List Request} {q : Request}
    (hq : s.alloc.queue = before ++ q :: after) (hk : q.route = some k) (hno : ∀ y ∈ before, y.route ≠ some k) :
    requestRefBytes s k = [1] ++ bytesOf 1 q.stream.val ++ flagByte q.granted := by
  have hfind : (s.alloc.queue.find? fun q => decide (q.route = some k)) = some q :=
    List.find?_eq_some_iff_append.mpr ⟨decide_eq_true hk, before, after, hq, fun y hy => by simpa using hno y hy⟩
  simp only [requestRefBytes, hfind]
  rfl

theorem requestRefBytes_of_none (h : ∀ q ∈ s.alloc.queue, q.route ≠ some k) : requestRefBytes s k = [0] := by
  have hfind : (s.alloc.queue.find? fun q => decide (q.route = some k)) = none :=
    List.find?_eq_none.mpr fun q hq => by simpa using h q hq
  simp only [requestRefBytes, hfind]

end Referring

/-- The index found in a table is the first that meets the test. -/
theorem Tbl.findIdx?_first {α : Type} {n : Nat} {t : Tbl α n} {p : α → Bool} {i : Fin n} (h : t.findIdx? p = some i) :
    p (t.get i) = true ∧ ∀ j < i, ¬p (t.get j) = true := by
  obtain ⟨hi, before, after, hsplit, hbefore⟩ := List.find?_eq_some_iff_append.mp h
  refine ⟨hi, fun j hj => ?_⟩
  have hmem : j ∈ before ++ i :: after := hsplit ▸ List.mem_finRange j
  have hasc := hsplit ▸ List.pairwise_lt_finRange n
  obtain ⟨-, hafter, -⟩ := List.pairwise_append.mp hasc
  rcases List.mem_append.mp hmem with hm | hm
  · simpa using hbefore j hm
  · rcases List.mem_cons.mp hm with rfl | hm
    · exact absurd hj (lt_irrefl _)
    · exact absurd hj (lt_asymm ((List.pairwise_cons.mp hafter).1 j hm))

/-- The bytes of the first index that meets a test, by what they are when one does and when none does. -/
theorem optIdx_findIdx? {α : Type} {t : Tbl α 8} {p : α → Bool} {bytes : List Byte}
    (hsome : ∀ i, p (t.get i) = true → (∀ j < i, ¬p (t.get j) = true) → bytes = [1] ++ bytesOf 1 i.val)
    (hnone : (∀ i, ¬p (t.get i) = true) → bytes = [0]) : optIdx (t.findIdx? p) = bytes := by
  cases h : t.findIdx? p with
  | none => exact (hnone fun i => by simpa using Tbl.findIdx?_eq_none_iff.mp h i).symm
  | some i =>
    obtain ⟨hi, hfirst⟩ := Tbl.findIdx?_first h
    exact (hsome i hi hfirst).symm

/-- Whether a staging record is for the route at `k`. -/
def stagedOn (k : RouteIdx) (x : Option Staging) : Bool :=
  match x with
  | some y => decide (y.route = some k)
  | none => false

theorem stagedOn_iff (k : RouteIdx) (x : Option Staging) :
    stagedOn k x = true ↔ ∃ y, x = some y ∧ y.route = some k := by
  cases x <;> simp [stagedOn]

theorem routeEntry_eq (s : State) (k : RouteIdx) : routeEntry s k = optBytes (fun r : Route =>
    bytesOf 1 r.stream.val ++ bytesOf 1 r.bin.val ++
    listBytes (fun st : Step => bytesOf 1 st.segment.val ++ optNat 1 st.position) r.steps ++ requestRefBytes s k ++
    optIdx (s.streams.findIdx? fun x => decide (x.activeRoute = some k)) ++
    optIdx (s.alloc.staging.findIdx? (stagedOn k))) (s.routeAt k) := rfl

theorem segConfigBytes_eq (c : SegConfig) : bytesOf 1 (kindNameCode c.kind.name) ++ optNat 1 c.kind.actuator ++
      optIdx c.kind.bin ++ bytesOf 2 c.flushTime ++ bytesOf 1 c.travelLimit ++ bytesOf 1 c.shareLimit ++
      flagByte c.kind.flowSwitch =
    (match c.kind with
      | .conveyor => [0, 0, 0]
      | .diverter a _ => [1, 1] ++ bytesOf 1 a ++ [0]
      | .gate a b => [2, 1] ++ bytesOf 1 a ++ [1] ++ bytesOf 1 b.val) ++
    bytesOf 2 c.flushTime ++ bytesOf 1 c.travelLimit ++ bytesOf 1 c.shareLimit ++
      [if (match c.kind with | .diverter _ f => f | _ => false) = true then 1 else 0] := by
  cases c.kind <;>
    simp [kindNameCode, SegKind.name, SegKind.actuator, SegKind.bin, SegKind.flowSwitch, optNat, optIdx, optBytes,
      bytesOf_one, flagByte] <;> rfl

/-! ## The thirteen tables -/

theorem tableEntry_zero (i : StreamIdx) : tableEntry 0 s i.val = streamConfigEntry s i := by simp [tableEntry, idx?_val]
theorem tableEntry_one (i : StreamIdx) : tableEntry 1 s i.val = calibrationEntry s i := by simp [tableEntry, idx?_val]
theorem tableEntry_two (i : StreamIdx) : tableEntry 2 s i.val = streamStatusEntry s i := by simp [tableEntry, idx?_val]
theorem tableEntry_three (k : HoldIdx) : tableEntry 3 s k.val = holdMapEntry s k := by simp [tableEntry, idx?_val]
theorem tableEntry_four (k : LotIdx) : tableEntry 4 s k.val = lotEntry s k := by simp [tableEntry, idx?_val]
theorem tableEntry_five (k : Fin 16) : tableEntry 5 s k.val = outturnEntry s k := by simp [tableEntry, idx?_val]
theorem tableEntry_six (k : RouteIdx) : tableEntry 6 s k.val = routeEntry s k := by simp [tableEntry, idx?_val]
theorem tableEntry_seven (g : SegIdx) : tableEntry 7 s g.val = segConfigEntry s g := by simp [tableEntry, idx?_val]
theorem tableEntry_eight (g : SegIdx) : tableEntry 8 s g.val = segStatusEntry s g := by simp [tableEntry, idx?_val]
theorem tableEntry_nine (b : BinIdx) : tableEntry 9 s b.val = binConfigEntry s b := by simp [tableEntry, idx?_val]
theorem tableEntry_ten (b : BinIdx) : tableEntry 10 s b.val = binStatusEntry s b := by simp [tableEntry, idx?_val]
theorem tableEntry_eleven (k : Fin 18) : tableEntry 11 s k.val = eventEntry s k := by simp [tableEntry, idx?_val]
theorem tableEntry_twelve (k : Fin 9) : tableEntry 12 s k.val = counterEntry s k := by simp [tableEntry, idx?_val]

theorem counterStream_of_stream (i : StreamIdx) (h : i.val < 9) : counterStream ⟨i.val, h⟩ = some i := idx?_val i

theorem readEffect_two (i : StreamIdx) (s : State) : readEffect 2 i.val s = statusRead i s := by
  simp only [readEffect, idx?_val, statusRead]

theorem readEffect_twelve (k : Fin 9) (s : State) : readEffect 12 k.val s = countersRead k s := by
  unfold readEffect countersRead counterStream
  cases idx? 8 k.val <;> rfl

/-- Settles O33. -/
theorem readsAnswered : Obligations.ReadsAnswered := by
  refine ⟨fun c q a code size s hc hs => ?_,
    ⟨fun k n => ⟨length_bytesOf k n, natOfBytes_bytesOf k n⟩, fun n => ⟨bytesOf_one n, bytesOf_two n⟩,
      fun α enc x l => ⟨rfl, rfl, listBytes_eq enc l⟩, trimBytes_eq, streamSetByte_bits,
      fun S => ⟨by simp [segSetBytes], fun j i g h => segSetBytes_bits S h⟩, holdSetByte_bits⟩, fun s => ?_⟩
  · unfold readRow? at hc
    split at hc
    all_goals cases hc
    · exact readRequest_answers hs tableEntry_zero fun _ _ => rfl
    · exact readRequest_answers hs tableEntry_one fun _ _ => rfl
    · exact readRequest_answers hs tableEntry_two readEffect_two
    · exact readRequest_answers hs tableEntry_three fun _ _ => rfl
    · exact readRequest_answers hs tableEntry_four fun _ _ => rfl
    · exact readRequest_answers hs tableEntry_five fun _ _ => rfl
    · exact readRequest_answers hs tableEntry_six fun _ _ => rfl
    · exact readRequest_answers hs tableEntry_seven fun _ _ => rfl
    · exact readRequest_answers hs tableEntry_eight fun _ _ => rfl
    · exact readRequest_answers hs tableEntry_nine fun _ _ => rfl
    · exact readRequest_answers hs tableEntry_ten fun _ _ => rfl
    · exact readRequest_answers hs tableEntry_eleven fun _ _ => rfl
    · exact readRequest_answers hs tableEntry_twelve readEffect_twelve
  · intro flag number deliveries
    have hflag : ∀ b, flagByte b = flag b := fun _ => rfl
    have hnumber : ∀ k o, optNat k o = number k o := fun _ _ => rfl
    refine ⟨fun i => ?_, fun i => ?_, fun i => ?_, fun k => tableEntry_three k, fun k => ?_, fun k => ?_, fun k => ?_,
      fun g => ?_, fun g => ?_, fun b => tableEntry_nine b, fun b => ?_, fun k => ?_, fun i => ?_, ?_⟩
    · rw [tableEntry_zero]
      simp only [streamConfigEntry, present_eq, hnumber, optIdx_eq, List.append_assoc]
      rfl
    · intro t record causes report unlock capture hu hu0 hz hz0
      have hreport : reportBytes = report := funext reportBytes_eq
      have hunlock : unlockBytes s i = unlock := by
        cases h : s.mgmt.unlock with
        | none => rw [unlockBytes_of_none (by simp [h]), hu0 (by simp [h])]
        | some u =>
          by_cases hi : u.stream = i
          · rw [unlockBytes_of_some h hi, hu u h hi, hflag]
          · have hno : ∀ v, s.mgmt.unlock = some v → v.stream ≠ i := by simpa [h] using hi
            rw [unlockBytes_of_none hno, hu0 hno]
      have hcapture : captureBytes s i = capture := by
        cases h : s.tally.capture with
        | none => rw [captureBytes_of_none (by simp [h]), hz0 (by simp [h])]
        | some z =>
          by_cases hi : z.stream = i
          · rw [captureBytes_of_some h hi, hz z h hi]
          · have hno : ∀ v, s.tally.capture = some v → v.stream ≠ i := by simpa [h] using hi
            rw [captureBytes_of_none hno, hz0 hno]
      rw [tableEntry_one]
      simp only [calibrationEntry, present_eq, hreport, hunlock, hcapture, hflag, List.append_assoc]
      rfl
    · intro x states last lookup suspect active hsome hnone
      have hlookup : lookupBytes = lookup := funext fun k => by cases k <;> rfl
      have hsuspect : suspectBytes = suspect := funext fun r => by
        simp only [suspectBytes, hnumber, optIdx_eq]
        rfl
      have hactive : activeBytes s i = active := by
        cases h : (s.stream i).activeRoute with
        | none =>
          rw [activeBytes_of_none (by simp [h]), hnone (by simp [x, h])]
        | some r =>
          cases hr : s.routeAt r with
          | none =>
            have hno : ∀ r', (s.stream i).activeRoute = some r' → s.routeAt r' = none := by
              intro r' h'
              rw [h] at h'
              cases h'
              exact hr
            rw [activeBytes_of_none hno, hnone hno]
          | some y => rw [activeBytes_of_some h hr, hsome r y h hr]
      rw [tableEntry_two]
      simp only [streamStatusEntry, present_eq, hlookup, hsuspect, hactive, hflag, hnumber, StreamState.code_eq,
        List.append_assoc]
      rfl
    · intro states closes
      refine ⟨fun h => ?_, fun l current h hsome hnone => ?_⟩
      · rw [tableEntry_four, lotEntry, h]
        rfl
      · have hcurrent : currentBytes l = current := by
          cases hp : l.current with
          | none => rw [currentBytes_of_none (by simp [hp]), hnone (by simp [hp])]
          | some p =>
            cases hd : l.bins[p]? with
            | none =>
              have hno : ∀ p', l.current = some p' → l.bins[p']? = none := by
                intro p' h'
                rw [hp] at h'
                cases h'
                exact hd
              rw [currentBytes_of_none hno, hnone hno]
            | some d => rw [currentBytes_of_some hp hd, hsome p d hp hd]
        rw [tableEntry_four, lotEntry, h]
        simp only [optBytes, lotBytes, hcurrent, hflag, hnumber, LotState.code_eq, CloseKind.code_funext,
          List.append_assoc]
        rfl
    · intro closes
      have hout : outturnBytes = fun r : Outturn => bytesOf 2 r.number ++ bytesOf 1 r.cls ++ number 4 r.declared ++
          bytesOf 8 r.certified ++ bytesOf 8 r.uncertified ++ streamSetByte r.used ++ deliveries r.deliveries ++
          bytesOf 1 (closes.idxOf r.closeKind) := funext fun r => by
        simp only [outturnBytes, CloseKind.code_eq]
        rfl
      rw [tableEntry_five, outturnEntry, hout]
    · refine ⟨fun h => ?_, fun r request active staging h hq hq0 ha ha0 hs hs0 => ?_⟩
      · rw [tableEntry_six, routeEntry, h]
        rfl
      · have hrequest : requestRefBytes s k = request := by
          by_cases hno : ∀ q ∈ s.alloc.queue, q.route ≠ some k
          · rw [requestRefBytes_of_none hno, hq0 hno]
          · have hex : ∃ q, (s.alloc.queue.find? fun q => decide (q.route = some k)) = some q := by
              rw [← Option.isSome_iff_exists, List.find?_isSome]
              simpa using hno
            obtain ⟨q, hfind⟩ := hex
            obtain ⟨hk, before, after, hsplit, hbefore⟩ := List.find?_eq_some_iff_append.mp hfind
            have hk' := of_decide_eq_true hk
            have hbefore' : ∀ y ∈ before, y.route ≠ some k := fun y hy => by simpa using hbefore y hy
            rw [requestRefBytes_of_first hsplit hk' hbefore', hq before q after hsplit hk' hbefore', hflag]
        have hactive : optIdx (s.streams.findIdx? fun x => decide (x.activeRoute = some k)) = active :=
          optIdx_findIdx? (fun i hi hfirst => ha i (of_decide_eq_true hi) fun j hj => by
            simpa [State.stream] using hfirst j hj) fun hno => ha0 fun i => by simpa [State.stream] using hno i
        have hstaging : optIdx (s.alloc.staging.findIdx? (stagedOn k)) = staging := by
          refine optIdx_findIdx? (fun i hi hfirst => ?_) fun hno => hs0 fun i x hx hr => ?_
          · obtain ⟨x, hx, hr⟩ := (stagedOn_iff _ _).mp hi
            exact hs i x hx hr fun j hj y hy hyr => hfirst j hj ((stagedOn_iff _ _).mpr ⟨y, hy, hyr⟩)
          · exact hno i ((stagedOn_iff _ _).mpr ⟨x, hx, hr⟩)
        rw [tableEntry_six, routeEntry_eq, h]
        simp only [optBytes, hrequest, hactive, hstaging, hnumber, List.append_assoc]
        rfl
    · rw [tableEntry_seven, segConfigEntry]
      refine congrArg (fun e => optBytes e (s.seg g).config) (funext fun c => ?_)
      exact segConfigBytes_eq c
    · intro x states kinds
      rw [tableEntry_eight]
      simp only [segStatusEntry, present_eq, hflag, hnumber, SegState.code_eq, ResKind.code_funext, List.append_assoc]
      rfl
    · intro x states gauges
      rw [tableEntry_ten]
      simp only [binStatusEntry, present_eq, hflag, hnumber, BinState.code_eq, GaugeState.code_eq, optIdx_eq,
        List.append_assoc]
      rfl
    · intro r
      rw [tableEntry_eleven]
      simp only [eventEntry, present_eq, hflag, List.append_assoc]
      rfl
    · have hc : counterStream ⟨i.val, by omega⟩ = some i := idx?_val i
      rw [show i.val = (⟨i.val, by omega⟩ : Fin 9).val from rfl, tableEntry_twelve]
      simp only [counterEntry, hc, present_eq, List.append_assoc]
    · have hc : counterStream 8 = none := rfl
      refine (tableEntry_twelve 8).trans ?_
      simp only [counterEntry, hc, present_eq, List.append_assoc]

end Sys2Proof.Machine
end

section
/-! Refusals before any owner acts, and what the bytes of a request spell (R163, R164, R166, R167). -/

namespace Sys2Proof.Machine

variable {s : State}

/-! ## The first tests of a request (R163, R168) -/

/-- A request is refused in the restart interval, and with arguments that fail outside it. -/
def TestedFirst (c : Instr) (q : Requester) (s : State) : Prop :=
  (s.mgmt.restartLeft ≠ none → exec c s = answeredWith c q .restarting s) ∧
    (s.mgmt.restartLeft = none → malformed c = true → exec c s = answeredWith c q .badRecord s)

theorem restarting_iff (s : State) : s.restarting = true ↔ s.mgmt.restartLeft ≠ none := by
  simp [State.restarting, Option.isSome_iff_ne_none]

theorem not_restarting (h : s.mgmt.restartLeft = none) : s.restarting = false := by simp [State.restarting, h]

section Tested
variable {c : Instr} {q : Requester}

theorem testedFirst_of_request {α : Type} {a : Option α} {own : α → State → Answer}
    (h : exec c s = request c q a own s) (hm : malformed c = a.isNone) : TestedFirst c q s := by
  refine ⟨fun hs => ?_, fun hs hbad => ?_⟩
  · rw [h]
    simp only [request, owned, (restarting_iff s).mpr hs, if_true, answer]
  · have ha : a = none := by rwa [hm, Option.isNone_iff_eq_none] at hbad
    rw [h, ha]
    simp only [request, owned, not_restarting hs, Bool.false_eq_true, if_false, answer]

theorem testedFirst_of_read {n code : Nat} {entry : State → Fin n → List Byte} {effect : Fin n → State → State}
    {a : Option ReadArgs} (h : exec c s = readRequest c q code entry effect a s) (hm : malformed c = a.isNone) :
    TestedFirst c q s := by
  refine ⟨fun hs => ?_, fun hs hbad => ?_⟩
  · rw [h]
    simp only [readRequest, readAnswer, (restarting_iff s).mpr hs, if_true, answeredWith, replied]
  · have ha : a = none := by rwa [hm, Option.isNone_iff_eq_none] at hbad
    rw [h, ha]
    simp only [readRequest, readAnswer, not_restarting hs, Bool.false_eq_true, if_false, answeredWith, replied]

theorem testedFirst_restart (a : Option Unit) : TestedFirst (.restart q a) q s := by
  have hexec : exec (.restart q a) s = execRestart q a s := rfl
  refine ⟨fun hs => ?_, fun hs hbad => ?_⟩
  · rw [hexec]
    simp only [execRestart, (restarting_iff s).mpr hs, if_true]
  · have ha : a = none := Option.isNone_iff_eq_none.mp hbad
    rw [hexec, ha]
    simp only [execRestart, not_restarting hs, Bool.false_eq_true, if_false]

theorem testedFirst_of_requester (h : requester? c = some q) (s : State) : TestedFirst c q s := by
  cases c with
  | restart q' a =>
    cases h
    exact testedFirst_restart a
  | readStreamConfig | readCalibration | readStreamStatus | readHoldMap | readLot | readOutturn | readRoute
  | readSegmentConfig | readSegmentStatus | readBinConfig | readBinStatus | readEvents | readCounters =>
    cases h
    exact testedFirst_of_read rfl rfl
  | reset | calenFall | calenRise | frameReceived | sample | level | posrep | manage | restartIntervalEnd
  | silenceTimerExpiry | permitTimerExpiry | drainTimerExpiry | unlockExpiry | travelTimerExpiry | flushTimerExpiry
  | pollTimerExpiry | replyTimerExpiry | transmitEnd | lampPhaseEnd => cases h
  | _ =>
    cases h
    exact testedFirst_of_request rfl rfl

end Tested

theorem exec_unknownRequest (q : Requester) (bad : UnknownCode) (hs : s.mgmt.restartLeft = none) :
    exec (.unknownRequest q bad) s = answeredWith (.unknownRequest q bad) q
      (match bad with | .request _ => .unknown | .table _ => .badTable) s :=
  request_of_refuse (.unknownRequest q bad) q (a := ()) hs rfl

theorem exec_writeReadOnlyTable (q : Requester) (table : ReadOnlyTable) (hs : s.mgmt.restartLeft = none) :
    exec (.writeReadOnlyTable q table) s = answeredWith (.writeReadOnlyTable q table) q .badTable s :=
  request_of_refuse (.writeReadOnlyTable q table) q (a := ()) (owner := fun _ _ => .refuse .badTable) hs rfl

/-! ## Readers of argument bytes -/

/-- `rd` reads exactly the bytes `enc x` of the values `x` that meet `ok`, and leaves the bytes after them. -/
def Reads {α : Type} (rd : List Byte → Option (α × List Byte)) (ok : α → Prop) (enc : α → List Byte) : Prop :=
  ∀ l x rest, rd l = some (x, rest) ↔ ok x ∧ l = enc x ++ rest

theorem bytesOf_natOfBytes (l : List Byte) : bytesOf l.length (natOfBytes l) = l := by
  induction l with
  | nil => rfl
  | cons b l ih =>
    have hlt : natOfBytes l < 256 ^ l.length := by
      rw [← ih, natOfBytes_bytesOf, length_bytesOf]
      exact Nat.mod_lt _ (by positivity)
    have hmod : ∀ k m a : Nat, bytesOf k (a * 256 ^ k + m) = bytesOf k m := by
      intro k
      induction k with
      | zero => intros; rfl
      | succ k ihk =>
        intro m a
        have hsplit : a * 256 ^ (k + 1) + m = a * 256 * 256 ^ k + m := by ring
        rw [bytesOf, bytesOf, hsplit, ihk]
        congr 1
        apply BitVec.eq_of_toNat_eq
        rw [BitVec.toNat_ofNat, BitVec.toNat_ofNat, Nat.add_comm, Nat.add_mul_div_right _ _ (by positivity)]
        omega
    rw [List.length_cons, bytesOf, natOfBytes_cons, hmod, ih]
    congr 1
    apply BitVec.eq_of_toNat_eq
    have hb := b.isLt
    rw [BitVec.toNat_ofNat, Nat.add_comm, Nat.add_mul_div_right _ _ (by positivity), Nat.div_eq_of_lt hlt, Nat.zero_add]
    omega

theorem reads_takeNat (k : Nat) : Reads (takeNat k) (· < 256 ^ k) (bytesOf k) := by
  intro l x rest
  simp only [takeNat, Option.ite_none_right_eq_some, Option.some.injEq, Prod.mk.injEq]
  constructor
  · rintro ⟨hle, rfl, rfl⟩
    have htake : (l.take k).length = k := List.length_take_of_le hle
    have hb := bytesOf_natOfBytes (l.take k)
    rw [htake] at hb
    refine ⟨?_, ?_⟩
    · rw [← hb, natOfBytes_bytesOf]
      exact Nat.mod_lt _ (by positivity)
    · rw [hb, List.take_append_drop]
  · rintro ⟨hlt, rfl⟩
    refine ⟨by simp, ?_, ?_⟩
    · rw [List.take_left' (length_bytesOf k x), natOfBytes_bytesOf, Nat.mod_eq_of_lt hlt]
    · rw [List.drop_left' (length_bytesOf k x)]

theorem reads_takeFlag : Reads takeFlag (fun _ => True) flagByte := by
  intro l x rest
  cases l with
  | nil => cases x <;> simp [takeFlag, flagByte]
  | cons b l =>
    simp only [takeFlag]
    split
    next h => cases x <;> simp [h, flagByte]
    next h =>
      split
      next h' => cases x <;> simp [h', flagByte]
      next h' => cases x <;> simp [show b ≠ 0#8 from h, show b ≠ 1#8 from h', flagByte]

theorem reads_takeTrim : Reads takeTrim (fun t => -32768 ≤ t ∧ t ≤ 32767) trimBytes := by
  intro l x rest
  have hread := reads_takeNat 2 l
  unfold takeTrim
  constructor
  · intro h
    split at h
    next n l' hn =>
      obtain ⟨hlt, rfl⟩ := (hread n l').mp hn
      cases h
      have hpow : n < 65536 := hlt
      refine ⟨⟨BitVec.le_toInt _, Int.le_of_lt_add_one (BitVec.toInt_lt)⟩, ?_⟩
      rw [trimBytes, BitVec.ofInt_toInt, BitVec.toNat_ofNat, Nat.mod_eq_of_lt hpow]
    · cases h
  · rintro ⟨⟨hlo, hhi⟩, rfl⟩
    have hn := (hread (BitVec.ofInt 16 x).toNat rest).mpr ⟨(BitVec.ofInt 16 x).isLt, rfl⟩
    rw [hn]
    simp only [BitVec.ofNat_toNat, BitVec.setWidth_eq, BitVec.toInt_ofInt, Option.some.injEq, Prod.mk.injEq, and_true]
    simp only [Int.bmod]
    omega

section Combined
variable {α : Type} {rd : List Byte → Option (α × List Byte)} {ok : α → Prop} {enc : α → List Byte}
  (h : Reads rd ok enc)
include h

theorem reads_takeOpt : Reads (takeOpt rd) (fun o => ∀ x, o = some x → ok x) (optBytes enc) := by
  intro l o rest
  have hflag := reads_takeFlag l
  unfold takeOpt
  constructor
  · intro hl
    split at hl
    next l' hf =>
      obtain ⟨-, rfl⟩ := (hflag false l').mp hf
      cases hl
      exact ⟨nofun, rfl⟩
    next l' hf =>
      obtain ⟨-, rfl⟩ := (hflag true l').mp hf
      split at hl
      next x l'' hx =>
        obtain ⟨hok, rfl⟩ := (h l' x l'').mp hx
        cases hl
        exact ⟨fun y hy => by cases hy; exact hok, rfl⟩
      · cases hl
    · cases hl
  · rintro ⟨hok, rfl⟩
    cases o with
    | none =>
      have hf := (hflag false rest).mpr ⟨trivial, rfl⟩
      rw [show optBytes enc none ++ rest = flagByte false ++ rest from rfl] at *
      rw [hf]
    | some x =>
      have hf := (hflag true (enc x ++ rest)).mpr ⟨trivial, rfl⟩
      have hx := (h (enc x ++ rest) x rest).mpr ⟨hok x rfl, rfl⟩
      rw [show optBytes enc (some x) ++ rest = flagByte true ++ (enc x ++ rest) from rfl] at *
      simp only [hf, hx]

theorem reads_takeItems (n : Nat) :
    Reads (takeItems rd n) (fun l => l.length = n ∧ ∀ x ∈ l, ok x) (List.flatMap enc) := by
  induction n with
  | zero =>
    intro l xs rest
    simp only [takeItems, Option.some.injEq, Prod.mk.injEq, List.length_eq_zero_iff]
    constructor
    · rintro ⟨rfl, rfl⟩
      exact ⟨⟨rfl, nofun⟩, rfl⟩
    · rintro ⟨⟨rfl, -⟩, rfl⟩
      exact ⟨rfl, rfl⟩
  | succ n ih =>
    intro l xs rest
    rw [takeItems]
    constructor
    · intro hl
      split at hl
      next x l' hx =>
        split at hl
        next ys l'' hys =>
          obtain ⟨hok, rfl⟩ := (h l x l').mp hx
          obtain ⟨⟨hlen, hall⟩, rfl⟩ := (ih l' ys l'').mp hys
          cases hl
          refine ⟨⟨by rw [List.length_cons, hlen], fun y hy => ?_⟩, by rw [List.flatMap_cons, List.append_assoc]⟩
          rcases List.mem_cons.mp hy with rfl | hy
          · exact hok
          · exact hall y hy
        · cases hl
      · cases hl
    · rintro ⟨⟨hlen, hall⟩, rfl⟩
      cases xs with
      | nil => cases hlen
      | cons x xs =>
        have hx := (h _ x (xs.flatMap enc ++ rest)).mpr ⟨hall x (List.mem_cons_self ..), rfl⟩
        have hxs := (ih _ xs rest).mpr ⟨⟨Nat.succ.inj hlen, fun y hy => hall y (List.mem_cons_of_mem _ hy)⟩, rfl⟩
        rw [List.flatMap_cons, List.append_assoc, hx]
        simp only [hxs]

theorem reads_takeList : Reads (takeList rd) (fun l => l.length < 256 ∧ ∀ x ∈ l, ok x) (listBytes enc) := by
  intro l xs rest
  unfold takeList
  constructor
  · intro hl
    split at hl
    next n l' hn =>
      obtain ⟨hlt, rfl⟩ := (reads_takeNat 1 l n l').mp hn
      obtain ⟨⟨rfl, hall⟩, rfl⟩ := (reads_takeItems h n l' xs rest).mp hl
      exact ⟨⟨hlt, hall⟩, by rw [listBytes, List.append_assoc]⟩
    · cases hl
  · rintro ⟨⟨hlt, hall⟩, rfl⟩
    have hn := (reads_takeNat 1 _ xs.length (xs.flatMap enc ++ rest)).mpr ⟨hlt, rfl⟩
    rw [listBytes, List.append_assoc, hn]
    exact (reads_takeItems h xs.length _ xs rest).mpr ⟨⟨rfl, hall⟩, rfl⟩

end Combined

end Sys2Proof.Machine
end

section
/-! The records of WRITEs, the arguments of the other requests, and what a WRITE spells (R163, R164, R166,
R167). -/

namespace Sys2Proof.Machine

/-! ## Records of a WRITE (R166) -/

/-- An optional number fits `k` bytes. -/
def Fits (k : Nat) (o : Option Nat) : Prop := ∀ n, o = some n → n < 256 ^ k

theorem takeOptNat_iff (k : Nat) (l : List Byte) (o : Option Nat) (rest : List Byte) :
    takeOpt (takeNat k) l = some (o, rest) ↔ Fits k o ∧ l = optNat k o ++ rest :=
  reads_takeOpt (reads_takeNat k) l o rest

theorem takeStreamConfig_iff (l : List Byte) (r : StreamConfigWrite) (rest : List Byte) :
    takeStreamConfig l = some (r, rest) ↔ Fits 1 r.meter ∧ Fits 1 r.unloader ∧ Fits 1 r.intake ∧ Fits 2 r.gapLimit ∧
      Fits 2 r.silenceTime ∧ Fits 2 r.unrouted ∧ l = optNat 1 r.meter ++ optNat 1 r.unloader ++ optNat 1 r.intake ++
        optNat 2 r.gapLimit ++ optNat 2 r.silenceTime ++ optNat 2 r.unrouted ++ rest := by
  obtain ⟨a, b, c, d, e, f⟩ := r
  simp only [takeStreamConfig, Option.bind_eq_bind, Option.bind_eq_some_iff, Prod.exists, takeOptNat_iff,
    Option.some.injEq, Prod.mk.injEq, StreamConfigWrite.mk.injEq]
  constructor
  · rintro ⟨_, _, ⟨ha, rfl⟩, _, _, ⟨hb, rfl⟩, _, _, ⟨hc, rfl⟩, _, _, ⟨hd, rfl⟩, _, _, ⟨he, rfl⟩, _, _, ⟨hf, rfl⟩,
      ⟨rfl, rfl, rfl, rfl, rfl, rfl⟩, rfl⟩
    exact ⟨ha, hb, hc, hd, he, hf, by simp only [List.append_assoc]⟩
  · rintro ⟨ha, hb, hc, hd, he, hf, rfl⟩
    simp only [List.append_assoc]
    exact ⟨_, _, ⟨ha, rfl⟩, _, _, ⟨hb, rfl⟩, _, _, ⟨hc, rfl⟩, _, _, ⟨hd, rfl⟩, _, _, ⟨he, rfl⟩, _, _, ⟨hf, rfl⟩,
      ⟨rfl, rfl, rfl, rfl, rfl, rfl⟩, rfl⟩

theorem takeCalibration_iff (l : List Byte) (r : CalibrationWrite) (rest : List Byte) :
    takeCalibration l = some (r, rest) ↔ Fits 4 r.span ∧ Fits 2 r.zero ∧ Fits 4 r.ceiling ∧ Fits 4 r.jump ∧
      (∀ t, r.trim = some t → -32768 ≤ t ∧ t ≤ 32767) ∧ l = optNat 4 r.span ++ optNat 2 r.zero ++
        optBytes trimBytes r.trim ++ optNat 4 r.ceiling ++ optNat 4 r.jump ++ rest := by
  obtain ⟨a, b, c, d, e⟩ := r
  have htrim : ∀ l o rest, takeOpt takeTrim l = some (o, rest) ↔ _ := reads_takeOpt reads_takeTrim
  simp only [takeCalibration, Option.bind_eq_bind, Option.bind_eq_some_iff, Prod.exists, takeOptNat_iff, htrim,
    Option.some.injEq, Prod.mk.injEq, CalibrationWrite.mk.injEq]
  constructor
  · rintro ⟨_, _, ⟨ha, rfl⟩, _, _, ⟨hb, rfl⟩, _, _, ⟨hc, rfl⟩, _, _, ⟨hd, rfl⟩, _, _, ⟨he, rfl⟩,
      ⟨rfl, rfl, rfl, rfl, rfl⟩, rfl⟩
    exact ⟨ha, hb, hd, he, hc, by simp only [List.append_assoc]⟩
  · rintro ⟨ha, hb, hd, he, hc, rfl⟩
    simp only [List.append_assoc]
    exact ⟨_, _, ⟨ha, rfl⟩, _, _, ⟨hb, rfl⟩, _, _, ⟨hc, rfl⟩, _, _, ⟨hd, rfl⟩, _, _, ⟨he, rfl⟩,
      ⟨rfl, rfl, rfl, rfl, rfl⟩, rfl⟩

theorem takeHold_iff (l : List Byte) (r : HoldWrite) (rest : List Byte) :
    takeHold l = some (r, rest) ↔ Fits 1 r.hold ∧ Fits 1 r.layer ∧ Fits 2 r.lot ∧
      l = optNat 1 r.hold ++ optNat 1 r.layer ++ optNat 2 r.lot ++ rest := by
  obtain ⟨a, b, c⟩ := r
  simp only [takeHold, Option.bind_eq_bind, Option.bind_eq_some_iff, Prod.exists, takeOptNat_iff, Option.some.injEq,
    Prod.mk.injEq, HoldWrite.mk.injEq]
  constructor
  · rintro ⟨_, _, ⟨ha, rfl⟩, _, _, ⟨hb, rfl⟩, _, _, ⟨hc, rfl⟩, ⟨rfl, rfl, rfl⟩, rfl⟩
    exact ⟨ha, hb, hc, by simp only [List.append_assoc]⟩
  · rintro ⟨ha, hb, hc, rfl⟩
    simp only [List.append_assoc]
    exact ⟨_, _, ⟨ha, rfl⟩, _, _, ⟨hb, rfl⟩, _, _, ⟨hc, rfl⟩, ⟨rfl, rfl, rfl⟩, rfl⟩

theorem takeLot_iff (l : List Byte) (r : LotWrite) (rest : List Byte) :
    takeLot l = some (r, rest) ↔ Fits 2 r.number ∧ Fits 1 r.cls ∧ Fits 4 r.declared ∧ Fits 1 r.tolerance ∧
      (∀ l, r.bins = some l → l.length < 256 ∧ ∀ n ∈ l, n < 256) ∧ l = optNat 2 r.number ++ optNat 1 r.cls ++
        optNat 4 r.declared ++ optNat 1 r.tolerance ++ optBytes (listBytes (bytesOf 1)) r.bins ++ rest := by
  obtain ⟨a, b, c, d, e⟩ := r
  have hbins : ∀ l o rest, takeOpt (takeList (takeNat 1)) l = some (o, rest) ↔ _ :=
    reads_takeOpt (reads_takeList (reads_takeNat 1))
  simp only [takeLot, Option.bind_eq_bind, Option.bind_eq_some_iff, Prod.exists, takeOptNat_iff, hbins,
    Option.some.injEq, Prod.mk.injEq, LotWrite.mk.injEq]
  constructor
  · rintro ⟨_, _, ⟨ha, rfl⟩, _, _, ⟨hb, rfl⟩, _, _, ⟨hc, rfl⟩, _, _, ⟨hd, rfl⟩, _, _, ⟨he, rfl⟩,
      ⟨rfl, rfl, rfl, rfl, rfl⟩, rfl⟩
    exact ⟨ha, hb, hc, hd, he, by simp only [List.append_assoc]⟩
  · rintro ⟨ha, hb, hc, hd, he, rfl⟩
    simp only [List.append_assoc]
    exact ⟨_, _, ⟨ha, rfl⟩, _, _, ⟨hb, rfl⟩, _, _, ⟨hc, rfl⟩, _, _, ⟨hd, rfl⟩, _, _, ⟨he, rfl⟩,
      ⟨rfl, rfl, rfl, rfl, rfl⟩, rfl⟩

theorem reads_takeStep : Reads takeStep (fun st => (∃ g, st.segment = some g ∧ g < 256) ∧ Fits 1 st.position)
    (fun st => bytesOf 1 (st.segment.getD 0) ++ optNat 1 st.position) := by
  rintro l ⟨a, b⟩ rest
  have hseg : ∀ l n rest, takeNat 1 l = some (n, rest) ↔ _ := reads_takeNat 1
  simp only [takeStep, Option.bind_eq_bind, Option.bind_eq_some_iff, Prod.exists, takeOptNat_iff, hseg,
    Option.some.injEq, Prod.mk.injEq, StepWrite.mk.injEq]
  constructor
  · rintro ⟨g, _, ⟨ha, rfl⟩, _, _, ⟨hb, rfl⟩, ⟨rfl, rfl⟩, rfl⟩
    exact ⟨⟨⟨g, rfl, ha⟩, hb⟩, by simp only [List.append_assoc, Option.getD_some]⟩
  · rintro ⟨⟨⟨g, rfl, ha⟩, hb⟩, rfl⟩
    simp only [List.append_assoc, Option.getD_some]
    exact ⟨_, _, ⟨ha, rfl⟩, _, _, ⟨hb, rfl⟩, ⟨rfl, rfl⟩, rfl⟩

theorem takeRoute_iff (l : List Byte) (r : RouteWrite) (rest : List Byte) :
    takeRoute l = some (r, rest) ↔ Fits 1 r.stream ∧ Fits 1 r.bin ∧
      (∀ l, r.steps = some l →
        l.length < 256 ∧ ∀ st ∈ l, (∃ g, st.segment = some g ∧ g < 256) ∧ Fits 1 st.position) ∧
      l = optNat 1 r.stream ++ optNat 1 r.bin ++ optBytes (listBytes fun st : StepWrite =>
        bytesOf 1 (st.segment.getD 0) ++ optNat 1 st.position) r.steps ++ rest := by
  obtain ⟨a, b, c⟩ := r
  have hsteps : ∀ l o rest, takeOpt (takeList takeStep) l = some (o, rest) ↔ _ :=
    reads_takeOpt (reads_takeList reads_takeStep)
  simp only [takeRoute, Option.bind_eq_bind, Option.bind_eq_some_iff, Prod.exists, takeOptNat_iff, hsteps,
    Option.some.injEq, Prod.mk.injEq, RouteWrite.mk.injEq]
  constructor
  · rintro ⟨_, _, ⟨ha, rfl⟩, _, _, ⟨hb, rfl⟩, _, _, ⟨hc, rfl⟩, ⟨rfl, rfl, rfl⟩, rfl⟩
    exact ⟨ha, hb, hc, by simp only [List.append_assoc]⟩
  · rintro ⟨ha, hb, hc, rfl⟩
    simp only [List.append_assoc]
    exact ⟨_, _, ⟨ha, rfl⟩, _, _, ⟨hb, rfl⟩, _, _, ⟨hc, rfl⟩, ⟨rfl, rfl, rfl⟩, rfl⟩

theorem reads_takeKind : Reads takeKind (fun _ => True) (fun k => bytesOf 1 (kindNameCode k)) := by
  intro l k rest
  have hn : ∀ l n rest, takeNat 1 l = some (n, rest) ↔ _ := reads_takeNat 1
  have hnamed : ∀ l n rest, takeNamed 3 l = some (n, rest) ↔ n < 3 ∧ l = bytesOf 1 n ++ rest := by
    intro l n rest
    unfold takeNamed
    constructor
    · intro h
      split at h
      next m l' hm =>
        obtain ⟨hlt, he⟩ := Option.ite_none_right_eq_some.mp h
        cases he
        exact ⟨hlt, ((hn _ _ _).mp hm).2⟩
      · cases h
    · rintro ⟨hlt, rfl⟩
      rw [(hn _ n rest).mpr ⟨by omega, rfl⟩]
      exact if_pos hlt
  simp only [takeKind, Option.bind_eq_bind, Option.bind_eq_some_iff, Prod.exists, hnamed, Option.some.injEq,
    Prod.mk.injEq, true_and]
  constructor
  · rintro ⟨n, _, ⟨hlt, rfl⟩, rfl, rfl⟩
    interval_cases n <;> rfl
  · rintro rfl
    cases k
    · exact ⟨0, rest, ⟨by decide, rfl⟩, rfl, rfl⟩
    · exact ⟨1, rest, ⟨by decide, rfl⟩, rfl, rfl⟩
    · exact ⟨2, rest, ⟨by decide, rfl⟩, rfl, rfl⟩

theorem takeSegConfig_iff (l : List Byte) (r : SegConfigWrite) (rest : List Byte) :
    takeSegConfig l = some (r, rest) ↔ Fits 1 r.actuator ∧ Fits 1 r.bin ∧ Fits 2 r.flushTime ∧ Fits 1 r.travelLimit ∧
      Fits 1 r.shareLimit ∧ l = optBytes (fun k => bytesOf 1 (kindNameCode k)) r.kind ++ optNat 1 r.actuator ++
        optNat 1 r.bin ++ optNat 2 r.flushTime ++ optNat 1 r.travelLimit ++ optNat 1 r.shareLimit ++
        optBytes flagByte r.flowSwitch ++ rest := by
  obtain ⟨k, a, b, f, t, s, w⟩ := r
  have hkind : ∀ l o rest, takeOpt takeKind l = some (o, rest) ↔ _ := reads_takeOpt reads_takeKind
  have hswitch : ∀ l o rest, takeOpt takeFlag l = some (o, rest) ↔ _ := reads_takeOpt reads_takeFlag
  simp only [takeSegConfig, Option.bind_eq_bind, Option.bind_eq_some_iff, Prod.exists, takeOptNat_iff, hkind, hswitch,
    Option.some.injEq, Prod.mk.injEq, SegConfigWrite.mk.injEq, implies_true, true_and]
  constructor
  · rintro ⟨_, _, rfl, _, _, ⟨ha, rfl⟩, _, _, ⟨hb, rfl⟩, _, _, ⟨hf, rfl⟩, _, _, ⟨ht, rfl⟩, _, _, ⟨hs, rfl⟩, _, _, rfl,
      ⟨rfl, rfl, rfl, rfl, rfl, rfl, rfl⟩, rfl⟩
    exact ⟨ha, hb, hf, ht, hs, by simp only [List.append_assoc]⟩
  · rintro ⟨ha, hb, hf, ht, hs, rfl⟩
    simp only [List.append_assoc]
    exact ⟨_, _, rfl, _, _, ⟨ha, rfl⟩, _, _, ⟨hb, rfl⟩, _, _, ⟨hf, rfl⟩, _, _, ⟨ht, rfl⟩, _, _, ⟨hs, rfl⟩, _, _, rfl,
      ⟨rfl, rfl, rfl, rfl, rfl, rfl, rfl⟩, rfl⟩

theorem takeBinConfig_iff (l : List Byte) (r : BinConfigWrite) (rest : List Byte) :
    takeBinConfig l = some (r, rest) ↔ Fits 4 r.capacity ∧ Fits 1 r.gauge ∧ Fits 2 r.high ∧ Fits 2 r.preStage ∧
      Fits 2 r.resume ∧ Fits 2 r.empty ∧ l = optNat 4 r.capacity ++ optNat 1 r.gauge ++ optNat 2 r.high ++
        optNat 2 r.preStage ++ optNat 2 r.resume ++ optNat 2 r.empty ++ rest := by
  obtain ⟨a, b, c, d, e, f⟩ := r
  simp only [takeBinConfig, Option.bind_eq_bind, Option.bind_eq_some_iff, Prod.exists, takeOptNat_iff,
    Option.some.injEq, Prod.mk.injEq, BinConfigWrite.mk.injEq]
  constructor
  · rintro ⟨_, _, ⟨ha, rfl⟩, _, _, ⟨hb, rfl⟩, _, _, ⟨hc, rfl⟩, _, _, ⟨hd, rfl⟩, _, _, ⟨he, rfl⟩, _, _, ⟨hf, rfl⟩,
      ⟨rfl, rfl, rfl, rfl, rfl, rfl⟩, rfl⟩
    exact ⟨ha, hb, hc, hd, he, hf, by simp only [List.append_assoc]⟩
  · rintro ⟨ha, hb, hc, hd, he, hf, rfl⟩
    simp only [List.append_assoc]
    exact ⟨_, _, ⟨ha, rfl⟩, _, _, ⟨hb, rfl⟩, _, _, ⟨hc, rfl⟩, _, _, ⟨hd, rfl⟩, _, _, ⟨he, rfl⟩, _, _, ⟨hf, rfl⟩,
      ⟨rfl, rfl, rfl, rfl, rfl, rfl⟩, rfl⟩

/-! ## Fields at the front of the arguments -/

theorem takeNat_one_cons (b : Byte) (l : List Byte) : takeNat 1 (b :: l) = some (b.toNat, l) := by
  simp [takeNat]

theorem takeNat_one_nil : takeNat 1 [] = none := rfl

theorem natOfBytes_two (a b : Byte) : natOfBytes [a, b] = 256 * a.toNat + b.toNat := by
  simp [natOfBytes, Nat.mul_comm]

theorem takeNat_two_cons (a b : Byte) (l : List Byte) :
    takeNat 2 (a :: b :: l) = some (256 * a.toNat + b.toNat, l) := by
  rw [← natOfBytes_two]
  simp [takeNat]

theorem takeNat_two_single (a : Byte) : takeNat 2 [a] = none := rfl
theorem takeNat_two_nil : takeNat 2 [] = none := rfl

section Presence
variable {α : Type} {rd : List Byte → Option (α × List Byte)} {l : List Byte}

theorem takeOpt_absent : takeOpt rd (0 :: l) = some (none, l) := rfl

theorem takeOpt_present : takeOpt rd (1 :: l) = (rd l).map fun p => (some p.1, p.2) := by
  unfold takeOpt takeFlag
  simp only [show ¬(1 : Byte) = 0 by decide, if_false, if_true]
  cases rd l <;> rfl

theorem takeOpt_nil : takeOpt rd [] = none := rfl

theorem takeOpt_of_bad {p : Byte} (h0 : p ≠ 0) (h1 : p ≠ 1) : takeOpt rd (p :: l) = none := by
  unfold takeOpt takeFlag
  simp only [if_neg h0, if_neg h1]

/-! ## WRITEs -/

theorem writeArgs_nil : writeArgs rd [] = none := rfl
theorem writeArgs_index (index : Byte) : writeArgs rd [index] = none := rfl

theorem writeArgs_cons (index : Byte) (l : List Byte) : writeArgs rd (index :: l) =
    exactly ((takeOpt rd l).map fun p => (⟨index.toNat, p.1⟩, p.2)) := by
  unfold writeArgs
  rw [takeNat_one_cons]
  simp only [Option.bind_eq_bind, Option.bind_some]
  cases takeOpt rd l <;> rfl

theorem exactly_eq_some_iff {r : Option (α × List Byte)} {x : α} : exactly r = some x ↔ r = some (x, []) := by
  unfold exactly
  split
  · simp
  next h =>
    refine ⟨nofun, fun hr => ?_⟩
    exact absurd hr (h x)

theorem exactly_eq_none_iff {r : Option (α × List Byte)} : exactly r = none ↔ ∀ x, r ≠ some (x, []) := by
  rw [Option.eq_none_iff_forall_ne_some]
  exact forall_congr' fun x => not_congr exactly_eq_some_iff

theorem writeArgs_present (index : Byte) (l : List Byte) : writeArgs rd (index :: 1 :: l) =
    exactly ((rd l).map fun p => (⟨index.toNat, some p.1⟩, p.2)) := by
  rw [writeArgs_cons, takeOpt_present, Option.map_map]
  rfl

/-- What a table's WRITEs spell follows from what its reader reads. -/
theorem writeSpelled_of_reader {table : Byte} {row : Requester → Option (WriteArgs α) → Instr}
    {spells : α → List Byte → Prop}
    (hrow : ∀ src tag l, decodeRequest ⟨src, tag, 2, table :: l⟩ = row ⟨src, tag⟩ (writeArgs rd l))
    (hrd : ∀ r bytes, rd bytes = some (r, []) ↔ spells r bytes) : WriteSpelled table row spells := by
  intro src tag index bytes written taken
  have hwritten : ∀ l, written l = taken (writeArgs rd l) := hrow src tag
  clear_value written
  simp only [hwritten]
  refine ⟨?_, fun r hr => ?_, fun hno => ?_, fun hne => ?_, fun p hp => ?_,
    by rw [writeArgs_nil], by rw [writeArgs_index]⟩
  · rw [writeArgs_cons, takeOpt_absent]
    rfl
  · rw [writeArgs_present, (hrd r bytes).mpr hr]
    rfl
  · rw [writeArgs_present, exactly_eq_none_iff.mpr fun x hx => ?_]
    obtain ⟨⟨r, rest⟩, hr, he⟩ := Option.map_eq_some_iff.mp hx
    cases he
    exact hno r ((hrd r bytes).mp hr)
  · rw [writeArgs_cons, takeOpt_absent, exactly_eq_none_iff.mpr fun x hx => ?_]
    cases hx
    exact hne rfl
  · have h0 : p ≠ 0 := by rintro rfl; exact absurd hp (by decide)
    have h1 : p ≠ 1 := by rintro rfl; exact absurd hp (by decide)
    rw [writeArgs_cons, takeOpt_of_bad h0 h1]
    rfl

end Presence

end Sys2Proof.Machine
end

section
/-! What the bytes of the requests spell, but for the WRITEs' records (R163, R164, R167). -/

namespace Sys2Proof.Machine

variable {args : List Byte}

/-! ## Arguments of one number or pattern -/

theorem numberArg_one (a : Byte) : numberArg 1 [a] = some a.toNat := by
  rw [numberArg, takeNat_one_cons]
  rfl

theorem numberArg_two (a b : Byte) : numberArg 2 [a, b] = some (256 * a.toNat + b.toNat) := by
  rw [numberArg, takeNat_two_cons]
  rfl

theorem numberArg_of_length_ne {k : Nat} (h : args.length ≠ k) : numberArg k args = none := by
  rw [numberArg, exactly_eq_none_iff]
  intro x hx
  obtain ⟨-, rfl⟩ := (reads_takeNat k args x []).mp hx
  simp at h

theorem patternArg_three (a b c : Byte) : patternArg [a, b, c] = some (a ++ b ++ c) := by
  have hn : numberArg 3 [a, b, c] = some (a ++ b ++ c).toNat := by
    have hread := (reads_takeNat 3 [a, b, c] (a ++ b ++ c).toNat []).mpr
      ⟨(a ++ b ++ c).isLt, by rw [bytesOf_append_three]; rfl⟩
    rw [numberArg, hread]
    rfl
  rw [patternArg, hn, Option.map_some, BitVec.ofNat_toNat, BitVec.setWidth_eq]

theorem patternArg_of_length_ne (h : args.length ≠ 3) : patternArg args = none := by
  rw [patternArg, numberArg_of_length_ne h]
  rfl

/-! ## Arguments of several fields -/

theorem readArgs_two (a b : Byte) : readArgs [a, b] = some ⟨a.toNat, b.toNat⟩ := by
  simp [readArgs, takeNat_one_cons, exactly]

theorem readArgs_of_length_ne (h : args.length ≠ 2) : readArgs args = none := by
  match args, h with
  | [], _ => rfl
  | [a], _ => simp [readArgs, takeNat_one_cons, takeNat_one_nil, exactly]
  | a :: b :: c :: l, _ => simp [readArgs, takeNat_one_cons, exactly]

theorem unlockArgs_three (i a b : Byte) : unlockArgs [i, a, b] = some ⟨i.toNat, 256 * a.toNat + b.toNat⟩ := by
  simp [unlockArgs, takeNat_one_cons, takeNat_two_cons, exactly]

theorem unlockArgs_of_length_ne (h : args.length ≠ 3) : unlockArgs args = none := by
  match args, h with
  | [], _ => rfl
  | [a], _ => simp [unlockArgs, takeNat_one_cons, takeNat_two_nil, exactly]
  | [a, b], _ => simp [unlockArgs, takeNat_one_cons, takeNat_two_single, exactly]
  | a :: b :: c :: d :: l, _ => simp [unlockArgs, takeNat_one_cons, takeNat_two_cons, exactly]

theorem captureArgs_absent (i : Byte) : captureArgs [i, 0] = some ⟨i.toNat, none⟩ := by
  simp only [captureArgs, takeNat_one_cons, takeOpt_absent, Option.bind_eq_bind, Option.bind_some, exactly]

theorem captureArgs_present (i a b : Byte) :
    captureArgs [i, 1, a, b] = some ⟨i.toNat, some (256 * a.toNat + b.toNat)⟩ := by
  simp only [captureArgs, takeNat_one_cons, takeOpt_present, takeNat_two_cons, Option.bind_eq_bind, Option.bind_some,
    Option.map_some, exactly]

theorem captureArgs_of_other (h : ∀ i a b, args ≠ [i, 0] ∧ args ≠ [i, 1, a, b]) : captureArgs args = none := by
  rcases args with _ | ⟨i, _ | ⟨p, l⟩⟩
  · rfl
  · simp only [captureArgs, takeNat_one_cons, takeOpt_nil, Option.bind_eq_bind, Option.bind_some, Option.bind_none,
      exactly]
  · by_cases h0 : p = 0
    · subst h0
      cases l with
      | nil => exact absurd rfl (h i 0 0).1
      | cons a l =>
        simp only [captureArgs, takeNat_one_cons, takeOpt_absent, Option.bind_eq_bind, Option.bind_some, exactly]
    · by_cases h1 : p = 1
      · subst h1
        rcases l with _ | ⟨a, _ | ⟨b, _ | ⟨c, l⟩⟩⟩
        · simp only [captureArgs, takeNat_one_cons, takeOpt_present, takeNat_two_nil, Option.bind_eq_bind,
            Option.bind_some, Option.map_none, Option.bind_none, exactly]
        · simp only [captureArgs, takeNat_one_cons, takeOpt_present, takeNat_two_single, Option.bind_eq_bind,
            Option.bind_some, Option.map_none, Option.bind_none, exactly]
        · exact absurd rfl (h i a b).2
        · simp only [captureArgs, takeNat_one_cons, takeOpt_present, takeNat_two_cons, Option.bind_eq_bind,
            Option.bind_some, Option.map_some, exactly]
      · simp only [captureArgs, takeNat_one_cons, takeOpt_of_bad h0 h1, Option.bind_eq_bind, Option.bind_some,
          Option.bind_none, exactly]

theorem lampArgs_absent (t m : Byte) : lampArgs [t, m, 0] = some ⟨t.toNat, m.toNat, none⟩ := by
  simp only [lampArgs, takeNat_one_cons, takeOpt_absent, Option.bind_eq_bind, Option.bind_some, exactly]

theorem lampArgs_present (t m i : Byte) : lampArgs [t, m, 1, i] = some ⟨t.toNat, m.toNat, some i.toNat⟩ := by
  simp only [lampArgs, takeNat_one_cons, takeOpt_present, Option.bind_eq_bind, Option.bind_some, Option.map_some,
    exactly]

theorem lampArgs_of_other (h : ∀ t m i, args ≠ [t, m, 0] ∧ args ≠ [t, m, 1, i]) : lampArgs args = none := by
  rcases args with _ | ⟨t, _ | ⟨m, _ | ⟨p, l⟩⟩⟩
  · rfl
  · simp only [lampArgs, takeNat_one_cons, takeNat_one_nil, Option.bind_eq_bind, Option.bind_some, Option.bind_none,
      exactly]
  · simp only [lampArgs, takeNat_one_cons, takeOpt_nil, Option.bind_eq_bind, Option.bind_some, Option.bind_none,
      exactly]
  · by_cases h0 : p = 0
    · subst h0
      cases l with
      | nil => exact absurd rfl (h t m 0).1
      | cons a l =>
        simp only [lampArgs, takeNat_one_cons, takeOpt_absent, Option.bind_eq_bind, Option.bind_some, exactly]
    · by_cases h1 : p = 1
      · subst h1
        rcases l with _ | ⟨i, _ | ⟨c, l⟩⟩
        · simp only [lampArgs, takeNat_one_cons, takeOpt_present, takeNat_one_nil, Option.bind_eq_bind,
            Option.bind_some, Option.map_none, Option.bind_none, exactly]
        · exact absurd rfl (h t m i).2
        · simp only [lampArgs, takeNat_one_cons, takeOpt_present, Option.bind_eq_bind, Option.bind_some,
            Option.map_some, exactly]
      · simp only [lampArgs, takeNat_one_cons, takeOpt_of_bad h0 h1, Option.bind_eq_bind, Option.bind_some,
          Option.bind_none, exactly]

theorem takeNamed_two_cons (d : Byte) (l : List Byte) :
    takeNamed 2 (d :: l) = if d.toNat < 2 then some (d.toNat, l) else none := by
  simp only [takeNamed, takeNat_one_cons]

theorem serviceArgs_two (a d : Byte) (h : d.toNat < 2) : serviceArgs [a, d] = some (a.toNat, d.toNat) := by
  simp only [serviceArgs, takeNat_one_cons, takeNamed_two_cons, if_pos h, Option.bind_eq_bind, Option.bind_some,
    exactly]

theorem serviceArgs_of_other (h : ∀ a, args ≠ [a, 0] ∧ args ≠ [a, 1]) : serviceArgs args = none := by
  rcases args with _ | ⟨a, _ | ⟨d, l⟩⟩
  · rfl
  · rfl
  · by_cases hd : d.toNat < 2
    · cases l with
      | nil =>
        have hcases : d.toNat = 0 ∨ d.toNat = 1 := by omega
        rcases hcases with h0 | h1
        · exact absurd (congrArg (fun e => [a, e]) (BitVec.eq_of_toNat_eq (y := (0 : Byte)) h0)) (h a).1
        · exact absurd (congrArg (fun e => [a, e]) (BitVec.eq_of_toNat_eq (y := (1 : Byte)) h1)) (h a).2
      | cons b l =>
        simp only [serviceArgs, takeNat_one_cons, takeNamed_two_cons, if_pos hd, Option.bind_eq_bind, Option.bind_some,
          exactly]
    · simp only [serviceArgs, takeNat_one_cons, takeNamed_two_cons, if_neg hd, Option.bind_eq_bind, Option.bind_some,
        Option.bind_none, exactly]

/-! ## Requests by their code -/

section Codes
variable {src : Byte} {tag : BitVec 16} {code : Byte}

theorem decodeRequest_of_unknown (h : code = 0 ∨ 18 < code.toNat) (args : List Byte) :
    decodeRequest ⟨src, tag, code, args⟩ = .unknownRequest ⟨src, tag⟩ (.request code) := by
  have hn : code.toNat = 0 ∨ 18 < code.toNat := h.imp_left fun h => by rw [h]; rfl
  unfold decodeRequest
  dsimp only
  split <;> first | rfl | omega

theorem decodeRead_of_unknown (q : Requester) {table : Byte} (h : 12 < table.toNat) (l : List Byte) :
    decodeRead q table l = .unknownRequest q (.table table) := by
  unfold decodeRead
  split <;> first | rfl | omega

theorem decodeWrite_of_unknown (q : Requester) {table : Byte} (h : 12 < table.toNat) (l : List Byte) :
    decodeWrite q table l = .unknownRequest q (.table table) := by
  unfold decodeWrite
  split <;> first | rfl | omega

end Codes

/-- The READs of the thirteen tables, in the order of their codes. -/
def readsOf (q : Requester) (a : Option ReadArgs) : List Instr :=
  [.readStreamConfig q a, .readCalibration q a, .readStreamStatus q a, .readHoldMap q a, .readLot q a,
    .readOutturn q a, .readRoute q a, .readSegmentConfig q a, .readSegmentStatus q a, .readBinConfig q a,
    .readBinStatus q a, .readEvents q a, .readCounters q a]

theorem decodeRead_of_table (q : Requester) (table : Fin 13) (l : List Byte) :
    (readsOf q (readArgs l))[table.val]? = some (decodeRead q (BitVec.ofNat 8 table.val) l) := by
  fin_cases table <;> rfl

section Lamps
variable (q : Requester) {t : Byte} {l : List Byte} {m : Nat} {o : Option Nat}

theorem decodeLamp_of_force (h : lampArgs l = some ⟨t.toNat, m, o⟩) : (t = 8 → decodeLamp q l =
    .setLampForce q (some ⟨false, m⟩)) ∧ (t = 9 → decodeLamp q l = .setLampForce q (some ⟨true, m⟩)) ∧
    (t ≠ 8 → t ≠ 9 → decodeLamp q l = .setLampMode q (some ⟨t.toNat, m, o⟩)) := by
  refine ⟨fun ht => ?_, fun ht => ?_, fun h8 h9 => ?_⟩
  · subst ht
    simp only [decodeLamp, h]
    rfl
  · subst ht
    simp only [decodeLamp, h]
    rfl
  · have h8' : t.toNat ≠ 8 := fun he => h8 (BitVec.eq_of_toNat_eq he)
    have h9' : t.toNat ≠ 9 := fun he => h9 (BitVec.eq_of_toNat_eq he)
    simp only [decodeLamp, h, if_neg h8', if_neg h9']

end Lamps

/-- Settles O34. -/
theorem requestsRefusedBeforeTheirOwner : Obligations.RequestsRefusedBeforeTheirOwner := by
  refine ⟨fun c q s h hs => (testedFirst_of_requester h s).1 hs,
    fun c q s h hs hm => (testedFirst_of_requester h s).2 hs hm, fun q code table s hs =>
      ⟨exec_unknownRequest q _ hs, exec_unknownRequest q _ hs, exec_writeReadOnlyTable q table hs⟩,
    fun src tag args => ?_, ?_⟩
  · intro q d
    refine ⟨fun code h => decodeRequest_of_unknown h args,
      fun table h => ⟨decodeRead_of_unknown q h args, decodeWrite_of_unknown q h args⟩,
      ⟨rfl, rfl, rfl, rfl, rfl, rfl⟩, ⟨rfl, rfl⟩, ?reads, fun a b => ?two, fun h => ?notTwo, fun a => ?one,
      fun h => ?notOne, fun h => ?notService, fun i a b => ?unlock, fun h => ?notUnlock, fun i a b => ?capture,
      fun h => ?notCapture, fun a b c => ?pattern, fun h => ?notPattern, fun t m i => ?lamp, fun h => ?notLamp, rfl,
      fun h => ?restart⟩
    case reads =>
      intro reads table
      refine ⟨fun start count => ?_, fun h => ?_⟩
      · have hread := decodeRead_of_table q table [start, count]
        rwa [readArgs_two] at hread
      · have hread := decodeRead_of_table q table args
        rwa [readArgs_of_length_ne h] at hread
    case two =>
      intro n
      have hn := numberArg_two a b
      exact ⟨congrArg (Instr.openLot q) hn, congrArg (Instr.closeLot q) hn, congrArg (Instr.releaseOutturn q) hn⟩
    case notTwo =>
      have hn := numberArg_of_length_ne h
      exact ⟨congrArg (Instr.openLot q) hn, congrArg (Instr.closeLot q) hn, congrArg (Instr.releaseOutturn q) hn⟩
    case one =>
      intro n
      have hn := numberArg_one a
      refine ⟨congrArg (Instr.holdStream q) hn, congrArg (Instr.releaseStream q) hn,
        congrArg (Instr.acceptSuspect q) hn, congrArg (Instr.discardSuspect q) hn, congrArg (Instr.binEmptied q) hn,
        congrArg (Instr.clearSegmentFault q) hn, ?_, ?_⟩
      · show decodeService q [a, 0] = _
        simp only [decodeService, serviceArgs_two a 0 (by decide)]
        rfl
      · show decodeService q [a, 1] = _
        simp only [decodeService, serviceArgs_two a 1 (by decide)]
        rfl
    case notOne =>
      have hn := numberArg_of_length_ne h
      exact ⟨congrArg (Instr.holdStream q) hn, congrArg (Instr.releaseStream q) hn, congrArg (Instr.acceptSuspect q) hn,
        congrArg (Instr.discardSuspect q) hn, congrArg (Instr.binEmptied q) hn, congrArg (Instr.clearSegmentFault q) hn⟩
    case notService =>
      show decodeService q args = _
      simp only [decodeService, serviceArgs_of_other h]
    case unlock => exact congrArg (Instr.unlockCalibration q) (unlockArgs_three i a b)
    case notUnlock => exact congrArg (Instr.unlockCalibration q) (unlockArgs_of_length_ne h)
    case capture =>
      exact ⟨congrArg (Instr.captureZero q) (captureArgs_absent i),
        congrArg (Instr.captureZero q) (captureArgs_present i a b)⟩
    case notCapture => exact congrArg (Instr.captureZero q) (captureArgs_of_other h)
    case pattern =>
      have hp := patternArg_three a b c
      exact ⟨congrArg (Instr.clearEvents q) hp, congrArg (Instr.setMask q) hp⟩
    case notPattern =>
      have hp := patternArg_of_length_ne h
      exact ⟨congrArg (Instr.clearEvents q) hp, congrArg (Instr.setMask q) hp⟩
    case lamp =>
      obtain ⟨h8, h9, hm⟩ := decodeLamp_of_force q (lampArgs_absent t m)
      obtain ⟨h8', h9', hm'⟩ := decodeLamp_of_force q (lampArgs_present t m i)
      exact ⟨fun h => ⟨h8 h, h8' h⟩, fun h => ⟨h9 h, h9' h⟩, fun h h' => ⟨hm h h', hm' h h'⟩⟩
    case notLamp =>
      show decodeLamp q args = _
      simp only [decodeLamp, lampArgs_of_other h]
    case restart => exact congrArg (Instr.restart q) (if_neg h)
  · intro number fits
    refine ⟨writeSpelled_of_reader (fun _ _ _ => rfl) fun r bytes => ?_,
      writeSpelled_of_reader (fun _ _ _ => rfl) fun r bytes => ?_,
      writeSpelled_of_reader (fun _ _ _ => rfl) fun r bytes => ?_,
      writeSpelled_of_reader (fun _ _ _ => rfl) fun r bytes => ?_,
      writeSpelled_of_reader (fun _ _ _ => rfl) fun r bytes => ?_,
      writeSpelled_of_reader (fun _ _ _ => rfl) fun r bytes => ?_,
      writeSpelled_of_reader (fun _ _ _ => rfl) fun r bytes => ?_⟩
    · rw [takeStreamConfig_iff, List.append_nil]
      exact Iff.rfl
    · rw [takeCalibration_iff, List.append_nil]
      exact Iff.rfl
    · rw [takeHold_iff, List.append_nil]
      exact Iff.rfl
    · rw [takeLot_iff, List.append_nil]
      exact Iff.rfl
    · rw [takeRoute_iff, List.append_nil]
      exact Iff.rfl
    · have hkind : (fun k : KindName => bytesOf 1 (kindNameCode k)) =
          fun k => [match k with | .conveyor => 0 | .diverter => 1 | .gate => 2] := funext fun k => by cases k <;> rfl
      rw [takeSegConfig_iff, List.append_nil, hkind]
      exact Iff.rfl
    · rw [takeBinConfig_iff, List.append_nil]
      exact Iff.rfl

end Sys2Proof.Machine
end

section
/-! A stream's calibration changes only under CALEN, with its unlock, while it is IDLE (R75, R80). -/

namespace Sys2Proof.Machine

/-- What R75 asks of a change of stream `i`'s calibration: CALEN, an unlock for the stream, and IDLE. -/
def Unlockable (s : State) (i : StreamIdx) : Prop :=
  s.mgmt.calen = true ∧ (∃ u, s.mgmt.unlock = some u ∧ u.stream = i) ∧ (s.stream i).state = .idle

/-- What a command begun in `s` has made of stream `i`'s calibration when it has come to `t`: a capture that runs on the
stream found it open to a change; and its calibration and serial stand, or it was open and has been changed once, with
no capture left that could change it again. -/
structure ChangedOnce (s t : State) (i : StreamIdx) : Prop where
  running : t.capturing i = true → Unlockable s i
  once : ((t.tallyOf i).cal = (s.tallyOf i).cal ∧ (t.tallyOf i).serial = (s.tallyOf i).serial) ∨
    (Unlockable s i ∧ (t.tallyOf i).serial = nextSerial (s.tallyOf i).serial ∧ t.capturing i = false)

namespace ChangedOnce

variable {s t u : State} {i j : StreamIdx}

theorem of_tally (h : ChangedOnce s t i) (htally : u.tally = t.tally) : ChangedOnce s u i := by
  have hcap : u.capturing i = t.capturing i := by unfold State.capturing; rw [htally]
  have hof : u.tallyOf i = t.tallyOf i := by unfold State.tallyOf; rw [htally]
  exact ⟨hcap ▸ h.running, by rw [hof, hcap]; exact h.once⟩

theorem refl (h : ControlLaw s) (i : StreamIdx) : ChangedOnce s s i := by
  refine ⟨fun hrun => ?_, Or.inl ⟨rfl, rfl⟩⟩
  obtain ⟨c, hc, rfl⟩ := (capturing_iff i).mp hrun
  obtain ⟨v, hv, hstream, -⟩ := h.capture c hc
  obtain ⟨hcalen, hidle⟩ := h.unlock v hv
  exact ⟨hcalen, ⟨v, hv, hstream⟩, hstream ▸ hidle⟩

/-- A tally record changed but for calibration and serial. -/
theorem putTally (h : ChangedOnce s t i) {x : Tally} (hx : (t.tallyOf j).Uncalibrated x) :
    ChangedOnce s (t.putTally j x) i := by
  have hsame : ((t.putTally j x).tallyOf i).cal = (t.tallyOf i).cal ∧
      ((t.putTally j x).tallyOf i).serial = (t.tallyOf i).serial := by
    rw [State.tallyOf_putTally]
    split
    next hij => exact hij ▸ ⟨hx.cal, hx.serial⟩
    next => exact ⟨rfl, rfl⟩
  exact ⟨h.running, by rw [hsame.1, hsame.2]; exact h.once⟩

/-- A running capture with other sums. -/
theorem putCapture (h : ChangedOnce s t i) {c d : Capture} (hc : t.tally.capture = some c) (hd : d.stream = c.stream) :
    ChangedOnce s (t.putCapture (some d)) i := by
  have hcap : (t.putCapture (some d)).capturing i = t.capturing i := by
    simp [State.capturing, State.putCapture, hc, hd]
  exact ⟨hcap ▸ h.running, by rw [hcap]; exact h.once⟩

theorem dropCapture (h : ChangedOnce s t i) : ChangedOnce s (t.putCapture none) i :=
  ⟨nofun, h.once.imp_right fun ⟨hopen, hserial, _⟩ => ⟨hopen, hserial, rfl⟩⟩

/-- A capture completes on a stream that was open to a change when the command began, and has not changed since. -/
theorem completeCapture (h : ChangedOnce s t i) {c d : Capture} (hc : t.tally.capture = some c)
    (hd : d.stream = c.stream) : ChangedOnce s (completeCapture d t) i := by
  have hnone : (Machine.completeCapture d t).capturing i = false := by
    rw [← Bool.not_eq_true, capturing_iff]
    rintro ⟨z, hz, -⟩
    rw [completeCapture_eq, endCapture_capture (c := d) rfl] at hz
    cases hz
  refine ⟨fun hrun => absurd hrun (by simp [hnone]), ?_⟩
  by_cases hi : i = d.stream
  · have hrun : t.capturing i = true := (capturing_iff i).mpr ⟨c, hc, hi ▸ hd.symm⟩
    have hsame : (t.tallyOf i).serial = (s.tallyOf i).serial :=
      h.once.elim And.right fun ⟨_, _, hno⟩ => absurd hrun (by simp [hno])
    refine Or.inr ⟨h.running hrun, ?_, hnone⟩
    rw [← hsame, hi, completeCapture_tallyOf_self]
  · rw [completeCapture_tallyOf_other hi]
    exact h.once.imp_right fun ⟨hopen, hserial, _⟩ => ⟨hopen, hserial, hnone⟩

/-- Every update but the three of `Entrusted` changes a calibration at most by completing a capture. -/
theorem sturdy (s : State) (i : StreamIdx) : Sturdy fun t => ChangedOnce s t i where
  pending _ _ h := h.of_tally rfl
  reports _ _ _ h := h.of_tally rfl
  charTime _ _ h := h.of_tally rfl
  loop _ _ _ h := h.of_tally rfl
  stream _ _ _ _ h := h.of_tally rfl
  tally _ _ _ hx h := h.putTally hx
  capture _ _ _ hc hd h := h.putCapture hc hd
  dropCapture _ h := h.dropCapture
  completeCapture _ _ _ hc hd h := h.completeCapture hc hd
  lot _ _ _ _ _ _ h := h.of_tally rfl
  book _ _ _ _ _ _ _ _ h := h.of_tally rfl
  load _ _ _ _ _ h := h.of_tally rfl
  extend _ _ _ _ _ _ _ h := h.of_tally rfl
  drop _ _ h := h.of_tally rfl
  complete _ _ _ _ _ h := h.of_tally rfl
  release _ _ h := h.of_tally rfl
  hold _ _ _ h := h.of_tally rfl
  seg _ _ _ h := h.of_tally rfl
  alloc _ _ h := h.of_tally rfl
  bin _ _ _ _ h := h.of_tally rfl
  mgmt _ _ _ h := h.of_tally rfl
  judged _ _ _ h := h.of_tally (judgeAlert_tally _)
  lamps _ _ _ _ h := h.of_tally rfl
  tick _ h := h.of_tally rfl

variable (hs : ControlLaw s)
include hs

/-- A calibration is written for the stream whose unlock is in force, and no capture runs on it (R75). -/
theorem storeCalibration (hcalen : s.mgmt.calen = true) (hunlock : s.unlockedFor j = true)
    (hrun : s.capturing j = false) (k : Option Calibration) : ChangedOnce s (storeCalibration j k s) i := by
  refine ⟨(refl hs i).running, ?_⟩
  by_cases hj : j = i
  · subst hj
    obtain ⟨v, hv, hstream⟩ := (unlockedFor_iff j).mp hunlock
    have hidle := (hs.unlock v hv).2
    exact Or.inr ⟨⟨hcalen, ⟨v, hv, hstream⟩, hstream ▸ hidle⟩, by simp [Machine.storeCalibration, State.modTally], hrun⟩
  · have hof : (Machine.storeCalibration j k s).tallyOf i = s.tallyOf i := by
      simp [Machine.storeCalibration, State.modTally, State.tallyOf_putTally, hj]
    exact Or.inl (by rw [hof]; exact ⟨rfl, rfl⟩)

omit hs in
/-- A capture begins on the stream whose unlock it takes (R78). -/
theorem beginCapture (hcalen : s.mgmt.calen = true) (hunlock : s.unlockedFor j = true)
    (hidle : (s.stream j).state = .idle) (w : Nat) : ChangedOnce s (beginCapture j w s) i := by
  refine ⟨fun hrun => ?_, Or.inl ⟨rfl, rfl⟩⟩
  obtain ⟨c, hc, hi⟩ := (capturing_iff i).mp hrun
  cases hc
  cases hi
  exact ⟨hcalen, (unlockedFor_iff _).mp hunlock, hidle⟩

theorem entrusted (i : StreamIdx) : Entrusted (fun t => ChangedOnce s t i) s where
  calibration a := Answer.keeps_indexed fun j => by
    split
    · trivial
    next hcalen =>
      split
      · trivial
      next hunlock =>
        split
        · trivial
        next hrun =>
          have hstore := storeCalibration (i := i) hs (by simpa using hcalen) (by simpa using hunlock)
            (Bool.eq_false_iff.mpr hrun)
          split
          · exact hstore none
          · split
            · exact hstore _
            · trivial
  unlock a := Answer.keeps_indexed fun j => by
    split
    · trivial
    · split
      · trivial
      · split
        · trivial
        · exact (sturdy s i).unlock _ _ ((sturdy s i).kept.endUnlock _ _ (refl hs i))
  capture a := Answer.keeps_indexed fun j => by
    split
    · trivial
    next hcalen =>
      split
      · trivial
      · split
        · trivial
        next hunlock =>
          split
          · trivial
          next hready =>
            exact beginCapture (by simpa using hcalen) (by simpa using hunlock)
              (not_not.mp (not_or.mp hready).1) _

end ChangedOnce

/-- Settles O15: a command changes a calibration by writing it, or by completing a capture that ran before it. -/
theorem calibrationChangesOnlyUnlocked : Obligations.CalibrationChangesOnlyUnlocked := by
  intro c s t i hs hreset ht hchanged
  have hend : ChangedOnce s t i := (ChangedOnce.sturdy s i).upheld.exec c s t hreset
    (ChangedOnce.entrusted hs i) (ChangedOnce.refl hs i) ht
  obtain ⟨hcal, hserial⟩ | ⟨⟨hcalen, hunlock, hidle⟩, hserial, -⟩ := hend.once
  · exact absurd hchanged (not_or.mpr ⟨not_not.mpr hcal, not_not.mpr hserial⟩)
  · exact ⟨hcalen, hunlock, hidle, hserial⟩

end Sys2Proof.Machine
end

section
/-! What the operations that move a stream change at most: the other streams, tally and unlock stand. -/

namespace Sys2Proof.Machine

variable {s t u : State} {i j : StreamIdx}

/-! ## The Segment unit's other operations -/

namespace SegsMoved

theorem judgeReport (g : SegIdx) (eq : Bool) (s : State) : SegsMoved s (judgeReport g eq s) := by
  unfold Machine.judgeReport
  dsimp only
  split
  case h_1 | h_2 => exact refl s
  case h_3 =>
    split
    · exact refl s
    · split
      · exact changeSeg _ _ _
      · exact (changeSeg _ _ _).trans (reportReady _ _)
  case h_4 | h_5 =>
    split
    · exact refl s
    · exact faultSeg _ _
  case h_6 =>
    split
    · split
      · exact putSeg _ _ _
      · exact refl s
    · split
      · exact refl s
      · exact faultSeg _ _
  case h_7 =>
    split
    · exact freeSeg _ _
    · exact refl s

theorem clearFault (g : SegIdx) (s : State) : SegsMoved s (clearFault g s) :=
  ((putSeg _ _ _).trans (beginFlush _ _)).trans (emit _ _)

theorem setInlet (b : Option BinIdx) (g : Option SegIdx) (s : State) : SegsMoved s (setInlet b g s) := by
  unfold Machine.setInlet
  split <;> rfl

theorem storeSegConfig (g : SegIdx) (c : Option SegConfig) (s : State) : SegsMoved s (storeSegConfig g c s) := by
  unfold Machine.storeSegConfig
  dsimp only
  refine trans ?_ (occasion _)
  split
  · exact putSeg _ _ _
  · exact ((putSeg _ _ _).trans (setInlet _ _ _)).trans (setInlet _ _ _)

theorem hitSegment (i : StreamIdx) (r : RouteIdx) (st : Step) (s : State) : SegsMoved s (hitSegment i r st s) := by
  unfold Machine.hitSegment
  split
  · exact refl s
  · split
    · exact moveUnderFlow _ _ _ _
    · exact takeStaged _ _ _

/-- A release from a stream that is not DRAINING arms no drain timer. -/
theorem releaseSeg (h : (s.stream i).state ≠ .draining) (g : SegIdx) : SegsMoved s (releaseSeg i g s) := by
  have hmoved := releaseHolder i g s
  have hst : ¬((Machine.releaseHolder i g s).stream i).state = .draining := by rwa [hmoved.stream]
  unfold Machine.releaseSeg
  dsimp only
  split
  · rw [if_neg (by simp [hst])]
    exact hmoved
  · exact refl s

theorem releaseSegs {α : Type} (f : α → SegIdx) (l : List α) (h : (s.stream i).state ≠ .draining) :
    SegsMoved s (l.foldl (fun s a => Machine.releaseSeg i (f a) s) s) := by
  refine Kept.foldl (P := SegsMoved s) _ (fun u a hu => hu.trans (releaseSeg ?_ (f a))) l s (refl s)
  rwa [hu.stream]

theorem releaseGrant (q : Request) (h : (s.stream q.stream).state ≠ .draining) : SegsMoved s (releaseGrant q s) := by
  unfold Machine.releaseGrant
  split
  · exact releaseSegs Step.segment _ h
  · exact refl s

end SegsMoved

/-- The removal of its request leaves the record of a stream that is not DRAINING alone. -/
theorem stream_removeRequest_self (h : (s.stream i).state ≠ .draining) : (removeRequest i s).stream i = s.stream i := by
  unfold removeRequest
  split
  · rfl
  next q hq =>
    have hi := (requestOf_eq_some hq).1
    exact (SegsMoved.releaseGrant q (by rwa [hi])).stream i

/-! ## Moves of one stream -/

/-- `t` has the other streams' records, the tally and the Management unit of `s`. -/
structure Confined (i : StreamIdx) (s t : State) : Prop where
  other : ∀ j, j ≠ i → t.stream j = s.stream j
  tally : t.tally = s.tally
  mgmt : t.mgmt = s.mgmt

namespace Confined

theorem refl (i : StreamIdx) (s : State) : Confined i s s := ⟨fun _ _ => rfl, rfl, rfl⟩

theorem trans (h : Confined i s t) (h' : Confined i t u) : Confined i s u :=
  ⟨fun j hj => (h'.other j hj).trans (h.other j hj), h'.tally.trans h.tally, h'.mgmt.trans h.mgmt⟩

theorem of_segsMoved (h : SegsMoved s t) (i : StreamIdx) : Confined i s t := ⟨fun j _ => h.stream j, h.tally, h.mgmt⟩

theorem of_released (h : Released i s t) : Confined i s t := ⟨fun _ hj => h.stream_other hj, h.tally, h.mgmt⟩

theorem of_placed (h : Placed i s t) : Confined i s t := ⟨fun _ hj => h.stream_other hj, h.tally, h.mgmt⟩

theorem putStream (i : StreamIdx) (x : Stream) (s : State) : Confined i s (s.putStream i x) :=
  ⟨fun j hj => by rw [State.stream_putStream, if_neg hj.symm], rfl, rfl⟩

theorem modStream (i : StreamIdx) (f : Stream → Stream) (s : State) : Confined i s (s.modStream i f) := putStream i _ s

theorem refreshLamps (i : StreamIdx) (s : State) : Confined i s (refreshLamps s) := of_placed (.refreshLamps i s)

theorem occasion (i : StreamIdx) (s : State) : Confined i s s.occasion := ⟨fun _ _ => rfl, rfl, rfl⟩

theorem raise (i : StreamIdx) (k : EventKind) (n : Nat) (s : State) : Confined i s (raise k n s) :=
  of_segsMoved (BinsMoved.raise k n s).segsMoved i

theorem putStaging (i : StreamIdx) (x : Option Staging) (s : State) : Confined i s (s.putStaging i x) :=
  ⟨fun _ _ => rfl, rfl, rfl⟩

theorem removeRequest (i : StreamIdx) (s : State) : Confined i s (removeRequest i s) :=
  ⟨fun _ hj => removeRequest_stream_other hj s, removeRequest_tally i s, removeRequest_mgmt i s⟩

theorem dropStaging (i : StreamIdx) (s : State) : Confined i s (dropStaging i s) := by
  obtain ⟨u, hu, heq⟩ := dropStaging_eq i s
  rw [heq]
  split
  · exact refl i s
  · exact (of_released hu).trans ⟨fun _ _ => rfl, rfl, rfl⟩

theorem permit (i : StreamIdx) (feed : Bool) (f : Stream → Stream) (s : State) :
    Confined i s ((sendPermit i feed s).modStream i f) :=
  (of_segsMoved (sendPermit_moved i feed s).segsMoved i).trans (modStream i f _)

theorem enterDraining (i : StreamIdx) (s : State) : Confined i s (enterDraining i s) := by
  have hstop := ((modStream i (fun x => { x with state := .draining }) s).trans (refreshLamps i _)).trans
    (permit i false (fun x => { x with permit := none }) _)
  refine ((trans ?_ (dropStaging i _)).trans (occasion i _))
  split
  · exact hstop.trans (of_released (Released.releaseRoute i _ _))
  · exact hstop

theorem enterFeeding (i : StreamIdx) (r : RouteIdx) (s : State) : Confined i s (enterFeeding i r s) :=
  ((modStream i (fun x => { x with state := .feeding, activeRoute := some r }) s).trans (refreshLamps i _)).trans
    (permit i true (fun x => { x with permit := some permitPeriod }) _)

/-- The segments of a list of steps activated. -/
theorem activateSteps (i : StreamIdx) (l : List Step) (s : State) :
    SegsMoved s (l.foldl (fun s st => activateSeg i st.segment s) s) :=
  Kept.foldl (P := SegsMoved s) _ (fun u st hu => hu.trans (SegsMoved.activateSeg i st.segment u)) l s
    (SegsMoved.refl s)

theorem activate (i : StreamIdx) (r : RouteIdx) (s : State) : Confined i s (activate i r s) := by
  have hsteps := of_segsMoved (activateSteps i (s.stepsOf r) s) i
  unfold Machine.activate
  generalize (s.stepsOf r).foldl (fun s st => activateSeg i st.segment s) s = v at hsteps
  have hdrop : Confined i v (v.dropRequest i).occasion := ⟨fun _ _ => rfl, rfl, rfl⟩
  exact (hsteps.trans hdrop).trans (enterFeeding i r _)

end Confined

/-! ## The queue and the moved stream's record -/

theorem enterDraining_queue (i : StreamIdx) (s : State) : (enterDraining i s).alloc.queue = s.alloc.queue := by
  have hdrop : ∀ v : State, (dropStaging i v).alloc.queue = v.alloc.queue := fun v => by
    obtain ⟨u, hu, heq⟩ := dropStaging_eq i v
    rw [heq]
    split
    · rfl
    · show u.alloc.queue = v.alloc.queue
      rw [hu.alloc]
  have hstop : ∀ v : State, (permitStop i v).alloc = v.alloc := fun v => (sendPermit_moved i false v).segsMoved.alloc
  show (dropStaging i _).alloc.queue = _
  rw [hdrop]
  split
  · exact congrArg Allocator.queue ((Released.releaseRoute i _ _).alloc.trans (hstop _))
  · exact congrArg Allocator.queue (hstop _)

theorem stream_activate_self (i : StreamIdx) (r : RouteIdx) (s : State) : (activate i r s).stream i =
    { s.stream i with state := .feeding, activeRoute := some r, permit := some permitPeriod } := by
  have hmoved := (sendPermit_moved i true (refreshLamps
    (((((s.stepsOf r).foldl (fun s st => activateSeg i st.segment s) s).dropRequest i).occasion).modStream i
      fun x => { x with state := .feeding, activeRoute := some r }))).segsMoved.stream i
  show (((sendPermit i true _).modStream i _).stream i) = _
  rw [State.modStream, State.stream_putStream_self, hmoved, stream_refreshLamps, State.modStream,
    State.stream_putStream_self]
  show ({ ((s.stepsOf r).foldl (fun s st => activateSeg i st.segment s) s).stream i with
    state := .feeding, activeRoute := some r, permit := some permitPeriod } : Stream) = _
  rw [(Confined.activateSteps i (s.stepsOf r) s).stream]

theorem activate_queue (i : StreamIdx) (r : RouteIdx) (s : State) :
    (activate i r s).alloc.queue = s.alloc.queue.filter (·.stream != i) := by
  have hperm : ∀ v : State, (permitFeed i v).alloc = v.alloc := fun v => (sendPermit_moved i true v).segsMoved.alloc
  show (permitFeed i _).alloc.queue = _
  rw [hperm]
  show (((s.stepsOf r).foldl (fun s st => activateSeg i st.segment s) s).alloc.queue).filter _ = _
  rw [(Confined.activateSteps i (s.stepsOf r) s).alloc]

/-- The segments that a hit releases, moves and takes, of a stream that is not DRAINING. -/
theorem hitSegments_moved (h : (s.stream i).state ≠ .draining) (gone steps : List Step) (r : RouteIdx) :
    SegsMoved s (steps.foldl (fun s st => hitSegment i r st s)
      (gone.foldl (fun s o => releaseSeg i o.segment s) s)) :=
  (SegsMoved.releaseSegs Step.segment gone h).trans
    (Kept.foldl (P := SegsMoved _) _ (fun _ st hu => hu.trans (SegsMoved.hitSegment i r st _)) steps _
      (SegsMoved.refl _))

/-- A hit leaves the stream FEEDING on its new route, a PERMIT sent, and no other stream, request or unlock changed. -/
theorem carryHit_spec (h : (s.stream i).state ≠ .draining) (old new : RouteIdx) :
    (carryHit i old new s).stream i =
      { s.stream i with activeRoute := some new, permit := some permitPeriod } ∧
    Confined i s (carryHit i old new s) ∧ (carryHit i old new s).alloc.queue = s.alloc.queue := by
  have hmoved := hitSegments_moved h ((s.stepsOf old).filter fun o => !s.routeHas new o.segment) (s.stepsOf new) old
  have hdef : carryHit i old new s = permitFeed i ((refreshLamps (((s.stepsOf new).foldl
    (fun s st => hitSegment i old st s) (((s.stepsOf old).filter fun o => !s.routeHas new o.segment).foldl
      (fun s o => releaseSeg i o.segment s) s)).modStream i
        fun x => { x with activeRoute := some new })).putStaging i none) := rfl
  generalize (s.stepsOf new).foldl (fun s st => hitSegment i old st s) _ = v at hmoved hdef
  set w := (refreshLamps (v.modStream i fun x => { x with activeRoute := some new })).putStaging i none with hw
  have hself : w.stream i = { s.stream i with activeRoute := some new } := by
    simp [hw, State.modStream, hmoved.stream]
  have hconf : Confined i s w := ((Confined.of_segsMoved hmoved i).trans (Confined.modStream i _ v)).trans
    ((Confined.refreshLamps i _).trans (Confined.putStaging i none _))
  have hsend := (sendPermit_moved i true w).segsMoved
  refine ⟨?_, ?_, ?_⟩
  · rw [hdef, permitFeed, State.modStream, State.stream_putStream_self, hsend.stream, hself]
  · rw [hdef]
    exact hconf.trans (Confined.permit i true _ w)
  · rw [hdef]
    show (sendPermit i true w).alloc.queue = _
    rw [hsend.alloc]
    show v.alloc.queue = _
    rw [hmoved.alloc]

end Sys2Proof.Machine
end

section
/-! Requests, unlock and zero capture: every step keeps one request a WAITING stream, and unlock and capture bound
together (R71, R72, R74, R78, R109, R111). -/

namespace Sys2Proof.Machine
namespace ControlLaw

variable {s t : State} {i : StreamIdx}

theorem not_queued (h : ControlLaw s) (hst : (s.stream i).state ≠ .waiting) : ∀ q ∈ s.alloc.queue, q.stream ≠ i :=
  fun q hq hi => hst (hi ▸ h.waiting q hq)

theorem not_unlocked (h : ControlLaw s) (hst : (s.stream i).state ≠ .idle) :
    ∀ u, s.mgmt.unlock = some u → u.stream ≠ i :=
  fun u hu hi => hst (hi ▸ (h.unlock u hu).2)

/-- No capture runs without an unlock. -/
theorem no_capture (h : ControlLaw s) (hu : s.mgmt.unlock = none) : s.tally.capture = none :=
  Option.eq_none_iff_forall_ne_some.mpr fun c hc => by
    obtain ⟨u, hu', -⟩ := h.capture c hc
    rw [hu] at hu'
    cases hu'

/-! ## What keeps the law -/

/-- A change that leaves every stream's state, unlock and capture, and adds no request. -/
theorem of_same (h : ControlLaw s) (hstate : ∀ i, (t.stream i).state = (s.stream i).state)
    (hqueue : (t.alloc.queue.map (·.stream)).Sublist (s.alloc.queue.map (·.stream)))
    (hunlock : t.mgmt.unlock = s.mgmt.unlock) (hcalen : t.mgmt.calen = s.mgmt.calen)
    (hcapture : t.tally.capture = s.tally.capture) : ControlLaw t where
  once := h.once.sublist hqueue
  waiting q hq := by
    obtain ⟨p, hp, hpq⟩ := List.mem_map.mp (hqueue.subset (List.mem_map_of_mem hq))
    rw [hstate, ← hpq]
    exact h.waiting p hp
  unlock u hu := by
    rw [hcalen, hstate]
    exact h.unlock u (hunlock ▸ hu)
  held u hu := by
    rw [hcapture]
    exact h.held u (hunlock ▸ hu)
  capture c hc := by
    rw [hunlock]
    exact h.capture c (hcapture ▸ hc)

theorem of_segsMoved (h : ControlLaw s) (hm : SegsMoved s t) : ControlLaw t :=
  h.of_same (fun i => by rw [hm.stream]) (by rw [hm.alloc]) (by rw [hm.mgmt]) (by rw [hm.mgmt]) (by rw [hm.tally])

/-- With neither unlock nor capture, only the requests matter. -/
theorem of_locked (h : ControlLaw s) (hstate : ∀ i, (t.stream i).state = (s.stream i).state)
    (hqueue : t.alloc.queue = s.alloc.queue) (hunlock : t.mgmt.unlock = none) (hcapture : t.tally.capture = none) :
    ControlLaw t where
  once := hqueue ▸ h.once
  waiting q hq := by
    rw [hstate]
    exact h.waiting q (hqueue ▸ hq)
  unlock u hu := by rw [hunlock] at hu; cases hu
  held u hu := by rw [hunlock] at hu; cases hu
  capture c hc := by rw [hcapture] at hc; cases hc

/-- One stream moves, without a request: to IDLE, or with no unlock for it. -/
theorem of_confined (h : ControlLaw s) (hc : Confined i s t)
    (hqueue : (t.alloc.queue.map (·.stream)).Sublist (s.alloc.queue.map (·.stream)))
    (hnone : ∀ q ∈ t.alloc.queue, q.stream ≠ i)
    (hidle : (t.stream i).state = .idle ∨ ∀ u, s.mgmt.unlock = some u → u.stream ≠ i) : ControlLaw t where
  once := h.once.sublist hqueue
  waiting q hq := by
    obtain ⟨p, hp, hpq⟩ := List.mem_map.mp (hqueue.subset (List.mem_map_of_mem hq))
    rw [hc.other _ (hnone q hq), ← hpq]
    exact h.waiting p hp
  unlock u hu := by
    rw [hc.mgmt] at hu ⊢
    refine ⟨(h.unlock u hu).1, ?_⟩
    by_cases hi : u.stream = i
    · exact hi ▸ hidle.resolve_right fun hno => hno u hu hi
    · rw [hc.other _ hi]
      exact (h.unlock u hu).2
  held u hu := by
    rw [hc.tally]
    exact h.held u (hc.mgmt ▸ hu)
  capture c hcap := by
    rw [hc.mgmt]
    exact h.capture c (hc.tally ▸ hcap)

/-- One stream without a request or an unlock goes to WAITING with a request. -/
theorem of_queued (h : ControlLaw s) (hc : Confined i s t) {q : Request} (hq : q.stream = i)
    (hqueue : t.alloc.queue = s.alloc.queue ++ [q]) (hst : (t.stream i).state = .waiting)
    (hnone : ∀ q ∈ s.alloc.queue, q.stream ≠ i) (hun : ∀ u, s.mgmt.unlock = some u → u.stream ≠ i) :
    ControlLaw t where
  once := by
    rw [hqueue, List.map_append]
    refine h.once.append (List.nodup_singleton _) fun j hj hj' => ?_
    obtain ⟨p, hp, rfl⟩ := List.mem_map.mp hj
    exact hnone p hp ((List.mem_singleton.mp hj').trans hq)
  waiting p hp := by
    rw [hqueue] at hp
    obtain hp | hp := List.mem_append.mp hp
    · rw [hc.other _ (hnone p hp)]
      exact h.waiting p hp
    · rw [List.mem_singleton.mp hp, hq]
      exact hst
  unlock u hu := by
    rw [hc.mgmt] at hu ⊢
    rw [hc.other _ (hun u hu)]
    exact h.unlock u hu
  held u hu := by
    rw [hc.tally]
    exact h.held u (hc.mgmt ▸ hu)
  capture c hcap := by
    rw [hc.mgmt]
    exact h.capture c (hc.tally ▸ hcap)

/-! ## The routine parts of a body -/

/-- The law speaks of the states of streams, the requests' streams, unlock, CALEN and the capture's stream alone. -/
theorem routine : Routine ControlLaw where
  pending _ _ h := h.of_same (fun _ => rfl) (.refl _) rfl rfl rfl
  reports _ _ _ h := h.of_same (fun _ => rfl) (.refl _) rfl rfl rfl
  charTime _ _ h := h.of_same (fun _ => rfl) (.refl _) rfl rfl rfl
  loop _ _ _ h := h.of_same (fun _ => rfl) (.refl _) rfl rfl rfl
  stream s i x hx h := by
    refine h.of_same (fun j => ?_) (.refl _) rfl rfl rfl
    rw [State.stream_putStream]
    split
    next hij => rw [← hij, hx.state]
    next => rfl
  tally _ _ _ _ h := h.of_same (fun _ => rfl) (.refl _) rfl rfl rfl
  capture s c d hc hd h :=
    { once := h.once, waiting := h.waiting, unlock := h.unlock
      held := fun u hu hheld => by
        obtain ⟨e, he, hstream⟩ := h.held u hu hheld
        rw [hc] at he
        cases he
        exact ⟨d, rfl, hd.trans hstream⟩
      capture := fun e he => by
        cases he
        rw [hd]
        exact h.capture c hc }
  lot _ _ _ _ _ _ h := h.of_same (fun _ => rfl) (.refl _) rfl rfl rfl
  book _ _ _ _ _ _ _ _ h := h.of_same (fun _ => rfl) (.refl _) rfl rfl rfl
  load _ _ _ _ _ h := h.of_same (fun _ => rfl) (.refl _) rfl rfl rfl
  extend _ _ _ _ _ _ _ h := h.of_same (fun _ => rfl) (.refl _) rfl rfl rfl
  drop _ _ h := h.of_same (fun _ => rfl) (.refl _) rfl rfl rfl
  complete _ _ _ _ _ h := h.of_same (fun _ => rfl) (.refl _) rfl rfl rfl
  release _ _ h := h.of_same (fun _ => rfl) (.refl _) rfl rfl rfl
  hold _ _ _ h := h.of_same (fun _ => rfl) (.refl _) rfl rfl rfl
  route _ _ _ h := h.of_same (fun _ => rfl) (.refl _) rfl rfl rfl
  staging _ _ _ h := h.of_same (fun _ => rfl) (.refl _) rfl rfl rfl
  requests _ _ hq h := h.of_same (fun _ => rfl) hq rfl rfl rfl
  segment _ _ _ _ h := h.of_same (fun _ => rfl) (.refl _) rfl rfl rfl
  reserve s g k c h := h.of_segsMoved (SegsMoved.reserve g k c s)
  releaseHolder s i g _ h := h.of_segsMoved (SegsMoved.releaseHolder i g s)
  bin _ _ _ _ h := h.of_same (fun _ => rfl) (.refl _) rfl rfl rfl
  mgmt _ _ hunlock hcalen _ h := h.of_same (fun _ => rfl) (.refl _) hunlock hcalen rfl
  judged s e _ h := h.of_same (fun i => by rw [stream_judgeAlert]; rfl) (by rw [judgeAlert_alloc]; exact .refl _)
    (by rw [judgeAlert_mgmt]; rfl) (by rw [judgeAlert_mgmt]; rfl) (by rw [judgeAlert_tally]; rfl)
  lamps _ _ _ _ h := h.of_same (fun _ => rfl) (.refl _) rfl rfl rfl
  tick s h :=
    { once := h.once
      waiting := fun q hq => by
        rw [stream_tickMs]
        exact h.waiting q hq
      unlock := fun u hu => by
        obtain ⟨v, hv, rfl⟩ := Option.map_eq_some_iff.mp hu
        rw [stream_tickMs]
        exact h.unlock v hv
      held := fun u hu => by
        obtain ⟨v, hv, rfl⟩ := Option.map_eq_some_iff.mp hu
        exact h.held v hv
      capture := fun c hc => by
        obtain ⟨u, hu, hstream, hheld⟩ := h.capture c hc
        exact ⟨{ u with left := u.left - 1 }, Option.map_eq_some_iff.mpr ⟨u, hu, rfl⟩, hstream, hheld⟩ }

/-! ## Unlock and capture -/

theorem endCapture (h : ControlLaw s) (o : CaptureOutcome) : ControlLaw (endCapture o s) := by
  cases hc : s.tally.capture with
  | none => simpa only [Machine.endCapture, hc] using h
  | some c =>
    refine h.of_locked (fun i => by rw [stream_endCapture]) (by rw [endCapture_alloc]) ?_ (endCapture_capture hc o)
    rw [endCapture_unlock hc]

theorem completeCapture (h : ControlLaw s) (d : Capture) : ControlLaw (completeCapture d s) := by
  rw [completeCapture_eq]
  refine h.of_locked (fun i => ?_) ?_ ?_ (endCapture_capture (c := d) rfl _)
  · rw [stream_endCapture]; rfl
  · rw [endCapture_alloc]; rfl
  · rw [endCapture_unlock (c := d) rfl]

theorem endUnlock (h : ControlLaw s) (cause : AbortCause) : ControlLaw (endUnlock cause s) := by
  cases hu : s.mgmt.unlock with
  | none => rwa [endUnlock_of_none hu]
  | some u =>
    cases hheld : u.held with
    | true =>
      obtain ⟨c, hc, -⟩ := h.held u hu hheld
      rw [endUnlock_of_held hu hheld hc]
      exact h.endCapture _
    | false =>
      rw [endUnlock_of_free hu hheld]
      refine h.of_locked (fun _ => rfl) rfl rfl (Option.eq_none_iff_forall_ne_some.mpr fun c hc => ?_)
      obtain ⟨v, hv, -, hvh⟩ := h.capture c hc
      rw [hu] at hv
      cases hv
      rw [hheld] at hvh
      cases hvh

theorem setCalen (h : ControlLaw s) (level : Bool) (hl : level = true ∨ s.mgmt.unlock = none) :
    ControlLaw (setCalen level s) where
  once := h.once
  waiting := h.waiting
  unlock u hu := by
    obtain rfl | hno := hl
    · exact ⟨rfl, (h.unlock u hu).2⟩
    · rw [show s.mgmt.unlock = some u from hu] at hno
      cases hno
  held := h.held
  capture := h.capture

theorem leaveIdle (h : ControlLaw s) (i : StreamIdx) : ControlLaw (leaveIdle i s) := by
  unfold Machine.leaveIdle
  split
  · exact h.endUnlock _
  · exact h

/-- Leaving IDLE leaves no unlock for the stream (R74). -/
theorem leaveIdle_not_unlocked (i : StreamIdx) (s : State) :
    ∀ u, (Machine.leaveIdle i s).mgmt.unlock = some u → u.stream ≠ i := by
  intro u hu hi
  unfold Machine.leaveIdle at hu
  split at hu
  · rw [endUnlock_mgmt] at hu
    cases hu
  next hno => exact hno ((unlockedFor_iff i).mpr ⟨u, hu, hi⟩)

/-! ## A stream placed in a state -/

section Place

variable (h : ControlLaw s) (hnone : ∀ q ∈ s.alloc.queue, q.stream ≠ i)
include h hnone

theorem becomeIdle : ControlLaw (becomeIdle i s) :=
  h.of_confined (.of_placed (.becomeIdle i s)) (by rw [becomeIdle_alloc]) (by rwa [becomeIdle_alloc])
    (Or.inl (by rw [stream_becomeIdle_self]))

variable (hun : ∀ u, s.mgmt.unlock = some u → u.stream ≠ i)
include hun

theorem becomeHeld (mark : Bool) : ControlLaw (becomeHeld i mark s) :=
  h.of_confined (.of_placed (.becomeHeld i mark s)) (by rw [becomeHeld_alloc]) (by rwa [becomeHeld_alloc]) (Or.inr hun)

theorem holdNoBin (n : Nat) : ControlLaw (holdNoBin i n s) :=
  h.of_confined (.of_placed (.holdNoBin i n s)) (by rw [holdNoBin_alloc]) (by rwa [holdNoBin_alloc]) (Or.inr hun)

theorem becomeWaiting (n : Nat) (b : BinIdx) : ControlLaw (becomeWaiting i n b s) :=
  h.of_queued (q := ⟨i, n, b, s.routeFor i b, false⟩) (.of_placed (.becomeWaiting i n b s)) rfl
    (by rw [becomeWaiting_alloc]) (by rw [stream_becomeWaiting_self]) hnone hun

theorem exitTest : ControlLaw (exitTest i s) := by
  unfold Machine.exitTest
  dsimp only
  split
  · exact h.becomeHeld hnone hun false
  · split
    · split
      · split
        · exact h.becomeWaiting hnone hun _ _
        · exact h.holdNoBin hnone hun _
      · exact h.becomeIdle hnone
    · exact h.becomeIdle hnone

theorem leaveHeld : ControlLaw (leaveHeld i s) := by
  unfold Machine.leaveHeld
  split
  · exact h.becomeIdle hnone
  · exact h.exitTest hnone hun

end Place

/-! ## Hold reasons, draining, starting -/

/-- A stream's record changed but for its state. -/
theorem putStream (h : ControlLaw s) {x : Stream} (hx : x.state = (s.stream i).state) :
    ControlLaw (s.putStream i x) := by
  refine h.of_same (fun j => ?_) (.refl _) rfl rfl rfl
  rw [State.stream_putStream]
  split
  next hij => rw [← hij, hx]
  next => rfl

theorem removeRequest (h : ControlLaw s) (i : StreamIdx) : ControlLaw (removeRequest i s) := routine.removeRequest i s h

theorem removeRequest_not_queued (i : StreamIdx) (s : State) :
    ∀ q ∈ (Machine.removeRequest i s).alloc.queue, q.stream ≠ i := fun q hq => by
  rw [removeRequest_queue] at hq
  simpa using (List.mem_filter.mp hq).2

theorem withdraw (h : ControlLaw s) (i : StreamIdx) : ControlLaw (withdraw i s) :=
  (h.removeRequest i).becomeIdle (removeRequest_not_queued i s)

theorem enterDraining (h : ControlLaw s) (hst : (s.stream i).state = .feeding) : ControlLaw (enterDraining i s) :=
  h.of_confined (.enterDraining i s) (by rw [enterDraining_queue])
    (by rw [enterDraining_queue]; exact h.not_queued (by simp [hst])) (Or.inr (h.not_unlocked (by simp [hst])))

theorem withReason_state (x : Stream) (r : HoldReason) : (x.withReason r).state = x.state := by
  rw [Stream.withReason_frame]

theorem withoutReason_state (x : Stream) (r : HoldReason) : (x.withoutReason r).state = x.state := by cases r <;> rfl

theorem addReason (h : ControlLaw s) (i : StreamIdx) (r : HoldReason) : ControlLaw (addReason i r s) := by
  have hjoined : ControlLaw (s.modStream i (·.withReason r)) := h.putStream (withReason_state _ _)
  have hstate : ((s.modStream i (·.withReason r)).stream i).state = (s.stream i).state := by
    rw [stream_joined, withReason_state]
  unfold Machine.addReason
  dsimp only
  split
  next hst =>
    have hleft := hjoined.leaveIdle i
    have hnone : ∀ q ∈ (Machine.leaveIdle i (s.modStream i (·.withReason r))).alloc.queue, q.stream ≠ i := by
      rw [leaveIdle_alloc]
      exact h.not_queued (by simp [hst])
    exact hleft.becomeHeld hnone (leaveIdle_not_unlocked i _) _
  next hst =>
    refine (hjoined.removeRequest i).becomeHeld (removeRequest_not_queued i _) ?_ _
    rw [removeRequest_mgmt]
    exact h.not_unlocked (by simp [hst])
  next hst => exact hjoined.enterDraining (hstate.trans hst)
  next => exact hjoined
  next => exact hjoined

theorem removeReason (h : ControlLaw s) (i : StreamIdx) (r : HoldReason) : ControlLaw (removeReason i r s) := by
  have hleft : ControlLaw (s.putStream i ((s.stream i).withoutReason r)) := h.putStream (withoutReason_state _ _)
  unfold Machine.removeReason
  dsimp only
  split
  next hst => exact hleft.leaveHeld (h.not_queued (by simp [hst.1])) (h.not_unlocked (by simp [hst.1]))
  next => exact hleft

theorem endDraining (h : ControlLaw s) (hst : (s.stream i).state = .draining) : ControlLaw (endDraining i s) := by
  have hput : ControlLaw (s.modStream i fun x => { x with activeRoute := none, drain := none }) := h.putStream rfl
  exact hput.exitTest (h.not_queued (by simp [hst])) (h.not_unlocked (by simp [hst]))

theorem startStream (h : ControlLaw s) (hst : (s.stream i).state = .idle) (n : Nat) :
    ControlLaw (startStream i n s) := by
  have hleft := h.leaveIdle i
  have hnone : ∀ q ∈ (Machine.leaveIdle i s).alloc.queue, q.stream ≠ i := by
    rw [leaveIdle_alloc]
    exact h.not_queued (by simp [hst])
  have hun := leaveIdle_not_unlocked i s
  cases hb : s.currentBinOf n with
  | some b =>
    rw [startStream_of_bin hb]
    exact hleft.becomeWaiting hnone hun n b
  | none =>
    rw [startStream_of_no_bin hb]
    have hattached : ControlLaw (attach n i (Machine.leaveIdle i s)) :=
      hleft.of_same (fun j => by rw [stream_attach]) (by rw [attach_alloc]) (by rw [attach_mgmt]) (by rw [attach_mgmt])
        (by rw [attach_tally])
    have hput : ControlLaw ((attach n i (Machine.leaveIdle i s)).modStream i fun x =>
        { x with currentLot := some n }) :=
      hattached.putStream rfl
    refine hput.holdNoBin ?_ ?_ n
    · show ∀ q ∈ (attach n i (Machine.leaveIdle i s)).alloc.queue, _
      rwa [attach_alloc]
    · show ∀ u, (attach n i (Machine.leaveIdle i s)).mgmt.unlock = some u → _
      rwa [attach_mgmt]

theorem idleRule (h : ControlLaw s) (hst : (s.stream i).state = .idle) (prev : Option Lookup) :
    ControlLaw (idleRule i prev s) := by
  have hno : ControlLaw (noLot i prev s) := by
    unfold noLot
    split
    · exact h
    · exact routine.raise _ _ _ h
  unfold Machine.idleRule
  dsimp only
  split
  · split
    · split
      · split
        · exact h.startStream hst _
        · exact h
      · exact hno
    · exact hno
  · exact h

theorem transitions (h : ControlLaw s) (i : StreamIdx) (prev : Option Lookup) (emptied : Bool) :
    ControlLaw (transitions i prev emptied s) := by
  have hidle : ((Machine.becomeIdle i (Machine.removeRequest i s)).stream i).state = .idle := by
    rw [stream_becomeIdle_self]
  unfold Machine.transitions
  dsimp only
  split
  case h_1 hst => exact h.idleRule hst _
  case h_2 hst =>
    split
    · split
      · exact h
      · exact (h.withdraw i).idleRule hidle _
    · exact h.withdraw i
  case h_3 hst =>
    split
    · exact h
    · exact h.enterDraining hst
  case h_4 => exact h
  case h_5 hst =>
    split
    · exact h.leaveHeld (h.not_queued (by simp [hst])) (h.not_unlocked (by simp [hst]))
    · exact h

theorem restartSilence (h : ControlLaw s) (i : StreamIdx) : ControlLaw (restartSilence i s) := by
  unfold Machine.restartSilence
  split
  · exact h.putStream rfl
  · exact h

theorem examineSteps (h : ControlLaw s) (i : StreamIdx) (f : SampleFields) : ControlLaw (examineSteps i f s) := by
  rw [examineSteps_eq]
  exact ((h.putStream (examined_state rfl)).restartSilence i |>.transitions i _ _).restartSilence i

/-! ## The end of the restart interval -/

theorem restartBlocks (h : ControlLaw s) : ControlLaw (restartBlocks s) := by
  have hstages : RestartStages s _ _ _ _ _ _ := ⟨rfl, rfl, rfl, rfl, rfl, rfl⟩
  rw [hstages.restartBlocks_eq]
  have hended : ControlLaw (Machine.endUnlock .restart { s with mgmt := { s.mgmt with restartLeft := none } }) :=
    (h.of_same (t := { s with mgmt := { s.mgmt with restartLeft := none } }) (fun _ => rfl) (.refl _) rfl rfl
      rfl).endUnlock _
  have hcapture := hended.no_capture (by rw [endUnlock_mgmt])
  have hunlock := congrArg Management.unlock hstages.mgmt
  have hqueue := congrArg Allocator.queue hstages.alloc
  have htally := congrArg TallyEngine.capture hstages.tally
  rw [hcapture] at htally
  exact {
    once := by rw [hqueue]; exact List.nodup_nil
    waiting := fun q hq => by rw [hqueue] at hq; cases hq
    unlock := fun u hu => by rw [hunlock] at hu; cases hu
    held := fun u hu => by rw [hunlock] at hu; cases hu
    capture := fun c hc => by rw [htally] at hc; cases hc }

/-! ## Every step -/

theorem upheld : Upheld ControlLaw where
  toRoutine := routine
  completeCapture _ _ d _ _ h := h.completeCapture d
  endCapture _ o h := h.endCapture o
  endUnlock _ c h := h.endUnlock c
  calenFall s h := (h.endUnlock _).setCalen false (Or.inr (by rw [endUnlock_mgmt]))
  calenRise _ h := h.setCalen true (Or.inl rfl)
  judgeReport s g eq h := h.of_segsMoved (SegsMoved.judgeReport g eq s)
  faultSeg s g _ h := h.of_segsMoved (SegsMoved.faultSeg g s)
  endFlush s g _ h := h.of_segsMoved (SegsMoved.endFlush g s)
  clearFault s g _ h := h.of_segsMoved (SegsMoved.clearFault g s)
  storeSegConfig s g c _ _ h := h.of_segsMoved (SegsMoved.storeSegConfig g c s)
  addReason _ i r _ h := h.addReason i r
  removeReason _ i r _ h := h.removeReason i r
  grossSample s i f m h := by
    have hput : ControlLaw (s.modStream i fun x => { x with
        last := some (lastOf f 0), suspect := some (suspectAfter s i f m) }) := h.putStream rfl
    exact routine.raise _ _ _ (hput.addReason i .meter)
  deleteSuspect s i h := by
    have hput : ControlLaw (s.modStream i fun x => { x with suspect := none }) := h.putStream rfl
    exact hput.removeReason i .meter
  enterDraining _ _ hst h := h.enterDraining hst
  endDraining _ _ hst h := h.endDraining hst
  withdraw _ i _ h := h.withdraw i
  examineSteps _ i f h := h.examineSteps i f
  activate s i q r hq _ _ h := by
    obtain ⟨hi, hmem⟩ := requestOf_eq_some hq
    have hst : (s.stream i).state ≠ .idle := by
      rw [← hi, h.waiting q hmem]
      exact nofun
    refine h.of_confined (.activate i r s) ?_ ?_ (Or.inr (h.not_unlocked hst))
    · rw [activate_queue]
      exact List.filter_sublist.map _
    · rw [activate_queue]
      exact fun p hp => by simpa using (List.mem_filter.mp hp).2
  carryHit s i _ old new hst _ h := by
    obtain ⟨-, hconf, hqueue⟩ := carryHit_spec (i := i) (s := s) (by simp [hst]) old new
    exact h.of_confined hconf (by rw [hqueue]) (by rw [hqueue]; exact h.not_queued (by simp [hst]))
      (Or.inr (h.not_unlocked (by simp [hst])))
  restartBlocks _ h := h.restartBlocks

theorem storeCalibration (h : ControlLaw s) (hrun : ¬s.capturing i = true) (hunlock : s.unlockedFor i = true)
    (k : Option Calibration) : ControlLaw (storeCalibration i k s) := by
  refine h.of_locked (fun _ => rfl) rfl rfl (Option.eq_none_iff_forall_ne_some.mpr fun c hc => ?_)
  obtain ⟨u, hu, hstream, -⟩ := h.capture c hc
  obtain ⟨v, hv, hi⟩ := (unlockedFor_iff i).mp hunlock
  rw [hu] at hv
  cases hv
  exact hrun ((capturing_iff i).mpr ⟨c, hc, hstream.symm.trans hi⟩)

/-- A new unlock takes the place of any other, whose capture has ended with it (R73). -/
theorem unlockStream (h : ControlLaw s) (hcalen : s.mgmt.calen = true) (hst : (s.stream i).state = .idle) :
    ControlLaw (unlockStream i s) := by
  have hended := h.endUnlock .unlockReplaced
  have hmgmt := endUnlock_mgmt .unlockReplaced s
  have hcapture := hended.no_capture (by rw [hmgmt])
  exact {
    once := hended.once
    waiting := hended.waiting
    unlock := fun u hu => by
      cases hu
      refine ⟨(congrArg Management.calen hmgmt).trans hcalen, ?_⟩
      show ((Machine.endUnlock .unlockReplaced s).stream i).state = .idle
      rwa [stream_endUnlock]
    held := fun u hu hheld => by cases hu; cases hheld
    capture := fun c hc => by
      rw [show (Machine.endUnlock .unlockReplaced s).tally.capture = some c from hc] at hcapture
      cases hcapture }

theorem beginCapture (h : ControlLaw s) (hcalen : s.mgmt.calen = true) (hst : (s.stream i).state = .idle) (w : Nat) :
    ControlLaw (beginCapture i w s) where
  once := h.once
  waiting := h.waiting
  unlock u hu := by cases hu; exact ⟨hcalen, hst⟩
  held u hu _ := by cases hu; exact ⟨_, rfl, rfl⟩
  capture c hc := by cases hc; exact ⟨_, rfl, rfl, rfl⟩

theorem entrusted (h : ControlLaw s) : Entrusted ControlLaw s where
  calibration a := Answer.keeps_indexed fun i => by
    split
    · trivial
    · split
      · trivial
      next hunlock =>
        split
        · trivial
        next hrun =>
          have hstore := h.storeCalibration hrun (by simpa using hunlock)
          split
          · exact hstore none
          · split
            · exact hstore _
            · trivial
  unlock a := Answer.keeps_indexed fun i => by
    split
    · trivial
    next hcalen =>
      split
      · trivial
      next hst =>
        split
        · trivial
        · exact h.unlockStream (by simpa using hcalen) (not_not.mp hst)
  capture a := Answer.keeps_indexed fun i => by
    split
    · trivial
    next hcalen =>
      split
      · trivial
      · split
        · trivial
        · split
          · trivial
          next hready => exact h.beginCapture (by simpa using hcalen) (not_not.mp (not_or.mp hready).1) _

theorem resetWith (straps : BitVec 6) (calen : Bool) (l : List Instr) :
    ControlLaw (State.resetWith straps.toNat calen l) := by
  obtain ⟨-, -, -, -, -, -, hcontrol, -⟩ := resetMeetsEveryLaw.2 straps calen l
  exact hcontrol

end ControlLaw

/-- Settles O11. -/
theorem controlLawKept : Obligations.ControlLawKept :=
  ControlLaw.upheld.step (fun _ h => h.entrusted) ControlLaw.resetWith

end Sys2Proof.Machine
end

section
/-! The streams' records: every step keeps what each state requires of them (R28, R37, R39, R41, R42). -/

namespace Sys2Proof.Machine

/-! ## The law in three parts -/

/-- What a stream's state requires of its record, but for the reasons of HELD (R28). -/
structure Stream.Shaped (x : Stream) : Prop where
  free : x.state = .idle ∨ x.state = .waiting ∨ x.state = .feeding → x.reasons = HoldSet.none
  lot : x.currentLot.isSome = true ↔ x.state = .waiting ∨ x.state = .feeding ∨ x.state = .draining
  route : x.activeRoute.isSome = true ↔ x.state = .feeding ∨ x.state = .draining
  mark : x.fromIdle = true → x.state = .held
  silence : x.silence.isSome = true → x.state = .waiting ∨ x.state = .feeding ∨ x.state = .draining
  permit : x.permit.isSome = true ↔ x.state = .feeding
  drain : x.drain.isSome = true → x.state = .draining

/-- The NO-BIN lot, the faulted segments and the suspect record of a stream are there with their reasons. -/
structure Stream.Marked (x : Stream) : Prop where
  noBin : x.noBinLot.isSome = x.reasons.noBin
  faulted : x.reasons.segment = !x.faulted.isEmpty
  meter : x.suspect.isSome = x.reasons.meter

/-- A record that any state but FEEDING and DRAINING can take: neither permit nor drain timer is armed. -/
structure Stream.Parked (x : Stream) : Prop where
  marked : x.Marked
  permit : x.permit = none
  drain : x.drain = none

namespace Stream

variable {x y : Stream}

theorem Law.shaped (h : x.Law) : x.Shaped := ⟨h.free, h.lot, h.route, h.mark, h.silence, h.permit, h.drain⟩

theorem Law.marked (h : x.Law) : x.Marked := ⟨h.noBin, h.faulted, h.meter⟩

theorem Shaped.law (h : x.Shaped) (hm : x.Marked) (hheld : x.state = .held → x.reasons ≠ HoldSet.none) : x.Law :=
  ⟨hheld, h.free, h.lot, h.route, h.mark, hm.noBin, hm.faulted, hm.meter, h.silence, h.permit, h.drain⟩

theorem Shaped.permit_none (h : x.Shaped) (hst : x.state ≠ .feeding) : x.permit = none := by
  rw [← Option.isNone_iff_eq_none, ← Option.not_isSome, Bool.not_eq_true', ← Bool.not_eq_true, h.permit]
  exact hst

theorem Shaped.drain_none (h : x.Shaped) (hst : x.state ≠ .draining) : x.drain = none := by
  rw [← Option.isNone_iff_eq_none, ← Option.not_isSome, Bool.not_eq_true', ← Bool.not_eq_true]
  exact fun hd => hst (h.drain hd)

theorem Shaped.parked (h : x.Shaped) (hm : x.Marked) (hf : x.state ≠ .feeding) (hd : x.state ≠ .draining) : x.Parked :=
  ⟨hm, h.permit_none hf, h.drain_none hd⟩

/-- A calm change keeps the law. -/
theorem Law.calm (h : x.Law) (hc : x.Calm y) : y.Law where
  held := by rw [hc.state, hc.reasons]; exact h.held
  free := by rw [hc.state, hc.reasons]; exact h.free
  lot := by rw [hc.state, hc.currentLot]; exact h.lot
  route := by rw [hc.state, hc.activeRoute]; exact h.route
  mark := by rw [hc.state, hc.fromIdle]; exact h.mark
  noBin := by rw [hc.noBinLot, hc.reasons]; exact h.noBin
  faulted := by rw [hc.faulted, hc.reasons]; exact h.faulted
  meter := by rw [hc.suspect, hc.reasons]; exact h.meter
  silence hs := by
    rw [hc.state]
    exact (hc.silence hs).elim h.silence (timed_iff _).mp
  permit := by
    rw [hc.state]
    obtain hp | ⟨hp, hst⟩ := hc.permit
    · rw [hp]; exact h.permit
    · rw [hp]; exact ⟨nofun, fun hf => absurd hf hst⟩
  drain hd := by
    rw [hc.state]
    exact (hc.drain hd).elim h.drain id

theorem Law.tick (h : x.Law) : x.tick.Law := by
  have hsome : ∀ o, (tickTimer o).isSome = o.isSome := fun o => by cases o <;> rfl
  exact h.calm { silence := fun hs => Or.inl (by simpa [Stream.tick, hsome] using hs)
                 permit := by simp [Stream.tick, hsome]
                 drain := fun hd => Or.inl (by simpa [Stream.tick, hsome] using hd) }

/-! ## Records that a move leaves -/

section Placed

variable (h : x.Parked)
include h

theorem Parked.idle (hr : x.reasons = HoldSet.none) : ({ x with
    state := .idle, activeRoute := none, silence := none, fromIdle := false, currentLot := none } : Stream).Law where
  held := nofun
  free _ := hr
  lot := by simp
  route := by simp
  mark := nofun
  noBin := h.marked.noBin
  faulted := h.marked.faulted
  meter := h.marked.meter
  silence := nofun
  permit := by simp [h.permit]
  drain := by simp [h.drain]

theorem Parked.held (hr : x.reasons ≠ HoldSet.none) (mark : Bool) : ({ x with
    state := .held, activeRoute := none, silence := none, fromIdle := mark, currentLot := none } : Stream).Law where
  held _ := hr
  free := by simp
  lot := by simp
  route := by simp
  mark _ := rfl
  noBin := h.marked.noBin
  faulted := h.marked.faulted
  meter := h.marked.meter
  silence := nofun
  permit := by simp [h.permit]
  drain := by simp [h.drain]

theorem Parked.waiting (hr : x.reasons = HoldSet.none) (n ms : Nat) : ({ x with
    state := .waiting, currentLot := some n, activeRoute := none, fromIdle := false
    silence := some ms } : Stream).Law where
  held := nofun
  free _ := hr
  lot := by simp
  route := by simp
  mark := nofun
  noBin := h.marked.noBin
  faulted := h.marked.faulted
  meter := h.marked.meter
  silence _ := Or.inl rfl
  permit := by simp [h.permit]
  drain := by simp [h.drain]

theorem Parked.withoutBin (n : Nat) : ({ x with
    state := .held, activeRoute := none, silence := none, fromIdle := false, currentLot := none
    reasons := { x.reasons with noBin := true }, noBinLot := some n } : Stream).Law where
  held _ hr := Bool.noConfusion (congrArg HoldSet.noBin hr)
  free := by simp
  lot := by simp
  route := by simp
  mark := nofun
  noBin := rfl
  faulted := h.marked.faulted
  meter := h.marked.meter
  silence := nofun
  permit := by simp [h.permit]
  drain := by simp [h.drain]

end Placed

/-- DRAINING keeps the lot and the route of a FEEDING stream (R36). -/
theorem Shaped.draining (h : x.Shaped) (hst : x.state = .feeding) (hm : y.Marked) (hlot : y.currentLot = x.currentLot)
    (hroute : y.activeRoute = x.activeRoute) (hmark : y.fromIdle = x.fromIdle) (d : Option Nat) :
    ({ y with state := .draining, permit := none, drain := d } : Stream).Law where
  held := nofun
  free := by simp
  lot := by simp [hlot, h.lot, hst]
  route := by simp [hroute, h.route, hst]
  mark hf := by
    have hheld := h.mark (hmark ▸ hf)
    rw [hst] at hheld
    cases hheld
  noBin := hm.noBin
  faulted := hm.faulted
  meter := hm.meter
  silence _ := Or.inr (Or.inr rfl)
  permit := by simp
  drain _ := rfl

theorem Law.feeding (h : x.Law) (hst : x.state = .waiting ∨ x.state = .feeding) (r : RouteIdx) (ms : Nat) :
    ({ x with state := .feeding, activeRoute := some r, permit := some ms } : Stream).Law where
  held := nofun
  free _ := h.free (Or.inr hst)
  lot := by
    have hlot := h.lot.mpr (by obtain hst | hst := hst <;> simp [hst])
    simp [hlot]
  route := by simp
  mark hf := by
    have hheld := h.mark hf
    obtain hst | hst := hst <;> rw [hst] at hheld <;> cases hheld
  noBin := h.noBin
  faulted := h.faulted
  meter := h.meter
  silence _ := Or.inr (Or.inl rfl)
  permit := by simp
  drain hd := by
    have hdr := h.drain hd
    obtain hst | hst := hst <;> rw [hst] at hdr <;> cases hdr

theorem rested_law (x : Stream) : x.rested.Law where
  held := nofun
  free _ := rfl
  lot := by simp [Stream.rested]
  route := by simp [Stream.rested]
  mark := nofun
  noBin := rfl
  faulted := by simp [Stream.rested, HoldSet.none]
  meter := rfl
  silence := nofun
  permit := by simp [Stream.rested]
  drain := nofun

/-! ## Reasons joined and removed -/

theorem withReason_ne_none (x : Stream) (r : HoldReason) : (x.withReason r).reasons ≠ HoldSet.none := by
  rw [Stream.withReason_reasons]
  cases r with
  | operator => exact fun h => Bool.noConfusion (congrArg HoldSet.operator h)
  | silent => exact fun h => Bool.noConfusion (congrArg HoldSet.silent h)
  | meter => exact fun h => Bool.noConfusion (congrArg HoldSet.meter h)
  | noBin n => exact fun h => Bool.noConfusion (congrArg HoldSet.noBin h)
  | segment g => exact fun h => Bool.noConfusion (congrArg HoldSet.segment h)

theorem withoutReason_of_none (h : x.reasons = HoldSet.none) (r : HoldReason) :
    (x.withoutReason r).reasons = HoldSet.none := by
  cases r <;> simp [Stream.withoutReason, h, HoldSet.none]

theorem Marked.withReason (h : x.Marked) {r : HoldReason} (hr : r ≠ .meter) : (x.withReason r).Marked := by
  cases r with
  | operator => exact ⟨h.noBin, h.faulted, h.meter⟩
  | silent => exact ⟨h.noBin, h.faulted, h.meter⟩
  | meter => exact absurd rfl hr
  | noBin n =>
    unfold Stream.withReason
    dsimp only
    split
    · exact h
    · exact ⟨rfl, h.faulted, h.meter⟩
  | segment g =>
    refine ⟨h.noBin, ?_, h.meter⟩
    have hmem : ¬(x.faulted.insert g).isEmpty = true := fun he => by
      have := IdxSet.isEmpty_iff.mp he g
      simp [IdxSet.has_insert] at this
    simp [Stream.withReason, hmem]

/-- METER joins with the suspect record (R45). -/
theorem Marked.withMeter (h : x.Marked) (l : LastSample) (r : Suspect) :
    (({ x with last := some l, suspect := some r } : Stream).withReason .meter).Marked := ⟨h.noBin, h.faulted, rfl⟩

theorem Marked.withoutReason (h : x.Marked) {r : HoldReason} (hr : r ≠ .meter) : (x.withoutReason r).Marked := by
  cases r with
  | operator => exact ⟨h.noBin, h.faulted, h.meter⟩
  | silent => exact ⟨h.noBin, h.faulted, h.meter⟩
  | meter => exact absurd rfl hr
  | noBin n => exact ⟨rfl, h.faulted, h.meter⟩
  | segment g =>
    refine ⟨h.noBin, ?_, h.meter⟩
    show (x.reasons.segment && !(x.faulted.erase g).isEmpty) = !(x.faulted.erase g).isEmpty
    cases he : (x.faulted.erase g).isEmpty with
    | true => simp
    | false =>
      have hne : ¬x.faulted.isEmpty = true := fun hall => by
        have hx := IdxSet.isEmpty_iff.mp hall
        have : (x.faulted.erase g).isEmpty = true := IdxSet.isEmpty_iff.mpr fun k => by simp [IdxSet.has_erase, hx]
        rw [he] at this
        cases this
      simp [h.faulted, hne]

/-- METER leaves with the suspect record (R46). -/
theorem Marked.withoutMeter (h : x.Marked) : (({ x with suspect := none } : Stream).withoutReason .meter).Marked :=
  ⟨h.noBin, h.faulted, rfl⟩

theorem Marked.examined (h : x.Marked) (found : Lookup) (demand : Bool) : (x.examined found demand).Marked := by
  have hx : ({ x with lastLookup := some found, demand := demand } : Stream).Marked := ⟨h.noBin, h.faulted, h.meter⟩
  have hy := hx.withoutReason (r := .silent) nofun
  unfold Stream.examined Stream.clearBySample
  dsimp only
  split
  · split
    · exact hy
    · exact hy.withoutReason nofun
  · exact hy

theorem examined_of_none (h : x.reasons = HoldSet.none) (found : Lookup) (demand : Bool) :
    (x.examined found demand).reasons = HoldSet.none := by
  have hy : (({ x with lastLookup := some found, demand := demand } : Stream).withoutReason .silent).reasons =
      HoldSet.none := withoutReason_of_none (x := { x with lastLookup := some found, demand := demand }) h _
  unfold Stream.examined Stream.clearBySample
  dsimp only
  split
  · split
    · exact hy
    · exact withoutReason_of_none hy _
  · exact hy

/-- The shape does not turn on the reasons of a DRAINING or HELD stream, nor on its other marks. -/
theorem Shaped.marks (h : x.Shaped) {r : HoldSet} (n : Option Nat) (gs : IdxSet 64)
    (hfree : x.state = .idle ∨ x.state = .waiting ∨ x.state = .feeding → r = HoldSet.none) :
    ({ x with reasons := r, noBinLot := n, faulted := gs } : Stream).Shaped :=
  ⟨hfree, h.lot, h.route, h.mark, h.silence, h.permit, h.drain⟩

theorem Shaped.withReason (h : x.Shaped) (hst : x.state = .draining ∨ x.state = .held) (r : HoldReason) :
    (x.withReason r).Shaped := by
  rw [Stream.withReason_frame]
  exact h.marks _ _ fun hs => by obtain hst | hst := hst <;> simp [hst] at hs

theorem withoutReason_frame (x : Stream) (r : HoldReason) : x.withoutReason r = { x with
    reasons := (x.withoutReason r).reasons, noBinLot := (x.withoutReason r).noBinLot
    faulted := (x.withoutReason r).faulted } := by cases r <;> rfl

theorem Shaped.withoutReason (h : x.Shaped) (r : HoldReason) : (x.withoutReason r).Shaped := by
  rw [withoutReason_frame]
  exact h.marks _ _ fun hs => withoutReason_of_none (h.free hs) r

theorem Shaped.examined (h : x.Shaped) (found : Lookup) (demand : Bool) : (x.examined found demand).Shaped := by
  have hx : ({ x with lastLookup := some found, demand := demand } : Stream).Shaped :=
    ⟨h.free, h.lot, h.route, h.mark, h.silence, h.permit, h.drain⟩
  rw [examined_frame]
  exact hx.marks _ _ fun hs => examined_of_none (h.free hs) _ _

end Stream
end Sys2Proof.Machine
end

section
/-! Every step keeps the streams' records as their states require (R28): the operations that move a stream, one by
one. -/

namespace Sys2Proof.Machine

/-- Two properties that routine parts keep are kept together. -/
theorem Routine.and {P Q : State → Prop} (hp : Routine P) (hq : Routine Q) : Routine fun s => P s ∧ Q s where
  pending s l h := ⟨hp.pending s l h.1, hq.pending s l h.2⟩
  reports s a d h := ⟨hp.reports s a d h.1, hq.reports s a d h.2⟩
  charTime s n h := ⟨hp.charTime s n h.1, hq.charTime s n h.2⟩
  loop s l hl h := ⟨hp.loop s l hl h.1, hq.loop s l hl h.2⟩
  stream s i x hx h := ⟨hp.stream s i x hx h.1, hq.stream s i x hx h.2⟩
  tally s i x hx h := ⟨hp.tally s i x hx h.1, hq.tally s i x hx h.2⟩
  capture s c d hc hd h := ⟨hp.capture s c d hc hd h.1, hq.capture s c d hc hd h.2⟩
  lot s k l l' hl hg h := ⟨hp.lot s k l l' hl hg h.1, hq.lot s k l l' hl hg h.2⟩
  book s k l b g c hl ht h := ⟨hp.book s k l b g c hl ht h.1, hq.book s k l b g c hl ht h.2⟩
  load s k r hr hn h := ⟨hp.load s k r hr hn h.1, hq.load s k r hr hn h.2⟩
  extend s k l r hl hr hc h := ⟨hp.extend s k l r hl hr hc h.1, hq.extend s k l r hl hr hc h.2⟩
  drop s k h := ⟨hp.drop s k h.1, hq.drop s k h.2⟩
  complete s k l hl hr h := ⟨hp.complete s k l hl hr h.1, hq.complete s k l hl hr h.2⟩
  release s p h := ⟨hp.release s p h.1, hq.release s p h.2⟩
  hold s i e h := ⟨hp.hold s i e h.1, hq.hold s i e h.2⟩
  route s k r h := ⟨hp.route s k r h.1, hq.route s k r h.2⟩
  staging s i x h := ⟨hp.staging s i x h.1, hq.staging s i x h.2⟩
  requests s q hs h := ⟨hp.requests s q hs h.1, hq.requests s q hs h.2⟩
  segment s g x hx h := ⟨hp.segment s g x hx h.1, hq.segment s g x hx h.2⟩
  reserve s g k c h := ⟨hp.reserve s g k c h.1, hq.reserve s g k c h.2⟩
  releaseHolder s i g hi h := ⟨hp.releaseHolder s i g hi h.1, hq.releaseHolder s i g hi h.2⟩
  bin s b x hx h := ⟨hp.bin s b x hx h.1, hq.bin s b x hx h.2⟩
  mgmt s m hu hc hm h := ⟨hp.mgmt s m hu hc hm h.1, hq.mgmt s m hu hc hm h.2⟩
  judged s e he h := ⟨hp.judged s e he h.1, hq.judged s e he h.2⟩
  lamps s x he ha h := ⟨hp.lamps s x he ha h.1, hq.lamps s x he ha h.2⟩
  tick s h := ⟨hp.tick s h.1, hq.tick s h.2⟩

/-- Two properties that an answer keeps. -/
theorem Answer.keeps_and {P Q : State → Prop} {s : State} {a : Answer} (hp : a.Keeps P s) (hq : a.Keeps Q s) :
    a.Keeps (fun s => P s ∧ Q s) s := by
  cases a with
  | refuse => trivial
  | done f => exact ⟨hp, hq⟩

namespace StreamLaw

variable {s t u : State} {i : StreamIdx}

theorem of_streams (h : StreamLaw s) (ht : t.streams = s.streams) : StreamLaw t := fun i => by
  have hi : t.stream i = s.stream i := by unfold State.stream; rw [ht]
  rw [hi]
  exact h i

theorem putStream (h : StreamLaw s) {x : Stream} (hx : x.Law) : StreamLaw (s.putStream i x) := fun j => by
  rw [State.stream_putStream]
  split
  · exact hx
  · exact h j

/-- The law is about the streams' records alone. -/
theorem routine : Routine StreamLaw where
  pending _ _ h := h.of_streams rfl
  reports _ _ _ h := h.of_streams rfl
  charTime _ _ h := h.of_streams rfl
  loop _ _ _ h := h.of_streams rfl
  stream s i _ hx h := h.putStream ((h i).calm hx)
  tally _ _ _ _ h := h.of_streams rfl
  capture _ _ _ _ _ h := h.of_streams rfl
  lot _ _ _ _ _ _ h := h.of_streams rfl
  book _ _ _ _ _ _ _ _ h := h.of_streams rfl
  load _ _ _ _ _ h := h.of_streams rfl
  extend _ _ _ _ _ _ _ h := h.of_streams rfl
  drop _ _ h := h.of_streams rfl
  complete _ _ _ _ _ h := h.of_streams rfl
  release _ _ h := h.of_streams rfl
  hold _ _ _ h := h.of_streams rfl
  route _ _ _ h := h.of_streams rfl
  staging _ _ _ h := h.of_streams rfl
  requests _ _ _ h := h.of_streams rfl
  segment _ _ _ _ h := h.of_streams rfl
  reserve s g k c h := h.of_streams (SegsMoved.reserve g k c s).streams
  releaseHolder s i g _ h := h.of_streams (SegsMoved.releaseHolder i g s).streams
  bin _ _ _ _ h := h.of_streams rfl
  mgmt _ _ _ _ _ h := h.of_streams rfl
  judged _ _ _ h := h.of_streams (judgeAlert_streams _)
  lamps _ _ _ _ h := h.of_streams rfl
  tick s h i := by
    rw [stream_tickMs]
    exact (h i).tick

end StreamLaw

/-! ## The law but for one stream -/

/-- The other streams than `i` meet the law in `s`. -/
def LawfulOthers (i : StreamIdx) (s : State) : Prop := ∀ j, j ≠ i → (s.stream j).Law

section Others

variable {s t : State} {i : StreamIdx}

theorem StreamLaw.others (h : StreamLaw s) (i : StreamIdx) : LawfulOthers i s := fun j _ => h j

theorem LawfulOthers.law (h : LawfulOthers i s) (hi : (s.stream i).Law) : StreamLaw s := fun j => by
  by_cases hj : j = i
  · exact hj ▸ hi
  · exact h j hj

theorem LawfulOthers.of_eq (h : LawfulOthers i s) (ho : ∀ j, j ≠ i → t.stream j = s.stream j) : LawfulOthers i t :=
  fun j hj => by
    rw [ho j hj]
    exact h j hj

theorem LawfulOthers.confined (h : LawfulOthers i s) (hc : Confined i s t) : LawfulOthers i t := h.of_eq hc.other

end Others

namespace LawfulOthers

variable {s t : State} {i : StreamIdx} (h : LawfulOthers i s)
include h

theorem putStream (x : Stream) : LawfulOthers i (s.putStream i x) := h.confined (.putStream i x s)

/-! ## A stream placed in a state -/

section Parked

variable (hp : (s.stream i).Parked)
include hp

theorem becomeIdle (hr : (s.stream i).reasons = HoldSet.none) : StreamLaw (becomeIdle i s) :=
  (h.confined (.of_placed (.becomeIdle i s))).law (by rw [stream_becomeIdle_self]; exact hp.idle hr)

theorem becomeHeld (hr : (s.stream i).reasons ≠ HoldSet.none) (mark : Bool) : StreamLaw (becomeHeld i mark s) :=
  (h.confined (.of_placed (.becomeHeld i mark s))).law (by rw [stream_becomeHeld_self]; exact hp.held hr mark)

theorem becomeWaiting (hr : (s.stream i).reasons = HoldSet.none) (n : Nat) (b : BinIdx) :
    StreamLaw (becomeWaiting i n b s) :=
  (h.confined (.of_placed (.becomeWaiting i n b s))).law
    (by rw [stream_becomeWaiting_self]; exact hp.waiting hr n _)

theorem holdNoBin (n : Nat) : StreamLaw (holdNoBin i n s) :=
  (h.confined (.of_placed (.holdNoBin i n s))).law (by rw [stream_holdNoBin_self]; exact hp.withoutBin n)

theorem exitTest : StreamLaw (exitTest i s) := by
  unfold Machine.exitTest
  dsimp only
  split
  next hr => exact h.becomeHeld hp hr false
  next hr =>
    have hnone := not_not.mp hr
    split
    · split
      · split
        · exact h.becomeWaiting hp hnone _ _
        · exact h.holdNoBin hp _
      · exact h.becomeIdle hp hnone
    · exact h.becomeIdle hp hnone

theorem leaveHeld (hr : (s.stream i).reasons = HoldSet.none) : StreamLaw (leaveHeld i s) := by
  unfold Machine.leaveHeld
  split
  · exact h.becomeIdle hp hr
  · exact h.exitTest hp

end Parked

theorem removeRequest : LawfulOthers i (removeRequest i s) := h.confined (.removeRequest i s)

theorem leaveIdle : LawfulOthers i (leaveIdle i s) := h.of_eq fun _ _ => stream_leaveIdle _ _ _

/-! ## Hold reasons -/

section Reasons

variable (hshape : (s.stream i).Shaped) {r : HoldReason}
include hshape

/-- A reason joins a record of any state (R37). -/
theorem addReason (hm : ((s.stream i).withReason r).Marked) : StreamLaw (addReason i r s) := by
  have hself := stream_joined i r s
  have hothers : LawfulOthers i (s.modStream i (·.withReason r)) := h.putStream _
  have hne := (s.stream i).withReason_ne_none r
  have hframe := (s.stream i).withReason_frame r
  have hparked : (s.stream i).state ≠ .feeding → (s.stream i).state ≠ .draining →
      ((s.stream i).withReason r).Parked := fun hf hd =>
    ⟨hm, by rw [hframe]; exact hshape.permit_none hf, by rw [hframe]; exact hshape.drain_none hd⟩
  have hstay : (s.stream i).state = .draining ∨ (s.stream i).state = .held →
      StreamLaw (s.modStream i (·.withReason r)) := fun hst => by
    have hlaw := (hshape.withReason hst r).law hm fun _ => hne
    exact hothers.law (by rw [hself]; exact hlaw)
  unfold Machine.addReason
  dsimp only
  split
  next hst =>
    have hkept : (Machine.leaveIdle i (s.modStream i (·.withReason r))).stream i = (s.stream i).withReason r := by
      rw [stream_leaveIdle, hself]
    refine hothers.leaveIdle.becomeHeld ?_ ?_ _
    · rw [hkept]; exact hparked (by simp [hst]) (by simp [hst])
    · rw [hkept]; exact hne
  next hst =>
    have hkept : (Machine.removeRequest i (s.modStream i (·.withReason r))).stream i = (s.stream i).withReason r := by
      rw [stream_removeRequest_self (by rw [hself, hframe]; simp [hst]), hself]
    refine hothers.removeRequest.becomeHeld ?_ ?_ _
    · rw [hkept]; exact hparked (by simp [hst]) (by simp [hst])
    · rw [hkept]; exact hne
  next hst =>
    obtain ⟨⟨d, hd⟩, -⟩ := enterDraining_spec i (s.modStream i (·.withReason r))
    refine (hothers.confined (.enterDraining i _)).law ?_
    rw [hd, hself]
    exact hshape.draining hst hm (by rw [hframe]) (by rw [hframe]) (by rw [hframe]) d
  next hst => exact hstay (Or.inl hst)
  next hst => exact hstay (Or.inr hst)

/-- A reason leaves a record of any state (R39). -/
theorem removeReason (hm : ((s.stream i).withoutReason r).Marked)
    (hheld : (s.stream i).state = .held → (s.stream i).reasons ≠ HoldSet.none) : StreamLaw (removeReason i r s) := by
  have hself : (s.putStream i ((s.stream i).withoutReason r)).stream i = (s.stream i).withoutReason r := by simp
  have hothers : LawfulOthers i (s.putStream i ((s.stream i).withoutReason r)) := h.putStream _
  have hstate := (s.stream i).withoutReason_frame r
  have hyshape := hshape.withoutReason r
  by_cases hleave : (s.stream i).state = .held ∧ (s.stream i).reasons ≠ HoldSet.none ∧
      ((s.stream i).withoutReason r).reasons = HoldSet.none
  · obtain ⟨hst, hne, hnone⟩ := hleave
    have hyst : ((s.stream i).withoutReason r).state = .held := by rw [hstate]; exact hst
    rw [removeReason_of_leaving r hst hne hnone]
    refine hothers.leaveHeld ?_ (by rw [hself]; exact hnone)
    rw [hself]
    exact hyshape.parked hm (by simp [hyst]) (by simp [hyst])
  · have hstay : Machine.removeReason i r s = s.putStream i ((s.stream i).withoutReason r) := if_neg hleave
    have hlaw : ((s.stream i).withoutReason r).Law := hyshape.law hm fun hst hnone =>
      have hst' : (s.stream i).state = .held := by rwa [hstate] at hst
      hleave ⟨hst', hheld hst', hnone⟩
    rw [hstay]
    exact hothers.law (by rw [hself]; exact hlaw)

end Reasons

end LawfulOthers

namespace StreamLaw

variable {s : State} {i : StreamIdx}

theorem addReason (h : StreamLaw s) (i : StreamIdx) {r : HoldReason} (hr : r ≠ .meter) : StreamLaw (addReason i r s) :=
  (h.others i).addReason (h i).shaped ((h i).marked.withReason hr)

theorem removeReason (h : StreamLaw s) (i : StreamIdx) {r : HoldReason} (hr : r ≠ .meter) :
    StreamLaw (removeReason i r s) :=
  (h.others i).removeReason (h i).shaped ((h i).marked.withoutReason hr) (h i).held

/-- A gross sample sets the suspect record before its reason joins (R45). -/
theorem grossSample (h : StreamLaw s) (i : StreamIdx) (f : SampleFields) (m : Measured) :
    StreamLaw (grossSample i f m s) := by
  set x : Stream := { s.stream i with last := some (lastOf f 0), suspect := some (suspectAfter s i f m) } with hx
  have hself : (s.putStream i x).stream i = x := by simp
  have hshape : x.Shaped := by
    have hs := (h i).shaped
    exact ⟨hs.free, hs.lot, hs.route, hs.mark, hs.silence, hs.permit, hs.drain⟩
  refine routine.raise _ _ _ (((h.others i).putStream x).addReason (r := .meter) ?_ ?_)
  · rwa [hself]
  · rw [hself]
    exact (h i).marked.withMeter _ _

/-- The suspect record goes before its reason leaves (R46). -/
theorem deleteSuspect (h : StreamLaw s) (i : StreamIdx) : StreamLaw (deleteSuspect i s) := by
  set x : Stream := { s.stream i with suspect := none } with hx
  have hself : (s.putStream i x).stream i = x := by simp
  have hshape : x.Shaped := by
    have hs := (h i).shaped
    exact ⟨hs.free, hs.lot, hs.route, hs.mark, hs.silence, hs.permit, hs.drain⟩
  refine ((h.others i).putStream x).removeReason (r := .meter) ?_ ?_ ?_
  · rwa [hself]
  · rw [hself]
    exact (h i).marked.withoutMeter
  · rw [hself]
    exact (h i).held

/-! ## Draining, withdrawal, activation, changeover -/

theorem enterDraining (h : StreamLaw s) (hst : (s.stream i).state = .feeding) : StreamLaw (enterDraining i s) := by
  obtain ⟨⟨d, hd⟩, -⟩ := enterDraining_spec i s
  refine ((h.others i).confined (.enterDraining i s)).law ?_
  rw [hd]
  exact (h i).shaped.draining hst (h i).marked rfl rfl rfl d

theorem endDraining (h : StreamLaw s) (hst : (s.stream i).state = .draining) : StreamLaw (endDraining i s) := by
  refine ((h.others i).putStream _).exitTest ?_
  rw [State.stream_putStream_self]
  exact ⟨⟨(h i).noBin, (h i).faulted, (h i).meter⟩, (h i).shaped.permit_none (by simp [hst]), rfl⟩

theorem withdraw (h : StreamLaw s) (hst : (s.stream i).state = .waiting) : StreamLaw (withdraw i s) := by
  have hself : (removeRequest i s).stream i = s.stream i := stream_removeRequest_self (by simp [hst])
  refine (h.others i).removeRequest.becomeIdle ?_ ?_
  · rw [hself]
    exact (h i).shaped.parked (h i).marked (by simp [hst]) (by simp [hst])
  · rw [hself]
    exact (h i).free (by simp [hst])

theorem activate (h : StreamLaw s) (hst : (s.stream i).state = .waiting) (r : RouteIdx) : StreamLaw (activate i r s) :=
  ((h.others i).confined (.activate i r s)).law
    (by rw [stream_activate_self]; exact (h i).feeding (Or.inl hst) r _)

theorem carryHit (h : StreamLaw s) (hst : (s.stream i).state = .feeding) (old new : RouteIdx) :
    StreamLaw (carryHit i old new s) := by
  obtain ⟨hself, hconf, -⟩ := carryHit_spec (i := i) (s := s) (by simp [hst]) old new
  refine ((h.others i).confined hconf).law ?_
  have hlaw := (h i).feeding (Or.inr hst) new permitPeriod
  rw [hself]
  rwa [← hst] at hlaw

/-! ## The steps of a sample -/

theorem startStream (h : StreamLaw s) (hst : (s.stream i).state = .idle) (n : Nat) : StreamLaw (startStream i n s) := by
  have hparked := (h i).shaped.parked (h i).marked (by simp [hst]) (by simp [hst])
  have hnone := (h i).free (Or.inl hst)
  have hleft := (h.others i).leaveIdle
  have hkept : (leaveIdle i s).stream i = s.stream i := stream_leaveIdle _ _ _
  cases hb : s.currentBinOf n with
  | some b =>
    rw [startStream_of_bin hb]
    exact hleft.becomeWaiting (by rwa [hkept]) (by rwa [hkept]) n b
  | none =>
    rw [startStream_of_no_bin hb]
    have hattached : LawfulOthers i (attach n i (leaveIdle i s)) := hleft.of_eq fun j _ => stream_attach _ _ _ _
    refine (hattached.putStream _).holdNoBin ?_ n
    rw [State.stream_putStream_self, stream_attach, hkept]
    exact ⟨⟨(h i).noBin, (h i).faulted, (h i).meter⟩, hparked.permit, hparked.drain⟩

theorem idleRule (h : StreamLaw s) (hst : (s.stream i).state = .idle) (prev : Option Lookup) :
    StreamLaw (idleRule i prev s) := by
  have hno : StreamLaw (noLot i prev s) := by
    unfold noLot
    split
    · exact h
    · exact routine.raise _ _ _ h
  unfold Machine.idleRule
  dsimp only
  split
  · split
    · split
      · split
        · exact h.startStream hst _
        · exact h
      · exact hno
    · exact hno
  · exact h

theorem restartSilence (h : StreamLaw s) (i : StreamIdx) : StreamLaw (restartSilence i s) := by
  unfold Machine.restartSilence
  split
  next ht => exact routine.stream s i _ { silence := fun _ => Or.inr ht } h
  next => exact h

/-- The transitions of a sample in every state but HELD start from a lawful record. -/
theorem transitions (h : StreamLaw s) (i : StreamIdx) (hst : (s.stream i).state ≠ .held) (prev : Option Lookup)
    (emptied : Bool) : StreamLaw (transitions i prev emptied s) := by
  have hidle : ((becomeIdle i (removeRequest i s)).stream i).state = .idle := by rw [stream_becomeIdle_self]
  unfold Machine.transitions
  dsimp only
  split
  case h_1 hx => exact h.idleRule hx _
  case h_2 hx =>
    split
    · split
      · exact h
      · exact (h.withdraw hx).idleRule hidle _
    · exact h.withdraw hx
  case h_3 hx =>
    split
    · exact h
    · exact h.enterDraining hx
  case h_4 => exact h
  case h_5 hx => exact absurd hx hst

theorem examineSteps (h : StreamLaw s) (i : StreamIdx) (f : SampleFields) : StreamLaw (examineSteps i f s) := by
  set y := (s.stream i).examined (s.found f) (f.flags.getLsbD 0) with hy
  have hm : y.Marked := (h i).marked.examined _ _
  have hyshape : y.Shaped := (h i).shaped.examined _ _
  have hself : (s.putStream i y).stream i = y := by simp
  have hothers : LawfulOthers i (s.putStream i y) := (h.others i).putStream y
  by_cases hst : (s.stream i).state = .held
  · have hyst : y.state = .held := (examined_state hy.symm).trans hst
    rw [examineSteps_of_held hy.symm hst]
    refine restartSilence ?_ i
    split
    next hempty =>
      exact hothers.leaveHeld (by rw [hself]; exact hyshape.parked hm (by simp [hyst]) (by simp [hyst]))
        (by rw [hself]; exact hempty.2)
    next hno =>
      have hlaw := hyshape.law hm fun _ hnone => hno ⟨(h i).held hst, hnone⟩
      exact hothers.law (by rwa [hself])
  · have hyst : y.state ≠ .held := by rwa [examined_state hy.symm]
    have hput : StreamLaw (s.putStream i y) := by
      have hlaw := hyshape.law hm fun hx => absurd hx hyst
      exact hothers.law (by rwa [hself])
    have hstate : ((Machine.restartSilence i (s.putStream i y)).stream i).state ≠ .held := by
      unfold Machine.restartSilence
      split
      · rw [State.modStream, State.stream_putStream_self, hself]
        exact hyst
      · rwa [hself]
    rw [examineSteps_eq]
    exact ((hput.restartSilence i).transitions i hstate _ _).restartSilence i

/-! ## Every step -/

theorem restartBlocks (s : State) : StreamLaw (restartBlocks s) := fun i => by
  have hstages : RestartStages s _ _ _ _ _ _ := ⟨rfl, rfl, rfl, rfl, rfl, rfl⟩
  rw [hstages.restartBlocks_eq, hstages.stream]
  exact Stream.rested_law _

theorem endUnlock (h : StreamLaw s) (c : AbortCause) : StreamLaw (endUnlock c s) := h.of_streams (endUnlock_streams _ _)

/-- With the requests' law beside it, which says that an activated stream was WAITING. -/
theorem upheld : Upheld fun s => ControlLaw s ∧ StreamLaw s where
  toRoutine := ControlLaw.routine.and routine
  completeCapture s c d hc hd h := ⟨ControlLaw.upheld.completeCapture s c d hc hd h.1, by
    rw [completeCapture_eq]
    exact h.2.of_streams (endCapture_streams _ _)⟩
  endCapture s o h := ⟨h.1.endCapture o, h.2.of_streams (endCapture_streams _ _)⟩
  endUnlock s c h := ⟨h.1.endUnlock c, h.2.endUnlock c⟩
  calenFall s h := ⟨ControlLaw.upheld.calenFall s h.1, (h.2.endUnlock .enableLow).of_streams rfl⟩
  calenRise s h := ⟨ControlLaw.upheld.calenRise s h.1, h.2.of_streams rfl⟩
  judgeReport s g eq h :=
    ⟨ControlLaw.upheld.judgeReport s g eq h.1, h.2.of_streams (SegsMoved.judgeReport g eq s).streams⟩
  faultSeg s g hg h := ⟨ControlLaw.upheld.faultSeg s g hg h.1, h.2.of_streams (SegsMoved.faultSeg g s).streams⟩
  endFlush s g hg h := ⟨ControlLaw.upheld.endFlush s g hg h.1, h.2.of_streams (SegsMoved.endFlush g s).streams⟩
  clearFault s g hg h := ⟨ControlLaw.upheld.clearFault s g hg h.1, h.2.of_streams (SegsMoved.clearFault g s).streams⟩
  storeSegConfig s g c hg hc h :=
    ⟨ControlLaw.upheld.storeSegConfig s g c hg hc h.1, h.2.of_streams (SegsMoved.storeSegConfig g c s).streams⟩
  addReason s i r hr h := ⟨h.1.addReason i r, h.2.addReason i hr⟩
  removeReason s i r hr h := ⟨h.1.removeReason i r, h.2.removeReason i hr⟩
  grossSample s i f m h := ⟨ControlLaw.upheld.grossSample s i f m h.1, h.2.grossSample i f m⟩
  deleteSuspect s i h := ⟨ControlLaw.upheld.deleteSuspect s i h.1, h.2.deleteSuspect i⟩
  enterDraining s i hst h := ⟨h.1.enterDraining hst, h.2.enterDraining hst⟩
  endDraining s i hst h := ⟨h.1.endDraining hst, h.2.endDraining hst⟩
  withdraw s i hst h := ⟨h.1.withdraw i, h.2.withdraw hst⟩
  examineSteps s i f h := ⟨h.1.examineSteps i f, h.2.examineSteps i f⟩
  activate s i q r hq hr hcan h := by
    obtain ⟨hi, hmem⟩ := requestOf_eq_some hq
    exact ⟨ControlLaw.upheld.activate s i q r hq hr hcan h.1, h.2.activate (hi ▸ h.1.waiting q hmem) r⟩
  carryHit s i b old new hst hhit h :=
    ⟨ControlLaw.upheld.carryHit s i b old new hst hhit h.1, h.2.carryHit hst old new⟩
  restartBlocks s h := ⟨h.1.restartBlocks, restartBlocks s⟩

/-- What the three entrusted answers keep of the requests' law, they keep of the streams' records besides. -/
theorem entrusted (hc : ControlLaw s) (h : StreamLaw s) : Entrusted (fun s => ControlLaw s ∧ StreamLaw s) s where
  calibration a := Answer.keeps_and (hc.entrusted.calibration a) (Answer.keeps_indexed fun i => by
    split
    · trivial
    · split
      · trivial
      · split
        · trivial
        · split
          · exact h.of_streams rfl
          · split
            · exact h.of_streams rfl
            · trivial)
  unlock a := Answer.keeps_and (hc.entrusted.unlock a) (Answer.keeps_indexed fun i => by
    split
    · trivial
    · split
      · trivial
      · split
        · trivial
        · exact (h.endUnlock .unlockReplaced).of_streams rfl)
  capture a := Answer.keeps_and (hc.entrusted.capture a) (Answer.keeps_indexed fun i => by
    split
    · trivial
    · split
      · trivial
      · split
        · trivial
        · split
          · trivial
          · exact h.of_streams rfl)

end StreamLaw

/-- Settles O12. -/
theorem streamLawKept : Obligations.StreamLawKept := by
  intro s t hc hs ht
  refine (StreamLaw.upheld.step (fun _ h => StreamLaw.entrusted h.1 h.2) (fun straps calen l => ?_) s t ⟨hc, hs⟩ ht).2
  obtain ⟨-, -, -, -, -, -, hcontrol, hstreams, -⟩ := resetMeetsEveryLaw.2 straps calen l
  exact ⟨hcontrol, hstreams⟩

end Sys2Proof.Machine
end

section
/-! A segment's record: what each change of it keeps of R84, R86 and R87. -/

namespace Sys2Proof

/-! ## The number of members of a set -/

section Card

variable {n : Nat} {S T : IdxSet n} {i : Fin n}

theorem Tbl.items_eq {α : Type} (t : Tbl α n) : t.items = (List.finRange n).map t.get := by
  refine List.ext_getElem (by simp [t.len]) fun k hk _ => ?_
  simp [Tbl.get]

theorem IdxSet.mem_toList : i ∈ S.toList ↔ S.has i = true := by simp [IdxSet.toList]

theorem IdxSet.card_eq : S.card = S.toList.toFinset.card := by
  have hnodup : S.toList.Nodup := (List.nodup_finRange n).filter _
  rw [List.toFinset_card_of_nodup hnodup, IdxSet.card, Tbl.items_eq, List.count_eq_countP, List.countP_map,
    List.countP_eq_length_filter, IdxSet.toList]
  congr 1
  refine List.filter_congr fun k _ => ?_
  simp [IdxSet.has]

theorem IdxSet.card_le (h : ∀ i, S.has i = true → T.has i = true) : S.card ≤ T.card := by
  rw [IdxSet.card_eq, IdxSet.card_eq]
  refine Finset.card_le_card fun i hi => ?_
  rw [List.mem_toFinset, IdxSet.mem_toList] at *
  exact h i hi

theorem IdxSet.card_insert_le (S : IdxSet n) (i : Fin n) : (S.insert i).card ≤ S.card + 1 := by
  rw [IdxSet.card_eq, IdxSet.card_eq]
  refine (Finset.card_le_card (t := Insert.insert i S.toList.toFinset) fun j hj => ?_).trans
    (Finset.card_insert_le _ _)
  rw [Finset.mem_insert, List.mem_toFinset, IdxSet.mem_toList] at *
  rw [IdxSet.has_insert, Bool.or_eq_true, decide_eq_true_iff] at hj
  exact hj.imp_left Eq.symm

theorem IdxSet.card_erase_le (S : IdxSet n) (i : Fin n) : (S.erase i).card ≤ S.card :=
  IdxSet.card_le fun j hj => by
    rw [IdxSet.has_erase, Bool.and_eq_true] at hj
    exact hj.2

theorem IdxSet.card_eq_zero (h : S.isEmpty = true) : S.card = 0 := by simpa [IdxSet.isEmpty] using h

theorem IdxSet.card_single (i : Fin n) : (IdxSet.single i).card = 1 := by
  have hle : (IdxSet.single i).card ≤ 1 := by
    have h := IdxSet.card_insert_le (IdxSet.empty n) i
    rwa [IdxSet.card_eq_zero (S := IdxSet.empty n) (by simp)] at h
  have hne : (IdxSet.single i).card ≠ 0 := fun h => by
    have hempty : (IdxSet.single i).isEmpty = true := by simp [IdxSet.isEmpty, h]
    simpa [IdxSet.single, IdxSet.has_insert] using IdxSet.isEmpty_iff.mp hempty i
  omega

/-- A set of one member is empty without it. -/
theorem IdxSet.isEmpty_erase_of_card (h : S.card = 1) (hi : S.has i = true) : (S.erase i).isEmpty = true := by
  rw [IdxSet.card_eq] at h
  obtain ⟨k, hk⟩ := Finset.card_eq_one.mp h
  have honly : ∀ j, S.has j = true → j = k := fun j hj => by
    have hmem : j ∈ S.toList.toFinset := by rwa [List.mem_toFinset, IdxSet.mem_toList]
    rwa [hk, Finset.mem_singleton] at hmem
  refine IdxSet.isEmpty_iff.mpr fun j => ?_
  rw [IdxSet.has_erase]
  by_cases hj : S.has j = true
  · simp [honly j hj, honly i hi]
  · simp [hj]

theorem IdxSet.isEmpty_of_has (h : S.has i = true) : S.isEmpty = false := by
  rw [Bool.eq_false_iff]
  intro he
  rw [IdxSet.isEmpty_iff.mp he i] at h
  cases h

end Card

namespace Machine

variable {x y : Segment} {i : StreamIdx}

namespace Segment

/-! ## The law of each record -/

/-- Positions, timers and the unflushed mark are no part of the law. -/
theorem Law.positions (h : x.Law) (c r f t : Option Nat) (u : Bool) :
    ({ x with commanded := c, reported := r, unflushed := u, flush := f, travel := t } : Segment).Law :=
  ⟨h.configured, h.settings, h.owner, h.atRest, h.kind, h.feeders, h.active, h.subset, h.share, h.staged, h.underFlow⟩

theorem Law.calm (h : x.Law) (hc : x.Calm y) : y.Law := by
  rw [hc]
  exact h.positions _ _ _ _ _

theorem Law.feeders_empty (h : x.Law) (hc : x.state ≠ .carrying) (hs : x.state ≠ .setting ∨ x.underFlow = false) :
    x.feeders.isEmpty = true := by
  rw [← Bool.not_eq_false]
  intro hf
  obtain hst | ⟨hst, hu⟩ := h.feeders.mp hf
  · exact hc hst
  · obtain hs | hs := hs
    · exact hs hst
    · rw [hu] at hs
      cases hs

theorem Law.not_underFlow (h : x.Law) (hs : x.state ≠ .setting) : x.underFlow = false := by
  rw [Bool.eq_false_iff]
  exact fun hu => hs (h.underFlow hu)

/-- A segment that is not FREE loses its reservation and flushes, closes or faults (R95, R98, R101). -/
theorem Law.resting (h : x.Law) (hfree : x.state ≠ .free) {st : SegState}
    (hst : st = .flushing ∨ st = .closing ∨ st = .fault) (c f t : Option Nat) (u : Bool) :
    ({ x.unreserved with state := st, commanded := c, unflushed := u, flush := f, travel := t } : Segment).Law := by
  have hrest : st = .free ∨ st = .flushing ∨ st = .closing ∨ st = .fault := Or.inr hst
  have hnot : st ≠ .free ∧ st ≠ .setting ∧ st ≠ .ready ∧ st ≠ .carrying := by
    obtain rfl | rfl | rfl := hst <;> simp
  obtain ⟨hf, hs, hr, hc⟩ := hnot
  exact {
    configured := fun _ => h.configured hfree
    settings := h.settings
    owner := ⟨fun he => absurd he hf, fun ho => absurd (h.owner.mpr ho) hfree⟩
    atRest := fun _ => ⟨rfl, IdxSet.isEmpty_empty 8⟩
    kind := fun hk => by simp [hs, hr, hc] at hk
    feeders := by simp [Segment.unreserved, hc]
    active := by simp [Segment.unreserved]
    subset := by simp [Segment.unreserved]
    share := by simp [Segment.unreserved, Segment.feedingCount, IdxSet.card_eq_zero]
    staged := nofun
    underFlow := nofun }

/-- A segment becomes FREE (R91, R99). -/
theorem Law.freed (h : x.Law) : ({ x.unreserved with
    state := .free, owner := none, unflushed := false, flush := none, travel := none } : Segment).Law where
  configured hf := absurd rfl hf
  settings := h.settings
  owner := ⟨fun _ => rfl, fun _ => rfl⟩
  atRest _ := ⟨rfl, IdxSet.isEmpty_empty 8⟩
  kind := by simp
  feeders := by simp [Segment.unreserved]
  active := by simp [Segment.unreserved]
  subset := by simp [Segment.unreserved]
  share := by simp [Segment.unreserved, Segment.feedingCount, IdxSet.card_eq_zero]
  staged := nofun
  underFlow := nofun

/-- A reservation for one stream, of a configured segment at rest (R88, R100). -/
theorem Law.reserved (h : x.Law) (hc : x.config ≠ none) (hfeed : y.feeders.isEmpty = true) (hu : y.underFlow = false)
    (hst : y.state = .setting ∨ y.state = .ready) (hconfig : y.config = x.config) (howner : y.owner ≠ none)
    (hkind : y.kind ≠ none) (hhold : y.holders = IdxSet.single i) : y.Law := by
  have hnot : y.state ≠ .free ∧ y.state ≠ .flushing ∧ y.state ≠ .closing ∧ y.state ≠ .fault ∧ y.state ≠ .carrying := by
    obtain hst | hst := hst <;> simp [hst]
  obtain ⟨hf, hfl, hcl, hfa, hca⟩ := hnot
  exact {
    configured := fun _ => by rwa [hconfig]
    settings := fun c hc => h.settings c (hconfig ▸ hc)
    owner := ⟨fun he => absurd he hf, fun ho => absurd ho howner⟩
    atRest := fun hr => by simp [hf, hfl, hcl, hfa] at hr
    kind := fun _ => hkind
    feeders := by simp [hfeed, hca, hu]
    active := by simp [hfeed]
    subset := fun j hj => by
      rw [IdxSet.isEmpty_iff.mp hfeed j] at hj
      cases hj
    share := by
      obtain ⟨c, hcx⟩ := Option.ne_none_iff_exists'.mp hc
      obtain ⟨-, -, -, hone, -⟩ := h.settings c hcx
      simp [Segment.shareLimit, Segment.feedingCount, hconfig, hcx, hhold, IdxSet.card_single,
        IdxSet.card_eq_zero hfeed, hone]
    staged := fun _ => by rw [hhold, IdxSet.card_single]
    underFlow := by simp [hu] }

/-- A stream joins the holders of an ACTIVE segment with room (R89). -/
theorem Law.joined (h : x.Law) (hst : x.state = .ready ∨ x.state = .carrying) (hk : x.kind = some .active)
    (hroom : x.holders.card < x.shareLimit) (i : StreamIdx) :
    ({ x with holders := x.holders.insert i } : Segment).Law where
  configured := h.configured
  settings := h.settings
  owner := h.owner
  atRest hr := by obtain hst | hst := hst <;> simp [hst] at hr
  kind := h.kind
  feeders := h.feeders
  active := h.active
  subset j hj := by simp [IdxSet.has_insert, h.subset j hj]
  share := ⟨(IdxSet.card_insert_le _ _).trans hroom, h.share.2⟩
  staged hs := by simp [hk] at hs
  underFlow := h.underFlow

/-- A holder of a READY or CARRYING segment feeds it (R90, R103). -/
theorem Law.carrying (h : x.Law) (hst : x.state = .ready ∨ x.state = .carrying) (hi : x.holders.has i = true) :
    ({ x with kind := some .active, state := .carrying, feeders := x.feeders.insert i } : Segment).Law := by
  have hhas : (x.feeders.insert i).has i = true := by simp [IdxSet.has_insert]
  have hsub : ∀ j, (x.feeders.insert i).has j = true → x.holders.has j = true := fun j hj => by
    rw [IdxSet.has_insert, Bool.or_eq_true, decide_eq_true_iff] at hj
    exact hj.elim (fun he => he ▸ hi) (h.subset j)
  have hfree : x.state ≠ .free := by obtain hst | hst := hst <;> simp [hst]
  exact {
    configured := fun _ => h.configured hfree
    settings := h.settings
    owner := ⟨nofun, fun ho => absurd (h.owner.mpr ho) hfree⟩
    atRest := by simp
    kind := by simp
    feeders := by simp [IdxSet.isEmpty_of_has hhas]
    active := fun _ => rfl
    subset := hsub
    share := ⟨h.share.1, (IdxSet.card_le hsub).trans h.share.1⟩
    staged := nofun
    underFlow := fun hu => by
      have hset := h.underFlow hu
      obtain hst | hst := hst <;> simp [hst] at hset }

/-- A diverter under flow travels (R102), and arrives (R93). -/
theorem Law.travelling (h : x.Law) (hst : x.state = .carrying) (c t : Option Nat) :
    ({ x with commanded := c, travel := t, state := .setting, underFlow := true } : Segment).Law := by
  have hfeed := h.feeders.mpr (Or.inl hst)
  exact {
    configured := fun _ => h.configured (by simp [hst])
    settings := h.settings
    owner := ⟨nofun, fun ho => absurd (h.owner.mpr ho) (by simp [hst])⟩
    atRest := by simp
    kind := fun _ => h.kind (by simp [hst])
    feeders := by simp [hfeed]
    active := h.active
    subset := h.subset
    share := h.share
    staged := h.staged
    underFlow := fun _ => rfl }

theorem Law.arrivedUnderFlow (h : x.Law) (hst : x.state = .setting) (hu : x.underFlow = true) (t : Option Nat) :
    ({ x with state := .carrying, underFlow := false, travel := t } : Segment).Law := by
  have hfeed := h.feeders.mpr (Or.inr ⟨hst, hu⟩)
  exact {
    configured := fun _ => h.configured (by simp [hst])
    settings := h.settings
    owner := ⟨nofun, fun ho => absurd (h.owner.mpr ho) (by simp [hst])⟩
    atRest := by simp
    kind := fun _ => h.kind (by simp [hst])
    feeders := by simp [hfeed]
    active := h.active
    subset := h.subset
    share := h.share
    staged := h.staged
    underFlow := nofun }

theorem Law.arrived (h : x.Law) (hst : x.state = .setting) (hu : ¬x.underFlow = true) (t : Option Nat) :
    ({ x with state := .ready, travel := t } : Segment).Law := by
  have hfeed := h.feeders_empty (by simp [hst]) (Or.inr (Bool.eq_false_iff.mpr hu))
  exact {
    configured := fun _ => h.configured (by simp [hst])
    settings := h.settings
    owner := ⟨nofun, fun ho => absurd (h.owner.mpr ho) (by simp [hst])⟩
    atRest := by simp
    kind := fun _ => h.kind (by simp [hst])
    feeders := by simp [hfeed]
    active := h.active
    subset := h.subset
    share := h.share
    staged := h.staged
    underFlow := fun he => absurd he hu }

/-! ## Releases (R91) -/

/-- A segment staged for the one stream it holds is not staged once others hold it beside that stream. -/
theorem Law.not_staged (h : x.Law) (hi : x.holders.has i = true) (hmore : ¬(x.holders.erase i).isEmpty = true) :
    x.kind ≠ some .staged := fun hs => hmore (IdxSet.isEmpty_erase_of_card (h.staged hs) hi)

theorem Law.kind_of_fed (h : x.Law) (hi : x.feeders.has i = true) : x.kind = some .active :=
  h.active (IdxSet.isEmpty_of_has hi)

/-- A holder leaves a segment that is fed as it was, and is not staged. -/
theorem Law.left (h : x.Law) (hfeed : (x.feeders.erase i).isEmpty = x.feeders.isEmpty)
    (hkind : x.kind ≠ some .staged) :
    ({ x with holders := x.holders.erase i, feeders := x.feeders.erase i } : Segment).Law where
  configured := h.configured
  settings := h.settings
  owner := h.owner
  atRest hr := by
    obtain ⟨hk, he⟩ := h.atRest hr
    refine ⟨hk, IdxSet.isEmpty_iff.mpr fun j => ?_⟩
    simp [IdxSet.has_erase, IdxSet.isEmpty_iff.mp he j]
  kind := h.kind
  feeders := by
    show (x.feeders.erase i).isEmpty = false ↔ _
    rw [hfeed]
    exact h.feeders
  active hf := h.active (hfeed ▸ hf)
  subset j hj := by
    rw [IdxSet.has_erase, Bool.and_eq_true] at *
    exact ⟨hj.1, h.subset j hj.2⟩
  share := ⟨(IdxSet.card_erase_le _ _).trans h.share.1, (IdxSet.card_erase_le _ _).trans h.share.2⟩
  staged hs := absurd hs hkind
  underFlow := h.underFlow

/-- The last feeder leaves a CARRYING segment that others hold: READY, unflushed. -/
theorem Law.idled (h : x.Law) (hst : x.state = .carrying) (hlast : (x.feeders.erase i).isEmpty = true) :
    ({ x with holders := x.holders.erase i, feeders := x.feeders.erase i, state := .ready, unflushed := true } :
      Segment).Law := by
  have hactive : x.kind = some .active := h.active (h.feeders.mpr (Or.inl hst))
  exact {
    configured := fun _ => h.configured (by simp [hst])
    settings := h.settings
    owner := ⟨nofun, fun ho => absurd (h.owner.mpr ho) (by simp [hst])⟩
    atRest := by simp
    kind := fun _ => h.kind (by simp [hst])
    feeders := by simp [hlast]
    active := fun _ => hactive
    subset := fun j hj => by
      rw [IdxSet.isEmpty_iff.mp hlast j] at hj
      cases hj
    share := ⟨(IdxSet.card_erase_le _ _).trans h.share.1, (IdxSet.card_erase_le _ _).trans h.share.2⟩
    staged := fun hs => by simp [hactive] at hs
    underFlow := fun hu => by
      have hset := h.underFlow hu
      simp [hst] at hset }

/-! ## Configuration (R85) -/

theorem segConfigStored_settings {w : SegConfigWrite} {c : SegConfig} (hc : segConfigStored w = some c) :
    c.flushTime ≤ 6000 ∧ 1 ≤ c.travelLimit ∧ c.travelLimit ≤ 60 ∧ 1 ≤ c.shareLimit ∧ c.shareLimit ≤ 4 := by
  have hrange : ∀ d lo hi o, lo ≤ d → d ≤ hi → lo ≤ setting d lo hi o ∧ setting d lo hi o ≤ hi := by
    intro d lo hi o hlo hhi
    cases o <;> simp [setting, clamp] <;> omega
  unfold segConfigStored at hc
  split at hc
  next k f _ _ =>
    cases hc
    obtain ⟨ht1, ht2⟩ := hrange 12 1 60 w.travelLimit (by decide) (by decide)
    obtain ⟨hs1, hs2⟩ := hrange 1 1 4 w.shareLimit (by decide) (by decide)
    exact ⟨Nat.min_le_left _ _, ht1, ht2, hs1, hs2⟩
  next => cases hc

/-- A FREE segment takes any configuration with settings in their ranges. -/
theorem Law.configuredAs (h : x.Law) (hst : x.state = .free) {c : Option SegConfig} (p r : Option Nat)
    (hc : ∀ d, c = some d → ∃ w, segConfigStored w = some d) :
    ({ x with config := c, commanded := p, reported := r } : Segment).Law where
  configured hf := absurd hst hf
  settings d hd := by
    obtain ⟨w, hw⟩ := hc d hd
    exact segConfigStored_settings hw
  owner := h.owner
  atRest := h.atRest
  kind := h.kind
  feeders := h.feeders
  active := h.active
  subset := h.subset
  share := by
    have hfeed := h.feeders_empty (by simp [hst]) (Or.inl (by simp [hst]))
    obtain ⟨-, hhold⟩ := h.atRest (Or.inl hst)
    simp [Segment.feedingCount, IdxSet.card_eq_zero hhold, IdxSet.card_eq_zero hfeed]
  staged := h.staged
  underFlow := h.underFlow

end Segment
end Machine
end Sys2Proof
end

section
/-! What any command can do to segments and bins, said once: a property of the two that the changes listed in `SegWalk`
leave true is upheld. -/

namespace Sys2Proof.Machine

variable {s t u : State} {i : StreamIdx} {g : SegIdx}

/-- A property of the segments and bins alone that the changes of a segment's record leave true, when they leave its
configuration alone and keep its law, and a bin's updates between them. -/
structure SegWalk (P : State → Prop) : Prop where
  aside : ∀ s t, t.segs = s.segs → t.bins = s.bins → P s → P t
  bin : ∀ s b x, BinStep (s.bin b) x → P s → P (s.putBin b x)
  tick : ∀ s, P s → P (tickMs s)
  put : ∀ s g x, x.config = (s.seg g).config → x.state = (s.seg g).state → ((s.seg g).Law → x.Law) → P s →
    P (s.putSeg g x)
  change : ∀ s g x, x.config = (s.seg g).config → ((s.seg g).Law → x.Law) → P s → P (changeSeg g x s)
  store : ∀ s g c, (s.seg g).state = .free →
    (∀ d, c = some d → segmentDuplicate s g d.kind = false ∧ ∃ w, segConfigStored w = some d) → P s →
    P (storeSegConfig g c s)

/-! ## A release's record put first makes no difference to a flush, a freeing or a closing -/

section Released

variable (g : SegIdx) (a b : IdxSet 8) (s : State)

theorem changeSeg_released (x : Segment) :
    changeSeg g x (s.putSeg g { s.seg g with holders := a, feeders := b }) = changeSeg g x s :=
  changeSeg_putSeg (y := { s.seg g with holders := a, feeders := b }) rfl x

theorem freeSeg_putSeg : freeSeg g (s.putSeg g { s.seg g with holders := a, feeders := b }) = freeSeg g s := by
  unfold freeSeg
  rw [State.seg_putSeg_self, changeSeg_released]
  rfl

theorem beginClosing_putSeg :
    beginClosing g (s.putSeg g { s.seg g with holders := a, feeders := b }) = beginClosing g s := by
  unfold beginClosing
  dsimp only
  rw [State.seg_putSeg_self, changeSeg_released]
  rfl

theorem freeOrClose_putSeg :
    freeOrClose g (s.putSeg g { s.seg g with holders := a, feeders := b }) = freeOrClose g s := by
  unfold freeOrClose
  rw [freeSeg_putSeg, beginClosing_putSeg, State.seg_putSeg_self]
  rfl

theorem beginFlush_putSeg : beginFlush g (s.putSeg g { s.seg g with holders := a, feeders := b }) = beginFlush g s := by
  unfold beginFlush
  dsimp only
  rw [State.seg_putSeg_self, changeSeg_released]
  rfl

end Released

/-! ## Activation -/

/-- Every segment of a list of steps is READY or CARRYING and holds the stream, so that the stream can feed it. -/
def Carriable (i : StreamIdx) (l : List Step) (s : State) : Prop :=
  ∀ st ∈ l, ((s.seg st.segment).state = .ready ∨ (s.seg st.segment).state = .carrying) ∧
    (s.seg st.segment).holders.has i = true

/-- The activation test asks just that (R117). -/
theorem carriable_of_canActivate {q : Request} {r : RouteIdx} (hi : q.stream = i) (hr : q.route = some r)
    (hcan : q.canActivate s = true) : Carriable i (s.stepsOf r) s := fun st hst => by
  unfold Request.canActivate at hcan
  split at hcan
  next r' _ hr' =>
    obtain rfl : r' = r := Option.some.inj (hr'.symm.trans hr)
    simpa [hi] using List.all_eq_true.mp hcan st hst
  next => cases hcan

/-! ## The end of a restart interval -/

section Stages

variable {e st lo ak bn : State} (h : RestartStages s e st lo ak bn u)
include h

theorem RestartStages.asked_segs : ak.segs = s.segs := by
  rw [h.asked]
  show lo.segs = _
  rw [h.lots_frame, h.streams_frame, h.ended_frame]

theorem RestartStages.asked_bins : ak.bins = s.bins := by
  rw [h.asked]
  show lo.bins = _
  rw [h.lots_frame, h.streams_frame, h.ended_frame]

end Stages

/-! ## What a step of a changeover leaves alone -/

section Other

variable {j : SegIdx} (hj : g ≠ j)
include hj

theorem seg_changeSeg_other (x : Segment) (s : State) : (changeSeg g x s).seg j = s.seg j :=
  (seg_changeSeg g j x s).trans (if_neg hj)

theorem seg_beginFlush_other (s : State) : (beginFlush g s).seg j = s.seg j :=
  (seg_beginFlush g j s).trans (if_neg hj)

theorem seg_freeOrClose_other (s : State) : (freeOrClose g s).seg j = s.seg j := by
  unfold freeOrClose
  split
  · exact (seg_beginClosing g j s).trans (if_neg hj)
  · exact (seg_freeSeg g j s).trans (if_neg hj)

theorem seg_releaseHolder_other (i : StreamIdx) (s : State) : (releaseHolder i g s).seg j = s.seg j := by
  have hput : ∀ x, (s.putSeg g x).seg j = s.seg j := fun x => (State.seg_putSeg s g j x).trans (if_neg hj)
  unfold releaseHolder
  dsimp only
  split
  · split
    · split
      · split
        · exact (seg_beginFlush_other hj _).trans (hput _)
        · exact seg_changeSeg_other hj _ s
      · exact hput _
    · exact hput _
  · split
    · split
      · exact (seg_beginFlush_other hj _).trans (hput _)
      · exact (seg_freeOrClose_other hj _).trans (hput _)
    · exact hput _
  · split
    · exact (seg_beginFlush_other hj _).trans (hput _)
    · split
      · exact (seg_freeOrClose_other hj _).trans (hput _)
      · exact hput _
  all_goals rfl

theorem seg_releaseSeg_other (i : StreamIdx) (s : State) : (releaseSeg i g s).seg j = s.seg j := by
  unfold releaseSeg
  dsimp only
  split
  · split
    · exact seg_releaseHolder_other hj i s
    · exact seg_releaseHolder_other hj i s
  · rfl

theorem seg_moveUnderFlow_other (i : StreamIdx) (p : Option Nat) (s : State) :
    (moveUnderFlow i g p s).seg j = s.seg j := by
  unfold moveUnderFlow
  dsimp only
  split
  · rfl
  · split
    · rw [(BinsMoved.sendSet _ _ _).seg]
      exact seg_changeSeg_other hj _ s
    · rfl

end Other

theorem seg_releaseSegs_other {j : SegIdx} (l : List Step) (hl : ∀ o ∈ l, o.segment ≠ j) (s : State) :
    (l.foldl (fun s o => releaseSeg i o.segment s) s).seg j = s.seg j := by
  induction l generalizing s with
  | nil => rfl
  | cons o l ih =>
    rw [List.foldl_cons, ih (fun p hp => hl p (List.mem_cons_of_mem _ hp))]
    exact seg_releaseSeg_other (hl o List.mem_cons_self) i s

/-- The steps that are not on the old route are READY or CARRYING, so that the stream can take their segments. -/
def Takeable (old : RouteIdx) (l : List Step) (s : State) : Prop :=
  ∀ st ∈ l, s.routeHas old st.segment = false →
    (s.seg st.segment).state = .ready ∨ (s.seg st.segment).state = .carrying

theorem routeHas_hitSegment (i : StreamIdx) (old : RouteIdx) (st : Step) (s : State) (r : RouteIdx) (g : SegIdx) :
    (hitSegment i old st s).routeHas r g = s.routeHas r g :=
  routeHas_congr (congrArg Allocator.routes (SegsMoved.hitSegment i old st s).alloc)

theorem routeHas_of_same {old : RouteIdx} {st : Step} (h : sameInRoute s old st = true) :
    s.routeHas old st.segment = true := by
  rw [sameInRoute, List.any_eq_true] at h
  obtain ⟨o, ho, hsame⟩ := h
  exact List.any_eq_true.mpr ⟨o, ho, (Bool.and_eq_true_iff.mp hsame).1⟩

/-- A step of a changeover leaves the steps behind it takeable. -/
theorem Takeable.hitSegment {old : RouteIdx} {l : List Step} (h : Takeable old l s) (i : StreamIdx) (st : Step) :
    Takeable old l (hitSegment i old st s) := fun p hp hnot => by
  rw [routeHas_hitSegment] at hnot
  have hkept := h p hp hnot
  by_cases hsame : sameInRoute s old st = true
  · rwa [hitSegment_of_same hsame]
  · by_cases hon : s.routeHas old st.segment = true
    · have hne : st.segment ≠ p.segment := fun he => by
        rw [he, hnot] at hon
        cases hon
      rw [hitSegment_of_moved hsame hon, seg_moveUnderFlow_other hne]
      exact hkept
    · rw [hitSegment_of_new hsame hon]
      unfold takeStaged
      dsimp only
      split
      · rw [seg_changeSeg]
        split
        · exact Or.inr rfl
        · exact hkept
      · exact hkept

/-- Where the STAGED-HIT test succeeds, the steps beside the old route are takeable, after the release of those of the
old route as before it (R124). -/
theorem takeable_of_stagedHit {b : BinIdx} {old new : RouteIdx} (hhit : stagedHit s i b = some (old, new))
    (hst : (s.stream i).state ≠ .draining) :
    Takeable old (s.stepsOf new)
      (((s.stepsOf old).filter fun o => !s.routeHas new o.segment).foldl (fun s o => releaseSeg i o.segment s) s) := by
  obtain ⟨-, -, hall⟩ := (stagedHit_iff s i b).mp hhit
  intro p hp hnot
  have hmoved := SegsMoved.releaseSegs Step.segment ((s.stepsOf old).filter fun o => !s.routeHas new o.segment) hst
  rw [routeHas_congr (congrArg Allocator.routes hmoved.alloc)] at hnot
  have hready : (s.seg p.segment).state = .ready := by
    have hstep := hall p hp
    rw [hitStep, hnot, Bool.false_and, Bool.or_false, Bool.or_eq_true] at hstep
    obtain hsame | hstaged := hstep
    · rw [routeHas_of_same hsame] at hnot
      cases hnot
    · obtain ⟨-, -, -, -, hready⟩ := (stagedReady_iff s i b p.segment).mp hstaged
      exact hready
  have hgone : ∀ o ∈ (s.stepsOf old).filter fun o => !s.routeHas new o.segment, o.segment ≠ p.segment :=
    fun o ho he => by
      have hon : s.routeHas old p.segment = true :=
        List.any_eq_true.mpr ⟨o, (List.mem_filter.mp ho).1, beq_iff_eq.mpr he⟩
      rw [hnot] at hon
      cases hon
  rw [seg_releaseSegs_other _ hgone]
  exact Or.inl hready

namespace SegWalk

variable {P : State → Prop} (h : SegWalk P)
include h

/-! ## What stands beside segments and bins -/

theorem place (f : OwnFrame) (s : State) (hs : P s) : P (s.place f) := h.aside s _ (by simp) (by simp) hs

theorem raise (k : EventKind) (n : Nat) (s : State) (hs : P s) : P (raise k n s) := h.aside s _ (by simp) (by simp) hs

theorem sendSet (x : Segment) (p : Nat) (s : State) (hs : P s) : P (sendSet x p s) := by
  unfold Machine.sendSet
  split
  · exact h.place _ _ hs
  · exact hs

theorem emit (r : Report) (s : State) (hs : P s) : P (s.emit r) := h.aside s _ rfl rfl hs

theorem occasion (s : State) (hs : P s) : P s.occasion := h.aside s _ rfl rfl hs

theorem dropRequest (i : StreamIdx) (s : State) (hs : P s) : P (s.dropRequest i) := h.aside s _ rfl rfl hs

theorem reportReady (g : SegIdx) (s : State) (hs : P s) : P (reportReady g s) := h.aside s _ rfl rfl hs

/-! ## The Segment unit -/

theorem freeSeg (g : SegIdx) (s : State) (hs : P s) : P (freeSeg g s) :=
  h.occasion _ (h.change s g _ rfl Segment.Law.freed hs)

theorem beginClosing (hst : (s.seg g).state ≠ .free) (hs : P s) : P (beginClosing g s) :=
  h.sendSet _ _ _ (h.change s g _ rfl (fun hx => hx.resting hst (by simp) _ _ _ _) hs)

theorem freeOrClose (hst : (s.seg g).state ≠ .free) (hs : P s) : P (freeOrClose g s) := by
  unfold Machine.freeOrClose
  split
  · exact h.beginClosing hst hs
  · exact h.freeSeg g s hs

theorem endFlush (hst : (s.seg g).state ≠ .free) (hs : P s) : P (endFlush g s) := by
  have h1 : P (s.emit (.endOfFlush g)) := h.aside s _ rfl rfl hs
  unfold Machine.endFlush
  dsimp only
  split
  · exact h.beginClosing hst h1
  · exact h.freeSeg g _ h1

theorem beginFlush (hst : (s.seg g).state ≠ .free) (hs : P s) : P (beginFlush g s) := by
  have h1 : P (changeSeg g { (s.seg g).unreserved with
      state := .flushing, unflushed := true, flush := some (s.seg g).flushMs } s) :=
    h.change s g _ rfl (fun hx => hx.resting hst (by simp) _ _ _ _) hs
  unfold Machine.beginFlush
  dsimp only
  split
  · exact h.endFlush (by rw [seg_changeSeg, if_pos rfl]; simp) h1
  · exact h1

theorem faultSeg (hst : (s.seg g).state ≠ .free) (hs : P s) : P (faultSeg g s) :=
  h.emit _ _ (h.raise _ _ _ (h.change s g _ rfl (fun hx => hx.resting hst (by simp) _ _ _ _) hs))

theorem clearFault (hst : (s.seg g).state = .fault) (hs : P s) : P (clearFault g s) := by
  have hput : ∀ c, P (s.putSeg g { s.seg g with commanded := c }) := fun c =>
    h.put s g _ rfl rfl (fun hx => hx.positions _ _ _ _ _) hs
  have hflush : ∀ c, P (Machine.beginFlush g (s.putSeg g { s.seg g with commanded := c })) := fun c =>
    h.beginFlush (by simp [hst]) (hput c)
  refine h.emit _ _ ?_
  split
  · exact hflush _
  · exact hflush _

theorem judgeReport (g : SegIdx) (eq : Bool) (s : State) (hs : P s) : P (judgeReport g eq s) := by
  unfold Machine.judgeReport
  dsimp only
  split
  case h_1 | h_2 => exact hs
  case h_3 hst =>
    split
    · exact hs
    · split
      next hu => exact h.change s g _ rfl (fun hx => hx.arrivedUnderFlow hst hu _) hs
      next hu => exact h.reportReady _ _ (h.change s g _ rfl (fun hx => hx.arrived hst hu _) hs)
  case h_4 hst | h_5 hst =>
    split
    · exact hs
    · exact h.faultSeg (by simp [hst]) hs
  case h_6 hst =>
    split
    · split
      · exact h.put s g _ rfl rfl (fun hx => hx.positions _ _ _ _ _) hs
      · exact hs
    · split
      · exact hs
      · exact h.faultSeg (by simp [hst]) hs
  case h_7 =>
    split
    · exact h.freeSeg g s hs
    · exact hs

theorem reserveFree (k : ResKind) (c : Claim) (hst : (s.seg g).state = .free) (hc : (s.seg g).config ≠ none)
    (hs : P s) : P (reserveFree g k c s) := by
  have hnew : ∀ st p tr, st = SegState.setting ∨ st = .ready → P (changeSeg g { s.seg g with
      owner := some c.lot, kind := some k, holders := IdxSet.single c.stream, feeders := IdxSet.empty 8
      state := st, commanded := p, travel := tr } s) := fun st p tr hst' =>
    h.change s g _ rfl (fun hx => hx.reserved hc (by simp) (hx.not_underFlow (by simp [hst])) hst' rfl (by simp)
      (by simp) rfl) hs
  unfold Machine.reserveFree
  dsimp only
  split
  · exact h.reportReady _ _ (hnew _ _ _ (Or.inr rfl))
  · split
    · exact h.reportReady _ _ (hnew _ _ _ (Or.inr rfl))
    · split
      · exact h.reportReady _ _ (hnew _ _ _ (Or.inr rfl))
      · exact h.sendSet _ _ _ (hnew _ _ _ (Or.inl rfl))

theorem reserve (g : SegIdx) (k : ResKind) (c : Claim) (s : State) (hs : P s) : P (reserve g k c s) := by
  unfold Machine.reserve
  dsimp only
  split
  next hfree =>
    obtain ⟨hst, hc⟩ := (openFree_iff _).mp hfree
    exact h.reserveFree k c hst hc hs
  next =>
    split
    next hj =>
      obtain ⟨-, hk, hst, -, -, -, hroom⟩ := (openJoin_iff _ _).mp (Bool.and_eq_true_iff.mp hj).2
      exact h.put s g _ rfl rfl (fun hx => hx.joined hst hk hroom _) hs
    next =>
      split
      next hr =>
        obtain ⟨howner, hst, -⟩ := (openRetake_iff _ _).mp (Bool.and_eq_true_iff.mp hr).2
        refine h.reportReady _ _ (h.emit _ _ (h.change s g _ rfl (fun hx => ?_) hs))
        exact hx.reserved (hx.configured (by simp [hst])) (hx.feeders_empty (by simp [hst]) (by simp [hst]))
          (hx.not_underFlow (by simp [hst])) (Or.inr rfl) rfl (by simp [howner]) (by simp) rfl
      next => exact hs

theorem releaseHolder (i : StreamIdx) (g : SegIdx) (s : State) (hi : (s.seg g).holders.has i = true) (hs : P s) :
    P (releaseHolder i g s) := by
  have hput : ((s.seg g).Law → ((s.seg g).feeders.erase i).isEmpty = (s.seg g).feeders.isEmpty ∧
      (s.seg g).kind ≠ some .staged) → P (s.putSeg g { s.seg g with
        holders := (s.seg g).holders.erase i, feeders := (s.seg g).feeders.erase i }) := fun hok =>
    h.put s g _ rfl rfl (fun hx => hx.left (hok hx).1 (hok hx).2) hs
  have hunfed : (s.seg g).feeders.isEmpty = true →
      ((s.seg g).feeders.erase i).isEmpty = (s.seg g).feeders.isEmpty := fun he => by
    rw [IdxSet.erase_of_not_has (IdxSet.isEmpty_iff.mp he i)]
  unfold Machine.releaseHolder
  dsimp only
  split
  next hst =>
    split
    next hf =>
      split
      next hlast =>
        split
        · rw [beginFlush_putSeg]
          exact h.beginFlush (by simp [hst]) hs
        · exact h.reportReady _ _ (h.change s g _ rfl (fun hx => hx.idled hst hlast) hs)
      next hmore =>
        refine hput fun hx => ⟨?_, by simp [hx.kind_of_fed hf]⟩
        rw [IdxSet.isEmpty_of_has hf]
        exact Bool.eq_false_iff.mpr hmore
    next hf =>
      refine hput fun hx => ⟨by rw [IdxSet.erase_of_not_has (Bool.eq_false_iff.mpr hf)], ?_⟩
      simp [hx.active (hx.feeders.mpr (Or.inl hst))]
  next hst =>
    split
    · split
      · rw [beginFlush_putSeg]
        exact h.beginFlush (by simp [hst]) hs
      · rw [freeOrClose_putSeg]
        exact h.freeOrClose (by simp [hst]) hs
    next hmore =>
      exact hput fun hx =>
        ⟨hunfed (hx.feeders_empty (by simp [hst]) (by simp [hst])), hx.not_staged hi hmore⟩
  next hst =>
    split
    · rw [beginFlush_putSeg]
      exact h.beginFlush (by simp [hst]) hs
    next hu =>
      split
      · rw [freeOrClose_putSeg]
        exact h.freeOrClose (by simp [hst]) hs
      next hmore =>
        exact hput fun hx =>
          ⟨hunfed (hx.feeders_empty (by simp [hst]) (Or.inr (Bool.eq_false_iff.mpr hu))), hx.not_staged hi hmore⟩
  all_goals exact hs

theorem restartSeg (g : SegIdx) (s : State) (hs : P s) : P (restartSeg g s) := by
  unfold Machine.restartSeg
  dsimp only
  split
  · exact hs
  next hst =>
    exact h.beginFlush (by simp [hst]) (h.put s g _ rfl rfl (fun hx => hx.positions _ _ _ _ _) hs)

/-- Everything routine but the allocator's reservations and releases stands beside the segments. -/
theorem routine : Routine P where
  pending s _ := h.aside s _ rfl rfl
  reports s _ _ := h.aside s _ rfl rfl
  charTime s _ := h.aside s _ rfl rfl
  loop s _ _ := h.aside s _ rfl rfl
  stream s _ _ _ := h.aside s _ rfl rfl
  tally s _ _ _ := h.aside s _ rfl rfl
  capture s _ _ _ _ := h.aside s _ rfl rfl
  lot s _ _ _ _ _ := h.aside s _ rfl rfl
  book s _ _ _ _ _ _ _ := h.aside s _ rfl rfl
  load s _ _ _ _ := h.aside s _ rfl rfl
  extend s _ _ _ _ _ _ := h.aside s _ rfl rfl
  drop s _ := h.aside s _ rfl rfl
  complete s _ _ _ _ := h.aside s _ rfl rfl
  release s _ := h.aside s _ rfl rfl
  hold s _ _ := h.aside s _ rfl rfl
  route s _ _ := h.aside s _ rfl rfl
  staging s _ _ := h.aside s _ rfl rfl
  requests s _ _ := h.aside s _ rfl rfl
  segment s g x hx hs := by
    refine h.put s g x ?_ ?_ (fun hl => hl.calm hx) hs <;> rw [hx]
  reserve s g k c := h.reserve g k c s
  releaseHolder s i g hi := h.releaseHolder i g s hi
  bin := h.bin
  mgmt s _ _ _ _ := h.aside s _ rfl rfl
  judged s e _ := h.aside s _ (judgeAlert_segs _) (judgeAlert_bins _)
  lamps s _ _ _ := h.aside s _ rfl rfl
  tick := h.tick

/-! ## Moves of a stream -/

theorem placed (hs : P s) (ht : Placed i s t) : P t := h.aside s t ht.segs ht.bins hs

theorem modStream (i : StreamIdx) (f : Stream → Stream) (s : State) (hs : P s) : P (s.modStream i f) :=
  h.aside s _ rfl rfl hs

theorem leaveIdle (i : StreamIdx) (s : State) (hs : P s) : P (leaveIdle i s) := h.aside s _ (by simp) (by simp) hs

theorem becomeIdle (i : StreamIdx) (s : State) (hs : P s) : P (becomeIdle i s) := h.placed hs (.becomeIdle i s)

theorem becomeHeld (i : StreamIdx) (mark : Bool) (s : State) (hs : P s) : P (becomeHeld i mark s) :=
  h.placed hs (.becomeHeld i mark s)

theorem exitTest (i : StreamIdx) (s : State) (hs : P s) : P (exitTest i s) := h.placed hs (.exitTest i s)

theorem leaveHeld (i : StreamIdx) (s : State) (hs : P s) : P (leaveHeld i s) := by
  unfold Machine.leaveHeld
  split
  · exact h.becomeIdle i s hs
  · exact h.exitTest i s hs

theorem enterDraining (i : StreamIdx) (s : State) (hs : P s) : P (enterDraining i s) := by
  have h1 : P (permitStop i (refreshLamps (s.modStream i fun x => { x with state := .draining }))) :=
    h.modStream _ _ _ (h.routine.sendPermit _ _ _ (h.routine.refresh _ (h.modStream _ _ _ hs)))
  refine h.routine.occasion _ (h.routine.dropStaging i _ ?_)
  split
  · exact h.routine.releaseRoute _ _ _ h1
  · exact h1

theorem enterFeeding (i : StreamIdx) (r : RouteIdx) (s : State) (hs : P s) : P (enterFeeding i r s) :=
  h.modStream i (fun x => { x with permit := some permitPeriod }) _
    (h.routine.sendPermit _ _ _ (h.routine.refresh _ (h.modStream _ _ _ hs)))

theorem addReason (i : StreamIdx) (r : HoldReason) (s : State) (hs : P s) : P (addReason i r s) := by
  have h1 := h.modStream i (·.withReason r) s hs
  unfold Machine.addReason
  dsimp only
  split
  · exact h.becomeHeld _ _ _ (h.leaveIdle _ _ h1)
  · exact h.becomeHeld _ _ _ (h.routine.removeRequest _ _ h1)
  · exact h.enterDraining _ _ h1
  · exact h1
  · exact h1

theorem removeReason (i : StreamIdx) (r : HoldReason) (s : State) (hs : P s) : P (removeReason i r s) := by
  have h1 := h.modStream i (fun x => x.withoutReason r) s hs
  unfold Machine.removeReason
  dsimp only
  split
  · exact h.leaveHeld _ _ h1
  · exact h1

theorem withdraw (i : StreamIdx) (s : State) (hs : P s) : P (withdraw i s) :=
  h.becomeIdle _ _ (h.routine.removeRequest i s hs)

theorem startStream (i : StreamIdx) (n : Nat) (s : State) (hs : P s) : P (startStream i n s) := by
  have h1 := h.leaveIdle i s hs
  unfold Machine.startStream
  dsimp only
  split
  · exact h.placed h1 (.becomeWaiting i n _ _)
  · exact h.placed h1 (((Placed.attach n i _).trans (.modStream i _ _)).trans (.holdNoBin i n _))

theorem idleRule (i : StreamIdx) (prev : Option Lookup) (s : State) (hs : P s) : P (idleRule i prev s) := by
  have hno : P (noLot i prev s) := by
    unfold noLot
    split
    · exact hs
    · exact h.raise _ _ _ hs
  unfold Machine.idleRule
  dsimp only
  split
  · split
    · split
      · split
        · exact h.startStream i _ s hs
        · exact hs
      · exact hno
    · exact hno
  · exact hs

theorem restartSilence (i : StreamIdx) (s : State) (hs : P s) : P (restartSilence i s) := by
  unfold Machine.restartSilence
  split
  · exact h.modStream i _ s hs
  · exact hs

theorem transitions (i : StreamIdx) (prev : Option Lookup) (emptied : Bool) (s : State) (hs : P s) :
    P (transitions i prev emptied s) := by
  have hw : P (Machine.becomeIdle i (removeRequest i s)) := h.withdraw i s hs
  unfold Machine.transitions
  dsimp only
  split
  case h_1 => exact h.idleRule _ _ _ hs
  case h_2 =>
    split
    · split
      · exact hs
      · exact h.idleRule _ _ _ hw
    · exact hw
  case h_3 =>
    split
    · exact hs
    · exact h.enterDraining _ _ hs
  case h_4 => exact hs
  case h_5 =>
    split
    · exact h.leaveHeld _ _ hs
    · exact hs

theorem examineSteps (i : StreamIdx) (f : SampleFields) (s : State) (hs : P s) : P (examineSteps i f s) :=
  h.restartSilence i _ (h.transitions i _ _ _ (h.restartSilence i _ (h.aside s _ rfl rfl hs)))

/-! ## Activation and changeover -/

theorem activateSteps (i : StreamIdx) (l : List Step) (s : State) (hl : Carriable i l s) (hs : P s) :
    P (l.foldl (fun s st => activateSeg i st.segment s) s) := by
  induction l generalizing s with
  | nil => exact hs
  | cons st l ih =>
    obtain ⟨hst, hi⟩ := hl st List.mem_cons_self
    refine ih _ (fun p hp => ?_) (h.change s st.segment _ rfl (fun hx => hx.carrying hst hi) hs)
    have hkept := hl p (List.mem_cons_of_mem _ hp)
    rw [seg_activateSeg]
    split
    next he => exact ⟨Or.inr rfl, hi⟩
    next => exact hkept

theorem activate (i : StreamIdx) (r : RouteIdx) (s : State) (hl : Carriable i (s.stepsOf r) s) (hs : P s) :
    P (activate i r s) :=
  h.enterFeeding _ _ _ (h.occasion _ (h.dropRequest i _ (h.activateSteps i _ s hl hs)))

theorem moveUnderFlow (i : StreamIdx) (g : SegIdx) (p : Option Nat) (s : State) (hs : P s) :
    P (moveUnderFlow i g p s) := by
  unfold Machine.moveUnderFlow
  dsimp only
  split
  · exact hs
  · split
    next hm =>
      obtain ⟨-, hst, -⟩ := (canMoveUnderFlow_iff _ _ _).mp hm
      exact h.sendSet _ _ _ (h.change s g _ rfl (fun hx => hx.travelling hst _ _) hs)
    next => exact hs

theorem takeStaged (i : StreamIdx) (g : SegIdx) (s : State)
    (hst : (s.seg g).state = .ready ∨ (s.seg g).state = .carrying) (hs : P s) : P (takeStaged i g s) := by
  unfold Machine.takeStaged
  dsimp only
  split
  next hi => exact h.change s g _ rfl (fun hx => hx.carrying hst hi) hs
  next => exact hs

theorem hitSegment (i : StreamIdx) (old : RouteIdx) (st : Step) (s : State) (hl : Takeable old [st] s) (hs : P s) :
    P (hitSegment i old st s) := by
  unfold Machine.hitSegment
  split
  · exact hs
  · split
    · exact h.moveUnderFlow _ _ _ _ hs
    next hon => exact h.takeStaged _ _ _ (hl st List.mem_cons_self (Bool.eq_false_iff.mpr hon)) hs

theorem hitSteps (i : StreamIdx) (old : RouteIdx) (l : List Step) (s : State) (hl : Takeable old l s) (hs : P s) :
    P (l.foldl (fun s st => Machine.hitSegment i old st s) s) := by
  induction l generalizing s with
  | nil => exact hs
  | cons st l ih =>
    have htail : Takeable old l s := fun p hp => hl p (List.mem_cons_of_mem _ hp)
    have hhead : Takeable old [st] s := fun p hp => hl p (List.mem_cons.mpr (Or.inl (List.mem_singleton.mp hp)))
    exact ih _ (htail.hitSegment i st) (h.hitSegment i old st s hhead hs)

theorem carryHit {b : BinIdx} {old new : RouteIdx} (hst : (s.stream i).state ≠ .draining)
    (hhit : stagedHit s i b = some (old, new)) (hs : P s) : P (carryHit i old new s) := by
  have hreleased := Kept.foldl (P := P) (fun s o => Machine.releaseSeg i o.segment s)
    (fun s o => h.routine.releaseSeg i (Step.segment o) s)
    ((s.stepsOf old).filter fun o => !s.routeHas new o.segment) s hs
  have hsteps := h.hitSteps i old (s.stepsOf new) _ (takeable_of_stagedHit hhit hst) hreleased
  exact h.modStream i (fun x => { x with permit := some permitPeriod }) _ (h.routine.sendPermit _ _ _
    (h.routine.staging _ i none (h.routine.refresh _
      (h.modStream i (fun x => { x with activeRoute := some new }) _ hsteps))))

/-! ## The end of a restart interval -/

theorem restartBlocks (s : State) (hs : P s) : P (restartBlocks s) := by
  have hstages : RestartStages s _ _ _ _ _ _ := ⟨rfl, rfl, rfl, rfl, rfl, rfl⟩
  rw [hstages.restartBlocks_eq]
  exact h.raise _ _ _ (Kept.forEach (P := P) _ h.restartSeg _ (Kept.forEach (P := P) _
    (fun b s hs => h.bin s b _ { misses := fun _ => Nat.zero_le _ } hs) _
    (h.aside s _ hstages.asked_segs hstages.asked_bins hs)))

/-! ## Every step -/

theorem upheld : Upheld P where
  toRoutine := h.routine
  completeCapture s c d _ _ hs := by
    rw [completeCapture_eq]
    exact h.aside s _ (endCapture_segs _ _) (endCapture_bins _ _) hs
  endCapture s o hs := h.aside s _ (by simp) (by simp) hs
  endUnlock s c hs := h.aside s _ (by simp) (by simp) hs
  calenFall s hs := h.aside s _ (endUnlock_segs _ _) (endUnlock_bins _ _) hs
  calenRise s hs := h.aside s _ rfl rfl hs
  judgeReport s g eq := h.judgeReport g eq s
  faultSeg s g := h.faultSeg
  endFlush s g hst := h.endFlush (by simp [hst])
  clearFault s g := h.clearFault
  storeSegConfig := h.store
  addReason s i r _ := h.addReason i r s
  removeReason s i r _ := h.removeReason i r s
  grossSample s i f m hs := h.raise _ _ _ (h.addReason i .meter _ (h.modStream i _ s hs))
  deleteSuspect s i hs := h.removeReason i .meter _ (h.modStream i _ s hs)
  enterDraining s i _ := h.enterDraining i s
  endDraining s i _ hs := h.exitTest i _ (h.modStream i _ s hs)
  withdraw s i _ := h.withdraw i s
  examineSteps s i f := h.examineSteps i f s
  activate s i q r hq hr hcan := by
    obtain ⟨hi, -⟩ := requestOf_eq_some hq
    exact h.activate i r s (carriable_of_canActivate hi hr hcan)
  carryHit s i b old new hst := h.carryHit (by simp [hst])
  restartBlocks s := h.restartBlocks s

/-- The answers about calibrations, unlocks and captures stand beside the segments. -/
theorem entrusted (s : State) (hs : P s) : Entrusted P s where
  calibration a := Answer.keeps_indexed fun i => by
    split
    · trivial
    · split
      · trivial
      · split
        · trivial
        · split
          · exact h.aside s _ rfl rfl hs
          · split
            · exact h.aside s _ rfl rfl hs
            · trivial
  unlock a := Answer.keeps_indexed fun i => by
    split
    · trivial
    · split
      · trivial
      · split
        · trivial
        · exact h.aside s _ (endUnlock_segs _ _) (endUnlock_bins _ _) hs
  capture a := Answer.keeps_indexed fun i => by
    split
    · trivial
    · split
      · trivial
      · split
        · trivial
        · split
          · trivial
          · exact h.aside s _ rfl rfl hs

/-- Every step leaves the property true that every reset brings about. -/
theorem step (hreset : ∀ (straps : BitVec 6) calen l, P (State.resetWith straps.toNat calen l)) (s t : State)
    (hs : P s) (ht : step s = .next t) : P t :=
  h.upheld.step h.entrusted hreset s t hs ht

end SegWalk
end Sys2Proof.Machine
end

section
/-! Every step keeps the segments' records as their states require (R84, R86, R87). -/

namespace Sys2Proof.Machine

variable {s t : State} {g : SegIdx}

/-! ## What a stored configuration leaves of a segment's record -/

theorem setInlet_segs (b : Option BinIdx) (g : Option SegIdx) (s : State) : (setInlet b g s).segs = s.segs := by
  unfold setInlet
  split <;> rfl

/-- The record takes the configuration, and may lose its two positions. -/
theorem storeSegConfig_segs (g : SegIdx) (c : Option SegConfig) (s : State) :
    ∃ p r, (storeSegConfig g c s).segs = s.segs.set g { s.seg g with config := c, commanded := p, reported := r } := by
  have hstored : ∀ y, (if (s.seg g).gateBin = ({ s.seg g with config := c } : Segment).gateBin then s.putSeg g y
      else setInlet ({ s.seg g with config := c } : Segment).gateBin (some g)
        (setInlet (s.seg g).gateBin none (s.putSeg g y))).occasion.segs = s.segs.set g y := fun y => by
    show (ite _ _ _ : State).segs = _
    split
    · rfl
    · rw [setInlet_segs, setInlet_segs]
      rfl
  unfold storeSegConfig
  dsimp only
  rw [hstored]
  split
  · split
    · exact ⟨_, _, rfl⟩
    · exact ⟨_, _, rfl⟩
  · split
    · exact ⟨_, _, rfl⟩
    · exact ⟨_, _, rfl⟩

/-! ## The law of every segment -/

namespace SegmentLaw

theorem of_segs (h : SegmentLaw s) (ht : t.segs = s.segs) : SegmentLaw t := fun g => by
  rw [seg_congr ht]
  exact h g

theorem set (h : SegmentLaw s) {x : Segment} (hx : x.Law) (ht : t.segs = s.segs.set g x) : SegmentLaw t := fun j => by
  rw [State.seg, ht, Tbl.get_set]
  split
  · exact hx
  · exact h j

theorem tick_calm (x : Segment) : x.Calm x.tick := rfl

theorem segWalk : SegWalk SegmentLaw where
  aside _ _ ht _ h := h.of_segs ht
  bin _ _ _ _ h := h.of_segs rfl
  tick s h g := by
    rw [seg_tickMs]
    exact (h g).calm (tick_calm _)
  put s g _ _ _ hx h := h.set (hx (h g)) rfl
  change s g x _ hx h := (h.set (t := s.putSeg g x) (hx (h g)) rfl).of_segs (BinsMoved.changeSeg g x s).segs
  store s g c hst hc h := by
    obtain ⟨p, r, ht⟩ := storeSegConfig_segs g c s
    exact h.set ((h g).configuredAs hst p r fun d hd => (hc d hd).2) ht

end SegmentLaw

/-- Settles O9. -/
theorem segmentLawKept : Obligations.SegmentLawKept := by
  intro s t hs ht
  refine SegmentLaw.segWalk.step (fun straps calen l => ?_) s t hs ht
  obtain ⟨-, -, -, -, hsegments, -⟩ := resetMeetsEveryLaw.2 straps calen l
  exact hsegments

end Sys2Proof.Machine
end

section
/-! Every step keeps each bin's inlet gate and gate marks true of the gate (R84, R131, R132). -/

namespace Sys2Proof.Machine

variable {s t u : State} {g j : SegIdx} {b c : BinIdx}

/-! ## Judgement and emptiness test, as updates of every bin -/

theorem BinStep.refl (x : Bin) : BinStep x x := {}

theorem BinStep.trans {x y z : Bin} (h : BinStep x y) (h' : BinStep y z) : BinStep x z where
  fill := h'.fill ∘ h.fill
  misses := h'.misses ∘ h.misses
  config := h'.config ∘ h.config
  inletGate := h'.inletGate.trans h.inletGate
  gateCarrying := h'.gateCarrying.trans h.gateCarrying
  gateReserved := h'.gateReserved.trans h.gateReserved
  filling hz := (h'.filling hz).elim h.filling fun hc => Or.inr (h.gateCarrying ▸ hc)
  available hz := (h'.available hz).elim h.available fun hc => Or.inr (by rwa [h.gateCarrying, h.gateReserved] at hc)

theorem BinStep.afterJudgement (x : Bin) (k : BinConfig) : BinStep x (x.afterJudgement k) := by
  have hform := BinStep.formLevels x k
  obtain ⟨hfill, havail⟩ := judgedState_cases x k
  unfold Bin.afterJudgement
  split
  · exact hform
  · refine hform.trans (BinStep.withState ?_ ?_) <;> rw [formLevels_state, hform.gateCarrying]
    · exact hfill
    · exact fun ha => (havail ha).imp_right Or.inl

/-- Every bin is in `t` as a step from `s` leaves it. -/
def BinsStepped (s t : State) : Prop := ∀ b, BinStep (s.bin b) (t.bin b)

namespace BinsStepped

theorem trans (h : BinsStepped s t) (h' : BinsStepped t u) : BinsStepped s u := fun b => (h b).trans (h' b)

theorem of_bins (h : t.bins = s.bins) : BinsStepped s t := fun b => by
  rw [bin_congr h]
  exact .refl _

theorem putBin {x : Bin} (h : BinStep (s.bin b) x) : BinsStepped s (s.putBin b x) := fun c => by
  rw [State.bin_putBin]
  split
  next hc => exact hc ▸ h
  next => exact .refl _

theorem judgeBin (b : BinIdx) (s : State) : BinsStepped s (judgeBin b s) := fun c => by
  by_cases hc : c = b
  · subst hc
    cases hk : (s.bin c).config with
    | none =>
      rw [judgeBin_of_not_config hk]
      exact .refl _
    | some k =>
      rw [bin_judgeBin_self hk]
      exact .afterJudgement _ k
  · rw [bin_judgeBin_other hc]
    exact .refl _

theorem emptinessTest (b : BinIdx) (s : State) : BinsStepped s (emptinessTest b s) := by
  have hcleared : BinsStepped s (clearedBin b s) := by
    have hput := putBin (b := b) (s := s) (x := { s.bin b with fill := 0, cls := none })
      { fill := fun _ => Nat.zero_le _ }
    unfold clearedBin
    split <;> exact hput
  by_cases he : (s.bin b).isEmpty = true
  · rw [emptinessTest_of_passes he]
    split
    · exact hcleared
    · exact hcleared.trans (judgeBin _ _)
  · rw [emptinessTest_of_not he]
    exact of_bins rfl

end BinsStepped

/-- The bin named, if any, takes the gate given, with both marks clear (R132). -/
theorem bin_setInlet (o : Option BinIdx) (g : Option SegIdx) (s : State) (b : BinIdx) : (setInlet o g s).bin b =
    if o = some b then { s.bin b with inletGate := g, gateCarrying := false, gateReserved := false } else s.bin b := by
  cases o with
  | none => rfl
  | some c =>
    show (s.putBin c _).bin b = _
    rw [State.bin_putBin]
    by_cases hc : c = b
    · subst hc; simp
    · simp [hc]

/-! ## The law of one bin -/

/-- Bin `b`, with record `x`, knows the gate that feeds it among the segments of `s`, and its marks are true of it. -/
structure Bin.Gated (s : State) (b : BinIdx) (x : Bin) : Prop where
  inlet : ∀ g, x.inletGate = some g → (s.seg g).gateBin = some b ∧
    (x.gateCarrying = true ↔ (s.seg g).state = .carrying) ∧ (x.gateReserved = true ↔ (s.seg g).state ≠ .free)
  none : x.inletGate = none → x.gateCarrying = false ∧ x.gateReserved = false
  filling : x.state = .filling → x.gateCarrying = true
  available : x.state = .available → x.gateCarrying = false

theorem gateLaw_iff : GateLaw s ↔
    (∀ g b, (s.seg g).gateBin = some b → (s.bin b).inletGate = some g) ∧ ∀ b, (s.bin b).Gated s b :=
  ⟨fun h => ⟨h.gate, fun b => ⟨h.inlet b, h.none b, h.filling b, h.available b⟩⟩,
    fun ⟨hgate, h⟩ => ⟨hgate, fun b => (h b).inlet, fun b => (h b).none, fun b => (h b).filling,
      fun b => (h b).available⟩⟩

namespace Bin.Gated

variable {x y : Bin} (h : x.Gated s b)
include h

/-- A bin whose gate is not reserved is not fed (R132). -/
theorem not_carrying (hr : x.gateReserved = false) : x.gateCarrying = false := by
  cases hg : x.inletGate with
  | none => exact (h.none hg).1
  | some g =>
    obtain ⟨-, hcarry, hres⟩ := h.inlet g hg
    have hfree : (s.seg g).state = .free := by
      by_contra hne
      rw [hres.mpr hne] at hr
      cases hr
    rw [Bool.eq_false_iff, ne_eq, hcarry, hfree]
    simp

theorem step (hxy : BinStep x y) : y.Gated s b where
  inlet g hg := by
    rw [hxy.gateCarrying, hxy.gateReserved]
    exact h.inlet g (hxy.inletGate ▸ hg)
  none hg := by
    rw [hxy.gateCarrying, hxy.gateReserved]
    exact h.none (hxy.inletGate ▸ hg)
  filling hst := by
    rw [hxy.gateCarrying]
    exact (hxy.filling hst).elim h.filling id
  available hst := by
    rw [hxy.gateCarrying]
    obtain hx | hx | hx := hxy.available hst
    · exact h.available hx
    · exact hx
    · exact h.not_carrying hx

/-- The law speaks of no other segment than the gate. -/
theorem of_seg (hseg : ∀ g, x.inletGate = some g →
    (t.seg g).gateBin = (s.seg g).gateBin ∧ (t.seg g).state = (s.seg g).state) : x.Gated t b where
  inlet g hg := by
    obtain ⟨hbin, hst⟩ := hseg g hg
    rw [hbin, hst]
    exact h.inlet g hg
  none := h.none
  filling := h.filling
  available := h.available

end Bin.Gated

/-! ## The law of every bin -/

namespace GateLaw

theorem gated (h : GateLaw s) (b : BinIdx) : (s.bin b).Gated s b := (gateLaw_iff.mp h).2 b

/-- No bin has two gates. -/
theorem eq_of_gateBin (h : GateLaw s) (hg : (s.seg g).gateBin = some b) (hj : (s.seg j).gateBin = some b) : j = g :=
  Option.some.inj ((h.gate j b hj).symm.trans (h.gate g b hg))

theorem stepped (h : GateLaw s) (hsegs : t.segs = s.segs) (hbins : BinsStepped s t) : GateLaw t := by
  refine gateLaw_iff.mpr ⟨fun g b hg => ?_, fun b => ?_⟩
  · rw [(hbins b).inletGate]
    exact h.gate g b (by rwa [seg_congr hsegs] at hg)
  · exact ((h.gated b).step (hbins b)).of_seg fun g _ => by rw [seg_congr hsegs]; exact ⟨rfl, rfl⟩

/-- A segment's record that has the gate's bin as before, and its state when there is one. -/
theorem putSeg (h : GateLaw s) {x : Segment} (hbin : x.gateBin = (s.seg g).gateBin)
    (hst : x.state = (s.seg g).state ∨ x.gateBin = Option.none) : GateLaw (s.putSeg g x) := by
  have hseg : ∀ j, ((s.putSeg g x).seg j).gateBin = (s.seg j).gateBin := fun j => by
    rw [State.seg_putSeg]
    split
    next he => rw [hbin, he]
    next => rfl
  refine gateLaw_iff.mpr ⟨fun j b hj => h.gate j b (by rwa [hseg] at hj), fun b => ?_⟩
  refine (h.gated b).of_seg fun j hj => ⟨hseg j, ?_⟩
  obtain ⟨hjb, -⟩ := (h.gated b).inlet j hj
  rw [State.seg_putSeg]
  split
  next he =>
    obtain hst | hnone := hst
    · rw [hst, he]
    · rw [hbin, he, hjb] at hnone
      cases hnone
  next => rfl

/-- The gate of bin `b` takes another state, and the bin's marks with it. -/
theorem putGate (h : GateLaw s) {x : Segment} (hbin : x.gateBin = (s.seg g).gateBin) (hb : x.gateBin = some b)
    {m : Bin} (hinlet : m.inletGate = (s.bin b).inletGate) (hcarry : m.gateCarrying = decide (x.state = .carrying))
    (hres : m.gateReserved = decide (x.state ≠ .free)) (hfill : m.state = .filling → m.gateCarrying = true)
    (havail : m.state = .available → m.gateCarrying = false) : GateLaw ((s.putSeg g x).putBin b m) := by
  have hgb : (s.seg g).gateBin = some b := hbin ▸ hb
  have hgate := h.gate g b hgb
  have hsegbin : ∀ j, ((s.putSeg g x).seg j).gateBin = (s.seg j).gateBin := fun j => by
    rw [State.seg_putSeg]
    split
    next he => rw [hbin, he]
    next => rfl
  refine gateLaw_iff.mpr ⟨fun j c hj => ?_, fun c => ?_⟩
  · have hold := h.gate j c ((hsegbin j).symm.trans hj)
    rw [State.bin_putBin]
    split
    next he => rw [hinlet, he, hold]
    next => exact hold
  · rw [State.bin_putBin]
    split
    next he =>
      subst he
      have hself : ((s.putSeg g x).putBin b m).seg g = x := State.seg_putSeg_self s g x
      refine ⟨fun j hj => ?_, fun hnone => ?_, hfill, havail⟩
      · obtain rfl : g = j := Option.some.inj (hgate.symm.trans (hinlet.symm.trans hj))
        rw [hself]
        exact ⟨hb, by simp [hcarry], by simp [hres]⟩
      · rw [hinlet, hgate] at hnone
        cases hnone
    next hne =>
      refine (h.gated c).of_seg fun j hj => ?_
      have hjg : g ≠ j := fun he => by
        obtain ⟨hjc, -⟩ := (h.gated c).inlet j hj
        rw [← he, hgb] at hjc
        exact hne (Option.some.inj hjc)
      have hj' : ((s.putSeg g x).putBin b m).seg j = s.seg j := (State.seg_putSeg s g j x).trans (if_neg hjg)
      rw [hj']
      exact ⟨rfl, rfl⟩

/-- The emptiness test of a gate that has become FREE keeps the law. -/
theorem tested (h : GateLaw s) (b : BinIdx) (p : Prop) [Decidable p] :
    GateLaw (if p then emptinessTest b s else s) := by
  split
  · exact h.stepped (BinsMoved.emptinessTest b s).segs (.emptinessTest b s)
  · exact h

/-- The bin learns of its gate's new state, and is FILLING while the gate is CARRYING (R131, R132). -/
theorem gateChanged (h : GateLaw s) {x : Segment} (hbin : x.gateBin = (s.seg g).gateBin) (hb : x.gateBin = some b) :
    GateLaw (gateChanged b x.state (s.putSeg g x)) := by
  have hput : ∀ st : BinState, (st = .filling → decide (x.state = .carrying) = true) →
      (st = .available → decide (x.state = .carrying) = false) →
      GateLaw ((s.putSeg g x).putBin b (((s.bin b).withGate x.state).withState st)) := fun st hf ha =>
    h.putGate hbin hb (repoll_inletGate _ _) (repoll_gateCarrying _ _) (repoll_gateReserved _ _)
      (fun hm => (repoll_gateCarrying _ _).trans (hf ((repoll_state _ _).symm.trans hm)))
      fun hm => (repoll_gateCarrying _ _).trans (ha ((repoll_state _ _).symm.trans hm))
  unfold Machine.gateChanged
  dsimp only
  refine tested ?_ b _
  rw [State.bin_putSeg]
  split
  next hc =>
    simp only [Bin.withGate, Bool.and_eq_true] at hc
    exact (hput .filling (fun _ => hc.1.1) nofun).stepped rfl (.of_bins rfl)
  next hno =>
    split
    next hc =>
      simp only [Bin.withGate, Bool.and_eq_true, Bool.not_eq_true'] at hc
      have havail := hput .available nofun fun _ => hc.1.2
      have hemitted : GateLaw (((s.putSeg g x).putBin b (((s.bin b).withGate x.state).withState .available)).emit
          (.bin b)) := havail.stepped rfl (.of_bins rfl)
      exact hemitted.stepped (BinsMoved.judgeBin b _).segs (.judgeBin b _)
    next hno' =>
      have hgated := h.gated b
      refine h.putGate hbin hb rfl rfl rfl (fun hst => ?_) fun hst => ?_
      · have hfill : (s.bin b).state = .filling := hst
        simpa [Bin.withGate, hfill, hgated.filling hfill] using hno'
      · have havail : (s.bin b).state = .available := hst
        simpa [Bin.withGate, havail, hgated.available havail] using hno

theorem changeSeg (h : GateLaw s) {x : Segment} (hbin : x.gateBin = (s.seg g).gateBin) :
    GateLaw (changeSeg g x s) := by
  unfold Machine.changeSeg
  dsimp only
  split
  next b hb =>
    split
    next hst => exact h.putSeg hbin (Or.inl hst)
    next => exact h.gateChanged hbin hb
  next hb => exact h.putSeg hbin (Or.inr hb)

/-! ## Another configuration (R85) -/

/-- A FREE segment's gate feeds another bin, which no other segment's does. -/
theorem setInlet (h : GateLaw s) {x : Segment} (hfree : (s.seg g).state = .free) (hst : x.state = .free)
    (hbin : (s.seg g).gateBin ≠ x.gateBin) (hother : ∀ j b, x.gateBin = some b → j ≠ g → (s.seg j).gateBin ≠ some b) :
    GateLaw (setInlet x.gateBin (some g) (setInlet (s.seg g).gateBin Option.none (s.putSeg g x))) := by
  set t := Machine.setInlet x.gateBin (some g) (Machine.setInlet (s.seg g).gateBin Option.none (s.putSeg g x)) with ht
  have hseg : ∀ j, t.seg j = if g = j then x else s.seg j := fun j => by
    rw [ht, seg_congr (setInlet_segs _ _ _), seg_congr (setInlet_segs _ _ _), State.seg_putSeg]
  have hnew : ∀ b, x.gateBin = some b → t.bin b =
      { s.bin b with inletGate := some g, gateCarrying := false, gateReserved := false } := fun b hb => by
    have hne : ¬(s.seg g).gateBin = some b := fun he => hbin (he.trans hb.symm)
    rw [ht, bin_setInlet, if_pos hb, bin_setInlet, if_neg hne, State.bin_putSeg]
  have hleft : ∀ b, (s.seg g).gateBin = some b → t.bin b =
      { s.bin b with inletGate := Option.none, gateCarrying := false, gateReserved := false } := fun b hb => by
    have hne : ¬x.gateBin = some b := fun he => hbin (hb.trans he.symm)
    rw [ht, bin_setInlet, if_neg hne, bin_setInlet, if_pos hb, State.bin_putSeg]
  have hkept : ∀ b, x.gateBin ≠ some b → (s.seg g).gateBin ≠ some b → t.bin b = s.bin b := fun b hx hs => by
    rw [ht, bin_setInlet, if_neg hx, bin_setInlet, if_neg hs, State.bin_putSeg]
  have hself : t.seg g = x := by rw [hseg, if_pos rfl]
  have hothers : ∀ j, j ≠ g → t.seg j = s.seg j := fun j hj => by rw [hseg, if_neg hj.symm]
  refine gateLaw_iff.mpr ⟨fun j b hj => ?_, fun b => ?_⟩
  · by_cases hjg : j = g
    · subst hjg
      rw [hnew b (hself ▸ hj)]
    · rw [hothers j hjg] at hj
      rw [hkept b (fun hb => hother j b hb hjg hj) fun hb => hjg (h.eq_of_gateBin hb hj)]
      exact h.gate j b hj
  · by_cases hb : x.gateBin = some b
    · have hnogate : (s.bin b).inletGate = Option.none := by
        by_contra hne
        obtain ⟨j, hj⟩ := Option.ne_none_iff_exists'.mp hne
        obtain ⟨hjb, -⟩ := h.inlet b j hj
        by_cases hjg : j = g
        · exact hbin (hjg ▸ hjb.trans hb.symm)
        · exact hother j b hb hjg hjb
      rw [hnew b hb]
      refine ⟨fun j hj => ?_, nofun, fun hf => ?_, fun _ => rfl⟩
      · obtain rfl : g = j := Option.some.inj hj
        rw [hself]
        exact ⟨hb, by simp [hst], by simp [hst]⟩
      · have hcarry := h.filling b hf
        rw [(h.none b hnogate).1] at hcarry
        cases hcarry
    · by_cases hold : (s.seg g).gateBin = some b
      · rw [hleft b hold]
        refine ⟨nofun, fun _ => ⟨rfl, rfl⟩, fun hf => ?_, fun _ => rfl⟩
        obtain ⟨-, hcarry, -⟩ := h.inlet b g (h.gate g b hold)
        have hcarrying := hcarry.mp (h.filling b hf)
        rw [hfree] at hcarrying
        cases hcarrying
      · rw [hkept b hb hold]
        refine (h.gated b).of_seg fun j hj => ?_
        obtain ⟨hjb, -⟩ := h.inlet b j hj
        have hjg : j ≠ g := fun he => hold (he ▸ hjb)
        rw [hothers j hjg]
        exact ⟨rfl, rfl⟩

theorem storeSegConfig (h : GateLaw s) {c : Option SegConfig} (hfree : (s.seg g).state = .free)
    (hc : ∀ d, c = some d → segmentDuplicate s g d.kind = false) : GateLaw (storeSegConfig g c s) := by
  have hother : ∀ j b, ({ s.seg g with config := c } : Segment).gateBin = some b → j ≠ g →
      (s.seg j).gateBin ≠ some b := fun j b hb hj hjb => by
    cases hcd : c with
    | none => rw [hcd] at hb; cases hb
    | some d =>
      rw [hcd] at hb
      have hdup := (segmentDuplicate_iff s g d.kind).mpr (Or.inr ⟨b, j, hb, hj, hjb⟩)
      rw [hc d hcd] at hdup
      cases hdup
  have hstored : ∀ x : Segment, x.state = .free → x.gateBin = ({ s.seg g with config := c } : Segment).gateBin →
      GateLaw (if (s.seg g).gateBin = ({ s.seg g with config := c } : Segment).gateBin then s.putSeg g x
        else Machine.setInlet ({ s.seg g with config := c } : Segment).gateBin (some g)
          (Machine.setInlet (s.seg g).gateBin Option.none (s.putSeg g x))) := fun x hst hx => by
    rw [← hx] at hother ⊢
    split
    next he => exact h.putSeg he.symm (Or.inl (hst.trans hfree.symm))
    next hne => exact h.setInlet hfree hst hne hother
  unfold Machine.storeSegConfig
  dsimp only
  refine stepped (hstored _ ?_ ?_) rfl (.of_bins rfl)
  · split <;> split <;> exact hfree
  · split <;> split <;> rfl

theorem tick (h : GateLaw s) : GateLaw (tickMs s) := by
  have hseg : ∀ g, ((tickMs s).seg g).gateBin = (s.seg g).gateBin ∧ ((tickMs s).seg g).state = (s.seg g).state :=
    fun g => by rw [seg_tickMs]; exact ⟨rfl, rfl⟩
  refine gateLaw_iff.mpr ⟨fun g b hg => ?_, fun b => ?_⟩
  · rw [bin_tickMs]
    exact h.gate g b ((hseg g).1 ▸ hg)
  · rw [bin_tickMs]
    exact ((h.gated b).step (y := (s.bin b).tick) {}).of_seg fun g _ => hseg g

theorem gateBin_congr {x y : Segment} (h : y.config = x.config) : y.gateBin = x.gateBin := by
  unfold Segment.gateBin Segment.segKind
  rw [h]

theorem segWalk : SegWalk GateLaw where
  aside _ _ hsegs hbins h := h.stepped hsegs (.of_bins hbins)
  bin _ _ _ hx h := h.stepped rfl (.putBin hx)
  tick _ h := h.tick
  put _ _ _ hc hst _ h := h.putSeg (gateBin_congr hc) (Or.inl hst)
  change _ _ _ hc _ h := h.changeSeg (gateBin_congr hc)
  store _ _ _ hst hc h := h.storeSegConfig hst fun d hd => (hc d hd).1

end GateLaw

/-- Settles O10. -/
theorem gateLawKept : Obligations.GateLawKept := by
  intro s t hs ht
  refine GateLaw.segWalk.step (fun straps calen l => ?_) s t hs ht
  obtain ⟨-, -, -, -, -, hgates, -⟩ := resetMeetsEveryLaw.2 straps calen l
  exact hgates

end Sys2Proof.Machine
end
